-- ==== Sys2Proof/Word.lean ====
section
/-!
DEFINITION. The wire's word widths. A frame carries numbers of one to four bytes (10.3 of
spec/10_ports_frames_and_attention.md); amounts, revisions and counts inside the part are `Nat`.
-/

namespace Sys2Proof

/-- One byte of a frame. -/
abbrev Byte := BitVec 8

/-- A 2-byte field: a packed check key, a revision, a serial, a mask of causes. -/
abbrev Half := BitVec 16

/-- A 3-byte amount field. -/
abbrev Tri := BitVec 24

/-- A 4-byte amount field. -/
abbrev Quad := BitVec 32

end Sys2Proof
end

