-- ==== Sys2Proof/Config.lean ====
section
/-!
DEFINITION. What is fixed in the part (00_scope.md 6, "Collections at a glance") and the one value
the spec leaves open. The values that firmware configures (CONFIG_1 to CONFIG_4) are state.
-/

namespace Sys2Proof.Config

/-- Item records in the Item Pool (R41). -/
def poolSize : Nat := 512
/-- Item records on one check or one image (R42). -/
def itemsPerCheck : Nat := 48
/-- Slots of the Tender Ring (R81). -/
def ringSize : Nat := 16
/-- Entries of the Late Window (R101). -/
def lateWindowSize : Nat := 4
/-- Places in the Uplink Queue, and the bound of U (R143, R147). -/
def uplinkSize : Nat := 48
/-- Checks one port may hold (R64). -/
def holdsPerPort : Nat := 4
/-- The greatest amount of the general range (00_scope.md 4). -/
def maxAmount : Nat := 9999999
/-- The greatest due, and so the greatest share target (R4, R55). -/
def maxDue : Nat := 12499998
/-- The greatest value of a 4-byte amount: approved, tips, totals, surplus (1.1, R114). -/
def maxQuad : Nat := 4294967295
/-- The greatest value of a 2-byte count or revision (R3, R114). -/
def maxHalf : Nat := 65535
/-- The wake time, in milliseconds (R186). -/
def wakeMillis : Nat := 2
/-- The shortest RESET assertion that is a cold reset, in microseconds (R180). -/
def resetMicros : Nat := 10

/-- FREE VALUE (log 14): what `approved` reads after an addition that would carry it above
4,294,967,295. R4 and R55 give the field that range and state no result there. Applied to the old
value and the amount added. -/
opaque approvedBeyondRange : Nat → Nat → Quad

end Sys2Proof.Config
end

