-- ==== Sys2Proof/Syntax.lean ====
section
/-!
DEFINITION. The commands of the part, one constructor for each row of spec/opcode_table.json, with
their operands at the widths the wire gives them (10.3 of spec/10_ports_frames_and_attention.md).
-/

namespace Sys2Proof

/-- The three ports (00_scope.md 1.2). -/
inductive Port where
  | console
  | tender
  | link
  deriving DecidableEq, Repr

/-- What every 64-byte exchange carries beside its code and its fields (R170, 10.3). -/
structure Exch where
  /-- The port whose chip-select period this is. -/
  port : Port
  /-- Byte 1: echoed by the reply and not interpreted (R173). -/
  tag : Byte
  /-- Byte 2: the body length the frame states (R172, R173 test 4). -/
  len : Byte
  /-- Chip-select became active before the reply of the port's earlier exchange was placed (R170). -/
  early : Bool
  /-- A cold reset, or the release of RESET, came while the exchange was in progress, which discards
  it (R170, R180, log 30). -/
  cut : Bool
  deriving DecidableEq, Repr

/-- One modifier place of an item record on the wire: code (2), price delta (3). -/
structure ModWire where
  code : Half
  delta : Tri
  deriving DecidableEq, Repr

/-- An item record on the wire, 27 bytes (10.3). `marks` is byte 3: seat in bits 0 to 3, status in
bit 4, source in bit 5. The line amount is carried and ignored on input. -/
structure ItemWire where
  serial : Byte
  menu : Half
  marks : Byte
  quantity : Byte
  price : Tri
  modCount : Byte
  mod1 : ModWire
  mod2 : ModWire
  mod3 : ModWire
  line : Tri
  deriving DecidableEq, Repr

/-- The fields of TENDER_POST after its class: share, base, tip mode, fixed tip (10.3). -/
structure PostWire where
  share : Byte
  base : Tri
  tipMode : Byte
  fixedTip : Tri
  deriving DecidableEq, Repr

/-- The six bytes of a reference (10.3). -/
structure RefWire where
  c1 : Byte
  c2 : Byte
  c3 : Byte
  c4 : Byte
  c5 : Byte
  c6 : Byte
  deriving DecidableEq, Repr

/-- The fields of TENDER_RESULT beside its serial and outcome (10.3). -/
structure ResultWire where
  amount : Tri
  tip : Tri
  ref : RefWire
  cardClass : Byte
  tail : Half
  offline : Byte
  deriving DecidableEq, Repr

/-- Why a cold reset is taken (R180): power-up, or RESET asserted for this many microseconds. -/
inductive ResetCause where
  | powerUp
  | asserted (micros : Nat)
  deriving DecidableEq, Repr

/-- The commands. A request's operands are the fields of its body, whatever their values; the row
that stands first for a request with several rows also carries the byte that chooses among them, so
that a value that chooses none of them is a command too (log 6). -/
inductive Instr where
  | nop (x : Exch)
  | status (x : Exch)
  | attnRead (x : Exch)
  | attnClear (x : Exch) (mask : Half)
  | attnEnable (x : Exch) (mask : Half)
  | portReset (x : Exch)
  | config1 (x : Exch) (terminalId pinFloor : Byte)
  | config2 (x : Exch) (taxRate : Half) (lease : Byte) (timeout : Half)
  | config3 (x : Exch) (single : Tri) (exposureCap : Quad) (countCap : Byte)
  | config4 (x : Exch) (window wakes : Byte)
  /-- POWER with any mode byte but SLEEP's. -/
  | powerDoze (x : Exch) (mode : Byte)
  | powerSleep (x : Exch)
  | probe (x : Exch) (key : Half) (any : Byte)
  | checkInfo (x : Exch) (index share : Byte)
  | read (x : Exch) (index : Byte)
  | stageGet (x : Exch) (selector : Byte)
  | stageSet (x : Exch) (selection : Byte) (key : Half) (covers seats : Byte)
  | exchange (x : Exch)
  | commit (x : Exch)
  | commitNew (x : Exch)
  | checkClose (x : Exch) (index : Byte) (key : Half)
  /-- RESOLVE with any resolution byte but CLOSE's. -/
  | resolveKeep (x : Exch) (index : Byte) (key : Half) (resolution : Byte)
  | resolveClose (x : Exch) (index : Byte) (key : Half)
  | itemAdd (x : Exch) (index : Byte) (key : Half) (item : ItemWire)
  | itemVoid (x : Exch) (index : Byte) (key : Half) (serial : Byte)
  /-- The elements are the seat masks (BY_SEAT, in the low 16 bits) or the targets (FIXED). -/
  | splitSet (x : Exch) (index : Byte) (key : Half) (basis count : Byte) (elems : List Tri)
  | splitClear (x : Exch) (index : Byte) (key : Half)
  | hold (x : Exch) (index : Byte) (key : Half)
  | renew (x : Exch) (index : Byte) (key : Half)
  | release (x : Exch) (index : Byte) (key : Half)
  /-- STREAM_OPEN with any target byte but ITEMS_WRITE's. -/
  | streamOpenItemsRead (x : Exch) (target index : Byte) (key : Half) (dir start count : Byte)
  | streamOpenItemsWrite (x : Exch) (index : Byte) (key : Half) (dir start count : Byte)
  | streamNext (x : Exch)
  | streamPut (x : Exch) (count : Byte) (items : List ItemWire)
  | streamClose (x : Exch)
  /-- TENDER_POST with any class byte but CASH's. -/
  | tenderPostCard (x : Exch) (index : Byte) (key : Half) (cls : Byte) (post : PostWire)
  | tenderPostCash (x : Exch) (index : Byte) (key : Half) (post : PostWire)
  | tenderCancel (x : Exch) (serial : Half)
  | tenderReap (x : Exch)
  | tenderStatus (x : Exch) (serial : Half)
  | tenderTake (x : Exch)
  | tenderPeek (x : Exch)
  | tenderProgress (x : Exch) (serial : Half) (stage : Byte)
  /-- TENDER_RESULT with any outcome byte but DECLINED's. -/
  | tenderResultApproved (x : Exch) (serial : Half) (outcome : Byte) (result : ResultWire)
  | tenderResultDeclined (x : Exch) (serial : Half) (result : ResultWire)
  | lateClear (x : Exch)
  | totalsLatch (x : Exch)
  | totalsRead (x : Exch)
  | totalsClear (x : Exch)
  /-- LINK_STATE with any link-state byte but DOWN's. -/
  | linkStateUp (x : Exch) (linkState : Byte)
  | linkStateDown (x : Exch)
  | imageBegin (x : Exch) (key server : Half) (owner covers seats count : Byte)
  | imageEnd (x : Exch)
  | imageAbort (x : Exch)
  | retire (x : Exch) (key server : Half)
  | uplinkNext (x : Exch)
  | uplinkAck (x : Exch) (seq : Half)
  | mark (x : Exch)
  /-- A 64-byte exchange whose CRC or body length R172 refuses; `code` is byte 0 as received. -/
  | badFrame (x : Exch) (code : Byte)
  /-- A valid frame whose code is not in the table of 10.4. -/
  | unknownRequest (x : Exch) (code : Byte)
  /-- A chip-select period of another number of bytes than 64 (R170). -/
  | exchangeDiscarded (port : Port) (bytes : Nat)
  | coldReset (cause : ResetCause)
  /-- The lease of the hold on this entry, looked at `elapsed` milliseconds after the command before
  this one (log 3). -/
  | leaseExpiry (index : Fin 64) (elapsed : Nat)
  /-- The tender timer, looked at `elapsed` milliseconds after the command before this one. -/
  | tenderTimeout (elapsed : Nat)
  | wakeAssert
  | wakeByChipSelect (port : Port)
  /-- The wake timer, looked at `elapsed` milliseconds after the command before this one. -/
  | wakeTimerExpiry (elapsed : Nat)
  | resetRelease
  | wakeLineFall
  deriving DecidableEq, Repr

/-- The requests of the code table of 10.4, by the names it gives them. -/
inductive Req where
  | nop | status | attnRead | attnClear | attnEnable | portReset
  | config1 | config2 | config3 | config4 | power
  | probe | checkInfo | read | stageGet | stageSet | exchange | commit | commitNew
  | checkClose | resolve
  | itemAdd | itemVoid | splitSet | splitClear
  | hold | renew | release
  | streamOpen | streamNext | streamPut | streamClose
  | tenderPost | tenderCancel | tenderReap | tenderStatus | tenderTake | tenderPeek
  | tenderProgress | tenderResult | lateClear
  | totalsLatch | totalsRead | totalsClear
  | linkState | imageBegin | imageEnd | imageAbort | retire | uplinkNext | uplinkAck | mark
  deriving DecidableEq, Repr

end Sys2Proof
end

