-- ==== Sys2Proof/Decode.lean ====
section
/-!
DEFINITION. Reading commands. No row of spec/opcode_table.json has bits, so `decodeTableWord` answers
none for every word (log 20). `decodeChipSelect` reads the bytes of one chip-select period into the
command they are: the frame of 10.3, its CRC (R172), the code table of 10.4 (R173) and the request
bodies of 10.3 (R174) of spec/10_ports_frames_and_attention.md.
-/

namespace Sys2Proof

/-- The command a table word spells: none, for the table gives its rows no bits. -/
def decodeTableWord (_nbits _w : Nat) : Option Instr := none

/-- The request code of 10.4. -/
def Req.code : Req → Byte
  | .nop => 0x00 | .status => 0x01 | .attnRead => 0x02 | .attnClear => 0x03
  | .attnEnable => 0x04 | .portReset => 0x05
  | .config1 => 0x08 | .config2 => 0x09 | .config3 => 0x0A | .config4 => 0x0B | .power => 0x0C
  | .probe => 0x10 | .checkInfo => 0x11 | .read => 0x12 | .stageGet => 0x13 | .stageSet => 0x14
  | .exchange => 0x15 | .commit => 0x16 | .commitNew => 0x17 | .checkClose => 0x18
  | .resolve => 0x19
  | .itemAdd => 0x20 | .itemVoid => 0x21 | .splitSet => 0x22 | .splitClear => 0x23
  | .hold => 0x28 | .renew => 0x29 | .release => 0x2A
  | .streamOpen => 0x30 | .streamNext => 0x31 | .streamPut => 0x32 | .streamClose => 0x33
  | .tenderPost => 0x40 | .tenderCancel => 0x41 | .tenderReap => 0x42 | .tenderStatus => 0x43
  | .tenderTake => 0x44 | .tenderPeek => 0x45 | .tenderProgress => 0x46 | .tenderResult => 0x47
  | .lateClear => 0x48
  | .totalsLatch => 0x50 | .totalsRead => 0x51 | .totalsClear => 0x52
  | .linkState => 0x60 | .imageBegin => 0x61 | .imageEnd => 0x62 | .imageAbort => 0x63
  | .retire => 0x64 | .uplinkNext => 0x65 | .uplinkAck => 0x66 | .mark => 0x67

/-- Every request of 10.4, in the order of its table. -/
def Req.table : List Req :=
  [.nop, .status, .attnRead, .attnClear, .attnEnable, .portReset,
   .config1, .config2, .config3, .config4, .power,
   .probe, .checkInfo, .read, .stageGet, .stageSet, .exchange, .commit, .commitNew,
   .checkClose, .resolve, .itemAdd, .itemVoid, .splitSet, .splitClear, .hold, .renew, .release,
   .streamOpen, .streamNext, .streamPut, .streamClose,
   .tenderPost, .tenderCancel, .tenderReap, .tenderStatus, .tenderTake, .tenderPeek,
   .tenderProgress, .tenderResult, .lateClear,
   .totalsLatch, .totalsRead, .totalsClear,
   .linkState, .imageBegin, .imageEnd, .imageAbort, .retire, .uplinkNext, .uplinkAck, .mark]

/-- The request a code byte names, none where 10.4 has no such code. -/
def Req.ofCode (c : Byte) : Option Req := Req.table.find? (fun r => r.code == c)

/-- Who may issue a request: the Ports column of 10.4. -/
def Req.permitted (r : Req) (p : Port) : Bool :=
  match r with
  | .nop | .status | .attnRead | .attnClear | .attnEnable | .portReset
  | .probe | .checkInfo | .hold | .renew | .release
  | .streamOpen | .streamNext | .streamPut | .streamClose => true
  | .tenderTake | .tenderPeek | .tenderProgress | .tenderResult => p == .tender
  | .linkState | .imageBegin | .imageEnd | .imageAbort | .retire | .uplinkNext | .uplinkAck =>
    p == .link
  | _ => p == .console

/-- The length of a request's fields without the elements that a count gives: the Request body
column of 10.3. -/
def Req.fieldBytes : Req → Nat
  | .attnClear | .attnEnable => 2
  | .config1 => 2 | .config2 => 5 | .config3 => 8 | .config4 => 2
  | .power => 1
  | .probe => 3 | .checkInfo => 2 | .read => 1 | .stageGet => 1 | .stageSet => 5
  | .checkClose => 3 | .resolve => 4
  | .itemAdd => 30 | .itemVoid => 4 | .splitSet => 5 | .splitClear => 3
  | .hold | .renew | .release => 3
  | .streamOpen => 7 | .streamPut => 1
  | .tenderPost => 12 | .tenderCancel | .tenderStatus => 2
  | .tenderProgress => 3 | .tenderResult => 19
  | .linkState => 1 | .imageBegin => 8 | .retire => 4 | .uplinkAck => 2
  | _ => 0

/-- The size of one SPLIT_SET element: a seat mask under BY_SEAT (2), a target under FIXED (3),
nothing under EVEN (10.3), and nothing under a byte that is no basis (log 16). -/
def splitElemBytes (basis : Byte) : Nat :=
  if basis = 2 then 2 else if basis = 3 then 3 else 0

/-- The length of an item record on the wire (10.3). -/
def itemWireBytes : Nat := 27

/-! ### The frame check (R172) -/

/-- One bit of the CRC: polynomial 0x1021. -/
def crcBit (c : Half) : Half := if c.msb then (c <<< 1) ^^^ 0x1021 else c <<< 1

/-- One byte of the CRC, most significant bit first. -/
def crcByte (c : Half) (b : Byte) : Half :=
  let c := c ^^^ (b ++ (0 : Byte))
  crcBit (crcBit (crcBit (crcBit (crcBit (crcBit (crcBit (crcBit c)))))))

/-- The CRC-16 of R172: initial value 0xFFFF, no final inversion. -/
def crc16 (bytes : List Byte) : Half := bytes.foldl crcByte 0xFFFF

/-! ### Big-endian fields -/

/-- The byte at a place, zero past the end. -/
def byteAt (l : List Byte) (n : Nat) : Byte := l.getD n 0

/-- The 2-byte field at a place. -/
def halfAt (l : List Byte) (n : Nat) : Half := byteAt l n ++ byteAt l (n + 1)

/-- The 3-byte field at a place. -/
def triAt (l : List Byte) (n : Nat) : Tri := byteAt l n ++ halfAt l (n + 1)

/-- The 4-byte field at a place. -/
def quadAt (l : List Byte) (n : Nat) : Quad := halfAt l n ++ halfAt l (n + 2)

/-- The modifier place at a place: code (2), price delta (3). -/
def modAt (l : List Byte) (n : Nat) : ModWire := ⟨halfAt l n, triAt l (n + 2)⟩

/-- The item record at a place (10.3, "Item record, 27 bytes"). -/
def itemAt (l : List Byte) (n : Nat) : ItemWire where
  serial := byteAt l n
  menu := halfAt l (n + 1)
  marks := byteAt l (n + 3)
  quantity := byteAt l (n + 4)
  price := triAt l (n + 5)
  modCount := byteAt l (n + 8)
  mod1 := modAt l (n + 9)
  mod2 := modAt l (n + 14)
  mod3 := modAt l (n + 19)
  line := triAt l (n + 24)

/-- TENDER_POST's fields after its class, which stands at place 3 of the body. -/
def postAt (l : List Byte) : PostWire := ⟨byteAt l 4, triAt l 5, byteAt l 8, triAt l 9⟩

/-- TENDER_RESULT's fields after its serial and outcome. -/
def resultAt (l : List Byte) : ResultWire where
  amount := triAt l 3
  tip := triAt l 6
  ref := ⟨byteAt l 9, byteAt l 10, byteAt l 11, byteAt l 12, byteAt l 13, byteAt l 14⟩
  cardClass := byteAt l 15
  tail := halfAt l 16
  offline := byteAt l 18

/-- SPLIT_SET's elements: as many as the count gives (R174). -/
def splitElems (b : List Byte) (basis count : Byte) : List Tri :=
  if basis = 2 then
    (List.range count.toNat).map (fun k => (0 : Byte) ++ halfAt b (5 + 2 * k))
  else if basis = 3 then (List.range count.toNat).map (fun k => triAt b (5 + 3 * k))
  else []

/-- STREAM_PUT's items: as many as the count gives, where the count is 1 or 2 (R165). -/
def putItems (b : List Byte) (count : Byte) : List ItemWire :=
  if count = 1 then [itemAt b 1]
  else if count = 2 then [itemAt b 1, itemAt b 28]
  else []

/-- The command of a valid frame: its request with the fields of its body (10.3, "Request and reply
bodies"). -/
def Req.command (r : Req) (x : Exch) (b : List Byte) : Instr :=
  match r with
  | .nop => .nop x
  | .status => .status x
  | .attnRead => .attnRead x
  | .attnClear => .attnClear x (halfAt b 0)
  | .attnEnable => .attnEnable x (halfAt b 0)
  | .portReset => .portReset x
  | .config1 => .config1 x (byteAt b 0) (byteAt b 1)
  | .config2 => .config2 x (halfAt b 0) (byteAt b 2) (halfAt b 3)
  | .config3 => .config3 x (triAt b 0) (quadAt b 3) (byteAt b 7)
  | .config4 => .config4 x (byteAt b 0) (byteAt b 1)
  | .power => if byteAt b 0 = 2 then .powerSleep x else .powerDoze x (byteAt b 0)
  | .probe => .probe x (halfAt b 0) (byteAt b 2)
  | .checkInfo => .checkInfo x (byteAt b 0) (byteAt b 1)
  | .read => .read x (byteAt b 0)
  | .stageGet => .stageGet x (byteAt b 0)
  | .stageSet => .stageSet x (byteAt b 0) (halfAt b 1) (byteAt b 3) (byteAt b 4)
  | .exchange => .exchange x
  | .commit => .commit x
  | .commitNew => .commitNew x
  | .checkClose => .checkClose x (byteAt b 0) (halfAt b 1)
  | .resolve =>
    if byteAt b 3 = 2 then .resolveClose x (byteAt b 0) (halfAt b 1)
    else .resolveKeep x (byteAt b 0) (halfAt b 1) (byteAt b 3)
  | .itemAdd => .itemAdd x (byteAt b 0) (halfAt b 1) (itemAt b 3)
  | .itemVoid => .itemVoid x (byteAt b 0) (halfAt b 1) (byteAt b 3)
  | .splitSet =>
    .splitSet x (byteAt b 0) (halfAt b 1) (byteAt b 3) (byteAt b 4)
      (splitElems b (byteAt b 3) (byteAt b 4))
  | .splitClear => .splitClear x (byteAt b 0) (halfAt b 1)
  | .hold => .hold x (byteAt b 0) (halfAt b 1)
  | .renew => .renew x (byteAt b 0) (halfAt b 1)
  | .release => .release x (byteAt b 0) (halfAt b 1)
  | .streamOpen =>
    if byteAt b 0 = 2 then
      .streamOpenItemsWrite x (byteAt b 1) (halfAt b 2) (byteAt b 4) (byteAt b 5) (byteAt b 6)
    else
      .streamOpenItemsRead x (byteAt b 0) (byteAt b 1) (halfAt b 2) (byteAt b 4) (byteAt b 5)
        (byteAt b 6)
  | .streamNext => .streamNext x
  | .streamPut => .streamPut x (byteAt b 0) (putItems b (byteAt b 0))
  | .streamClose => .streamClose x
  | .tenderPost =>
    if byteAt b 3 = 2 then .tenderPostCash x (byteAt b 0) (halfAt b 1) (postAt b)
    else .tenderPostCard x (byteAt b 0) (halfAt b 1) (byteAt b 3) (postAt b)
  | .tenderCancel => .tenderCancel x (halfAt b 0)
  | .tenderReap => .tenderReap x
  | .tenderStatus => .tenderStatus x (halfAt b 0)
  | .tenderTake => .tenderTake x
  | .tenderPeek => .tenderPeek x
  | .tenderProgress => .tenderProgress x (halfAt b 0) (byteAt b 2)
  | .tenderResult =>
    if byteAt b 2 = 2 then .tenderResultDeclined x (halfAt b 0) (resultAt b)
    else .tenderResultApproved x (halfAt b 0) (byteAt b 2) (resultAt b)
  | .lateClear => .lateClear x
  | .totalsLatch => .totalsLatch x
  | .totalsRead => .totalsRead x
  | .totalsClear => .totalsClear x
  | .linkState => if byteAt b 0 = 0 then .linkStateDown x else .linkStateUp x (byteAt b 0)
  | .imageBegin =>
    .imageBegin x (halfAt b 0) (halfAt b 2) (byteAt b 4) (byteAt b 5) (byteAt b 6) (byteAt b 7)
  | .imageEnd => .imageEnd x
  | .imageAbort => .imageAbort x
  | .retire => .retire x (halfAt b 0) (halfAt b 2)
  | .uplinkNext => .uplinkNext x
  | .uplinkAck => .uplinkAck x (halfAt b 0)
  | .mark => .mark x

/-- The frame check of R172: the CRC over bytes 0 to 61 agrees and the body length is at most 59. -/
def frameOk (bytes : List Byte) : Bool :=
  crc16 (bytes.take 62) == halfAt bytes 62 && decide ((byteAt bytes 2).toNat ≤ 59)

/-- The command that one chip-select period on a port is, by the bytes shifted in (R170, R172,
R173 test 1); `early` and `cut` say when it began (logs 4 and 30). -/
def decodeChipSelect (p : Port) (early cut : Bool) (bytes : List Byte) : Instr :=
  if bytes.length ≠ 64 then .exchangeDiscarded p bytes.length
  else
    let x : Exch := ⟨p, byteAt bytes 1, byteAt bytes 2, early, cut⟩
    if frameOk bytes then
      match Req.ofCode (byteAt bytes 0) with
      | none => .unknownRequest x (byteAt bytes 0)
      | some r => r.command x ((bytes.take 62).drop 3)
    else .badFrame x (byteAt bytes 0)

end Sys2Proof
end

