-- ==== Sys2Proof/Machine/State.lean ====
section
/-!
DEFINITION. The state of the part: the thirteen blocks of 00_scope.md 2.1, each a structure, and the
queue of the commands that wait. INVENTORY.md lists every field with its rule and reset value.
-/

namespace Sys2Proof.Machine

/-! ### Names the spec gives -/

/-- The outcomes of 10.5, by their names. -/
inductive ReplyOutcome where
  | ok | none | badFrame | unknownRequest | wrongPort | notReady | waking | badField | sequence
  | busy | noMatch | stale | duplicateKey | notHolder | queued | waitBusy | holdLimit | notOwner
  | state | tableFull | poolFull | checkLimit | amountRange | splitFixed | shareUnderrun
  | overTender | ringFull | empty | uplinkFull | limit | unknownTender | windowFull | unknownSeq
  | linkDown | streamBusy | streamIdle | noStage | deferred
  deriving DecidableEq, Repr

/-- A check key: table number (12 bits) and suffix (4 bits) (R1, 10.3). -/
structure Key where
  table : BitVec 12
  suffix : BitVec 4
  deriving DecidableEq, Repr

/-- Whose check it is (R2). -/
inductive Scope where
  | owned
  | foreign
  deriving DecidableEq, Repr

/-- Why a check is in CONFLICT (R6). -/
inductive ConflictKind where
  | dueBelowPaid
  | retired
  deriving DecidableEq, Repr

/-- The states of a check (1.2). FREE is the absence of a check (log 8), and the conflict kind is
present exactly in CONFLICT (R6). -/
inductive CheckState where
  | opened
  | tendering
  | settled
  | closing
  | conflict (kind : ConflictKind)
  deriving DecidableEq, Repr

/-- The six entry states, as replies and staging records carry them (10.3). -/
inductive EntryState where
  | free
  | opened
  | tendering
  | settled
  | closing
  | conflict
  deriving DecidableEq, Repr

/-- A priced change to an item (R44). -/
structure Modifier where
  code : Nat
  delta : Nat
  deriving DecidableEq, Repr

inductive ItemStatus where
  | live
  | voided
  deriving DecidableEq, Repr

inductive ItemSource where
  | localAdd
  | floor
  deriving DecidableEq, Repr

/-- An item record on a chain (R44). `record` is the number, 0 to 511, of the pool's record it
occupies (R41, log 7). -/
structure Item where
  record : Nat
  serial : Nat
  menu : Nat
  seat : Nat
  quantity : Nat
  price : Nat
  mods : List Modifier
  status : ItemStatus
  source : ItemSource
  deriving DecidableEq, Repr

/-- The basis of a split plan (R55). -/
inductive Basis where
  | even
  | bySeat
  | fixed
  deriving DecidableEq, Repr

/-- One share of a split plan (R55). `mask` has bit n for seat n, and is 0 but under BY_SEAT. -/
structure Share where
  target : Nat
  mask : Half
  approved : Nat
  reserved : Nat
  tips : Nat
  deriving DecidableEq, Repr

/-- A split plan (R55); share k stands at place k - 1, and the share count is the length. -/
structure SplitPlan where
  basis : Basis
  shares : List Share
  deriving DecidableEq, Repr

/-- A hold: its holder and the milliseconds left of its lease (R64, R72). -/
structure Hold where
  holder : Port
  lease : Nat
  deriving DecidableEq, Repr

/-- What a pending image is (R129). -/
inductive PendingBody where
  | image (owner covers seats : Nat) (items : List Item)
  | retire
  deriving DecidableEq, Repr

/-- A pending image or retirement, with its server revision (R129). -/
structure PendingImage where
  server : Nat
  body : PendingBody
  deriving DecidableEq, Repr

/-- A check in its entry (1.1). -/
structure Check where
  state : CheckState
  key : Key
  scope : Scope
  owner : Nat
  revision : Nat
  uplinked : Nat
  server : Option Nat
  covers : Nat
  seats : Nat
  items : List Item
  nextSerial : Nat
  subtotal : Nat
  tax : Nat
  due : Nat
  approved : Nat
  reserved : Nat
  tips : Nat
  overpaid : Bool
  plan : Option SplitPlan
  hold : Option Hold
  waiters : List Port
  image : Option PendingImage
  pendingUplink : Nat
  deriving DecidableEq, Repr

/-- A staging record (R25). -/
structure StagingRecord where
  valid : Bool
  target : Option (Fin 64)
  probe : Option (Fin 64)
  origKey : Option Key
  captured : Nat
  key : Option Key
  covers : Nat
  seats : Nat
  scopeCopy : Option Scope
  stateCopy : Option EntryState
  deriving DecidableEq, Repr

/-- An invalid staging record with no probe index (R25, R26). -/
def StagingRecord.invalid : StagingRecord where
  valid := false
  target := none
  probe := none
  origKey := none
  captured := 0
  key := none
  covers := 0
  seats := 0
  scopeCopy := none
  stateCopy := none

/-! ### Tenders -/

inductive TenderClass where
  | card
  | cash
  deriving DecidableEq, Repr

/-- The tip mode of a tender, with the fixed tip that is present only in FIXED (R81). -/
inductive TipMode where
  | none
  | prompt
  | fixed (tip : Nat)
  deriving DecidableEq, Repr

inductive Stage where
  | none
  | cardRead
  | pinEntry
  | authorizing
  deriving DecidableEq, Repr

/-- The card particulars of an approval (R81). -/
structure CardInfo where
  ref : RefWire
  cardClass : Nat
  tail : Nat
  deriving DecidableEq, Repr

/-- What an approval carries (R81); `card` is absent for CASH. -/
structure Approval where
  amount : Nat
  tip : Nat
  card : Option CardInfo
  offline : Bool
  overridden : Bool
  deriving DecidableEq, Repr

/-- The outcome of a FINISHED tender (R81). -/
inductive TenderEnd where
  | approved (a : Approval)
  | declined
  | cancelled
  | cancelledByFloor
  | timedOut
  deriving DecidableEq, Repr

/-- The slot state of a non-VACANT descriptor, with the fields present only in it (R81). -/
inductive TenderPhase where
  | posted
  | taken (stage : Stage)
  | finished (outcome : TenderEnd)
  deriving DecidableEq, Repr

/-- A non-VACANT tender descriptor (R81). -/
structure Tender where
  serial : Nat
  cls : TenderClass
  index : Fin 64
  key : Key
  share : Nat
  base : Nat
  tipMode : TipMode
  cancelRequested : Bool
  phase : TenderPhase
  deriving DecidableEq, Repr

/-- An entry of the Late Window (R101). -/
structure LateEntry where
  serial : Nat
  index : Fin 64
  key : Key
  share : Nat
  base : Nat
  tipMode : TipMode
  deriving DecidableEq, Repr

/-! ### Uplink records and images -/

inductive Resolution where
  | keep
  | close
  deriving DecidableEq, Repr

/-- The fields of a SETTLEMENT record (R143). -/
structure Settlement where
  cls : TenderClass
  serial : Nat
  amount : Nat
  tip : Nat
  card : Option CardInfo
  offline : Bool
  late : Bool
  orphan : Bool
  deriving DecidableEq, Repr

/-- The kind of an uplink record, with the fields present in it (R143). -/
inductive RecordBody where
  | delta (revision : Nat)
  | settlement (s : Settlement)
  | close (revision : Nat)
  | resolve (resolution : Resolution) (surplus : Nat)
  deriving DecidableEq, Repr

/-- An uplink record (R143); it is QUEUED or SENT. -/
structure UplinkRecord where
  seq : Nat
  sent : Bool
  index : Option (Fin 64)
  key : Key
  body : RecordBody
  deriving DecidableEq, Repr

/-- The image assembly (R122). -/
structure Assembly where
  key : Key
  server : Nat
  owner : Nat
  covers : Nat
  seats : Nat
  count : Nat
  items : List Item
  deriving DecidableEq, Repr

inductive LinkState where
  | down
  | up
  deriving DecidableEq, Repr

/-- The lamp's patterns (R158). -/
inductive Pattern where
  | dark
  | steady
  | slow
  | fast
  deriving DecidableEq, Repr

/-- The LAMP output: the pattern in force and the milliseconds, modulo 1000, since its lit period
began (R158, log 13). -/
structure Lamp where
  pattern : Pattern
  phase : Nat
  deriving DecidableEq, Repr

/-! ### Streams -/

inductive StreamTarget where
  | itemsRead
  | itemsWrite
  | image
  deriving DecidableEq, Repr

inductive Direction where
  | forward
  | backward
  deriving DecidableEq, Repr

/-- Why a stream was aborted (R160, 10.5). -/
inductive AbortReason where
  | gone
  | refused (o : ReplyOutcome)
  deriving DecidableEq, Repr

/-- The fields of a stream (R160); index and captured revision are absent for IMAGE. -/
structure Stream where
  target : StreamTarget
  index : Option (Fin 64)
  key : Key
  captured : Option Nat
  dir : Direction
  cursor : Nat
  remaining : Nat
  deriving DecidableEq, Repr

/-- A stream channel (R160). -/
inductive Channel where
  | idle
  | active (st : Stream)
  | done (st : Stream)
  | aborted (st : Stream) (reason : AbortReason)
  deriving DecidableEq, Repr

/-! ### Ports and modes -/

/-- A reply (10.3): the body length is the length of the body. -/
structure Reply where
  code : Byte
  tag : Byte
  outcome : ReplyOutcome
  body : List Byte
  deriving DecidableEq, Repr

/-- The NONE reply of R171. -/
def Reply.noReply : Reply := ⟨0, 0, .none, []⟩

/-- One of a thing for each port. -/
structure PerPort (α : Type) where
  console : α
  tender : α
  link : α
  deriving DecidableEq, Repr

/-- The thing of a port. -/
def PerPort.get {α : Type} (v : PerPort α) : Port → α
  | .console => v.console
  | .tender => v.tender
  | .link => v.link

/-- Replace the thing of a port. -/
def PerPort.set {α : Type} (v : PerPort α) (p : Port) (a : α) : PerPort α :=
  match p with
  | .console => { v with console := a }
  | .tender => { v with tender := a }
  | .link => { v with link := a }

/-- The same thing for each port. -/
def PerPort.all {α : Type} (a : α) : PerPort α := ⟨a, a, a⟩

/-- The configuration step (R181). -/
inductive ConfigStep where
  | step1
  | step2
  | step3
  | step4
  | ready
  deriving DecidableEq, Repr

/-- The operating mode (R184). -/
inductive Mode where
  | active
  | doze
  | sleep
  deriving DecidableEq, Repr

/-! ### The thirteen blocks -/

/-- Port Interface Unit: the reply slots (R171), and what each port's last taken exchange shifted
out (log 5). -/
structure PortUnit where
  slot : PerPort Reply
  delivered : PerPort Reply
  deriving DecidableEq, Repr

/-- Attention Unit (R175). -/
structure AttnUnit where
  flags : PerPort Half
  enables : PerPort Half
  deriving DecidableEq, Repr

/-- Check Table (1.1, R17, R19). -/
structure CheckTable where
  checks : Vector (Option Check) 64
  cursor : Nat
  pinFloor : Nat
  deriving DecidableEq, Repr

/-- Staging Unit (R25). -/
structure StagingUnit where
  primary : StagingRecord
  alternate : StagingRecord
  deriving DecidableEq, Repr

/-- Item Pool: the free list, by record numbers, head first (R41). -/
structure ItemPool where
  free : List Nat
  deriving DecidableEq, Repr

/-- Hold Arbiter: the record of each port (R64). The hold record of an entry is in its check. -/
structure HoldArbiter where
  count : PerPort Nat
  waits : PerPort (Option (Fin 64))
  deriving DecidableEq, Repr

/-- Tender Ring (R81 to R83, R100, R101). `tenders` are the non-VACANT descriptors in ring order from
the retire index (log 9). -/
structure TenderRing where
  tenders : List Tender
  retireIdx : Nat
  passed : Nat
  nextSerial : Nat
  timer : Option Nat
  late : List LateEntry
  deriving DecidableEq, Repr

/-- Offline Limit Unit (R109, R110). -/
structure OfflineUnit where
  singleLimit : Nat
  exposureCap : Nat
  countCap : Nat
  exposure : Nat
  count : Nat
  deriving DecidableEq, Repr

/-- The eight counters (R114). -/
structure Totals where
  card : Nat
  offline : Nat
  cash : Nat
  tip : Nat
  approvals : Nat
  declines : Nat
  timeouts : Nat
  lateApprovals : Nat
  deriving DecidableEq, Repr

/-- Every counter 0 (R114, R118). -/
def Totals.zero : Totals := ⟨0, 0, 0, 0, 0, 0, 0, 0⟩

/-- Shift Totals (R114). -/
structure ShiftTotals where
  live : Totals
  snapshot : Option Totals
  deriving DecidableEq, Repr

/-- Floor Sync Unit (R120, R122). The pending images are in the checks. -/
structure FloorSync where
  link : LinkState
  assembly : Option Assembly
  deriving DecidableEq, Repr

/-- Uplink Queue (R143, R145, R156 to R158). `mark` is the sequence number of the record that carries
the delivery mark. -/
structure UplinkQueue where
  records : List UplinkRecord
  nextSeq : Nat
  window : Nat
  mark : Option Nat
  lamp : Lamp
  deriving DecidableEq, Repr

/-- Mode Controller, with the configuration values R180 gives it and the two lines it watches. -/
structure ModeController where
  step : ConfigStep
  mode : Mode
  wakeEnable : PerPort Bool
  wakeTimer : Option Nat
  terminalId : Option Nat
  taxRate : Nat
  leaseSecs : Nat
  tenderSecs : Nat
  resetHeld : Bool
  wakeLine : Bool
  deriving DecidableEq, Repr

/-- The state of the part. -/
structure State where
  pending : List Instr
  ports : PortUnit
  attn : AttnUnit
  table : CheckTable
  staging : StagingUnit
  pool : ItemPool
  holds : HoldArbiter
  ring : TenderRing
  offline : OfflineUnit
  totals : ShiftTotals
  floor : FloorSync
  uplink : UplinkQueue
  streams : PerPort Channel
  modes : ModeController
  deriving DecidableEq, Repr

/-- The machine right after reset: each block at the values its chapter gives for cold reset, at the
release of RESET (R180; R24, R26, R41, R65, R108, R109, R110, R114, R142, R159, R160, R171, R175).
The free list's order, the level of WAKE, the lamp's phase and `delivered` are the model's choice
(logs 7, 10, 13, 5). -/
def State.reset : State where
  pending := []
  ports := ⟨PerPort.all Reply.noReply, PerPort.all Reply.noReply⟩
  attn := ⟨PerPort.all 0, PerPort.all 0⟩
  table := ⟨Vector.replicate 64 none, 0, 0⟩
  staging := ⟨StagingRecord.invalid, StagingRecord.invalid⟩
  pool := ⟨List.range 512⟩
  holds := ⟨PerPort.all 0, PerPort.all none⟩
  ring := ⟨[], 0, 0, 1, none, []⟩
  offline := ⟨0, 0, 0, 0, 0⟩
  totals := ⟨Totals.zero, none⟩
  floor := ⟨.down, none⟩
  uplink := ⟨[], 1, 1, none, ⟨.dark, 0⟩⟩
  streams := PerPort.all .idle
  modes :=
    { step := .step1, mode := .active, wakeEnable := PerPort.all false, wakeTimer := none
      terminalId := none, taxRate := 0, leaseSecs := 0, tenderSecs := 0
      resetHeld := false, wakeLine := false }

/-- Why a step stops with a fault. -/
inductive Fault where
  /-- Raised by no command: the spec describes no event that stops the part. Safe. -/
  | noneDescribed
  deriving DecidableEq, Repr

/-- Why a step answers no state. -/
inductive Refusal where
  /-- Raised by `exec` alone, for a command that has no meaning yet; no command is left so. Safe. -/
  | notModelled (mnemonic : String)
  deriving DecidableEq, Repr

end Sys2Proof.Machine
end

