-- ==== Sys2Proof/Machine/Wire.lean ====
section
/-!
DEFINITION. The wire forms of what replies carry: the codes of 10.3 and 10.5, the layouts of 10.3 and
the 64 bytes of a reply frame with its CRC (R171, R172) of
spec/10_ports_frames_and_attention.md. Numbers are big-endian; an absent key is 0x0000, an absent
index or port 0xFF, any other absent value zero.
-/

namespace Sys2Proof.Machine

/-! ### Numbers -/

def be1 (n : Nat) : List Byte := [BitVec.ofNat 8 n]
def be2 (n : Nat) : List Byte := be1 (n / 256) ++ be1 n
def be3 (n : Nat) : List Byte := be1 (n / 65536) ++ be2 n
def be4 (n : Nat) : List Byte := be1 (n / 16777216) ++ be3 n

/-- A one-byte flag: 1 when set and 0 when clear. -/
def beFlag (b : Bool) : List Byte := be1 b.toNat

/-- An index, 0xFF where absent. -/
def beIndex (i : Option (Fin 64)) : List Byte := be1 ((i.map Fin.val).getD 255)

/-- The packed form of a key: table in the upper 12 bits, suffix in the lower 4. -/
def Key.wire (k : Key) : Half := k.table ++ k.suffix

/-- The key a packed form is. -/
def Key.ofWire (w : Half) : Key := ⟨w.extractLsb' 4 12, w.extractLsb' 0 4⟩

/-- A key, 0x0000 where absent. -/
def beKey (k : Option Key) : List Byte := be2 ((k.map (fun k => k.wire.toNat)).getD 0)

/-! ### Codes -/

/-- The outcome codes of 10.5. -/
def ReplyOutcome.code : ReplyOutcome → Nat
  | .ok => 0 | .none => 1 | .badFrame => 2 | .unknownRequest => 3 | .wrongPort => 4
  | .notReady => 5 | .waking => 6 | .badField => 7 | .sequence => 8 | .busy => 9
  | .noMatch => 10 | .stale => 11 | .duplicateKey => 12 | .notHolder => 13 | .queued => 14
  | .waitBusy => 15 | .holdLimit => 16 | .notOwner => 17 | .state => 18
  | .tableFull => 19 | .poolFull => 20 | .checkLimit => 21 | .amountRange => 22
  | .splitFixed => 23 | .shareUnderrun => 24 | .overTender => 25 | .ringFull => 26
  | .empty => 27 | .uplinkFull => 28 | .limit => 29 | .unknownTender => 30 | .windowFull => 31
  | .unknownSeq => 32 | .linkDown => 33 | .streamBusy => 34 | .streamIdle => 35
  | .noStage => 36 | .deferred => 37

/-- An abort reason is the outcome code of its name, and GONE is 38 (10.5). -/
def AbortReason.code : AbortReason → Nat
  | .gone => 38
  | .refused o => o.code

def EntryState.code : EntryState → Nat
  | .free => 0 | .opened => 1 | .tendering => 2 | .settled => 3 | .closing => 4 | .conflict => 5

/-- The state of a non-FREE entry, without its conflict kind. -/
def CheckState.entry : CheckState → EntryState
  | .opened => .opened
  | .tendering => .tendering
  | .settled => .settled
  | .closing => .closing
  | .conflict _ => .conflict

def Scope.code : Scope → Nat
  | .owned => 1 | .foreign => 2

def portCode : Port → Nat
  | .console => 1 | .tender => 2 | .link => 3

def ConflictKind.code : ConflictKind → Nat
  | .dueBelowPaid => 1 | .retired => 2

def Basis.code : Basis → Nat
  | .even => 1 | .bySeat => 2 | .fixed => 3

def PendingBody.code : PendingBody → Nat
  | .image _ _ _ _ => 1 | .retire => 2

def TenderPhase.code : TenderPhase → Nat
  | .posted => 1 | .taken _ => 2 | .finished _ => 3

def TenderClass.code : TenderClass → Nat
  | .card => 1 | .cash => 2

def TipMode.code : TipMode → Nat
  | .none => 0 | .prompt => 1 | .fixed _ => 2

/-- The fixed tip on the wire: zero where it is not present. -/
def TipMode.fixedTip : TipMode → Nat
  | .fixed t => t
  | _ => 0

def Stage.code : Stage → Nat
  | .none => 0 | .cardRead => 1 | .pinEntry => 2 | .authorizing => 3

def TenderEnd.code : TenderEnd → Nat
  | .approved _ => 1 | .declined => 2 | .cancelled => 3 | .cancelledByFloor => 4 | .timedOut => 5

def RecordBody.code : RecordBody → Nat
  | .delta _ => 1 | .settlement _ => 2 | .close _ => 3 | .resolve _ _ => 4

def Resolution.code : Resolution → Nat
  | .keep => 1 | .close => 2

def Mode.code : Mode → Nat
  | .active => 0 | .doze => 1 | .sleep => 2

def ConfigStep.code : ConfigStep → Nat
  | .step1 => 1 | .step2 => 2 | .step3 => 3 | .step4 => 4 | .ready => 5

def LinkState.code : LinkState → Nat
  | .down => 0 | .up => 1

def StreamTarget.code : StreamTarget → Nat
  | .itemsRead => 1 | .itemsWrite => 2 | .image => 3

def Channel.code : Channel → Nat
  | .idle => 0 | .active _ => 1 | .done _ => 2 | .aborted _ _ => 3

/-! ### Layouts -/

/-- The line amount: quantity times the unit price with the modifiers' deltas (R45). -/
def Item.line (it : Item) : Nat :=
  it.quantity * (it.price + (it.mods.map Modifier.delta).sum)

/-- The status and source bits of byte 3 of an item record. -/
def Item.marks (it : Item) : Nat :=
  it.seat + (if it.status = .voided then 16 else 0) + (if it.source = .floor then 32 else 0)

/-- The three modifier places, zero beyond the count. -/
def modPlaces (mods : List Modifier) : List Byte :=
  ((mods.flatMap (fun m : Modifier => be2 m.code ++ be3 m.delta)) ++ List.replicate 15 0).take 15

/-- An item record, 27 bytes. -/
def Item.wire (it : Item) : List Byte :=
  be1 it.serial ++ be2 it.menu ++ be1 it.marks ++ be1 it.quantity ++ be3 it.price ++
    be1 it.mods.length ++ modPlaces it.mods ++ be3 it.line

/-- A reference, six bytes. -/
def refBytes (r : RefWire) : List Byte := [r.c1, r.c2, r.c3, r.c4, r.c5, r.c6]

/-- Reference, card class and card tail, zero where absent. -/
def cardBytes : Option CardInfo → List Byte
  | none => List.replicate 9 0
  | some c => refBytes c.ref ++ be1 c.cardClass ++ be2 c.tail

/-- Bytes 0 to 13 of a tender descriptor. -/
def Tender.headWire (t : Tender) : List Byte :=
  be2 t.serial ++ be1 t.cls.code ++ beIndex (some t.index) ++ beKey (some t.key) ++
    be1 t.share ++ be3 t.base ++ be1 t.tipMode.code ++ be3 t.tipMode.fixedTip

/-- Bytes 18 to 33 of a tender descriptor: its outcome and the result fields the outcome has. -/
def TenderPhase.resultWire : TenderPhase → List Byte
  | .finished (.approved a) => be1 1 ++ be3 a.amount ++ be3 a.tip ++ cardBytes a.card
  | .finished e => be1 e.code ++ List.replicate 15 0
  | _ => List.replicate 16 0

/-- The stage of a TAKEN descriptor, zero otherwise. -/
def TenderPhase.stageCode : TenderPhase → Nat
  | .taken st => st.code
  | _ => 0

/-- Offline (bit 1) and cancel-overridden (bit 2) of byte 17. -/
def TenderPhase.markCode : TenderPhase → Nat
  | .finished (.approved a) => (if a.offline then 2 else 0) + (if a.overridden then 4 else 0)
  | _ => 0

/-- A tender descriptor, 34 bytes, in its slot, with the Late Window flag of TENDER_STATUS. -/
def Tender.wire (t : Tender) (slot : Nat) (inLate : Bool) : List Byte :=
  t.headWire ++ be1 t.phase.code ++ be1 slot ++ be1 t.phase.stageCode ++
    be1 ((if t.cancelRequested then 1 else 0) + t.phase.markCode + (if inLate then 8 else 0)) ++
    t.phase.resultWire

/-- A Late Window entry as TENDER_STATUS shows it: slot state VACANT, the Late Window flag, and
neither class nor slot, which it does not hold (R99, log 18). -/
def LateEntry.wire (e : LateEntry) : List Byte :=
  be2 e.serial ++ be1 0 ++ beIndex (some e.index) ++ beKey (some e.key) ++ be1 e.share ++
    be3 e.base ++ be1 e.tipMode.code ++ be3 e.tipMode.fixedTip ++
    be1 0 ++ be1 255 ++ be1 0 ++ be1 8 ++ List.replicate 16 0

/-- Bytes 4 of an uplink record: bit 0 offline, bit 1 LATE, bit 2 ORPHAN. -/
def RecordBody.markCode : RecordBody → Nat
  | .settlement s =>
    (if s.offline then 1 else 0) + (if s.late then 2 else 0) + (if s.orphan then 4 else 0)
  | _ => 0

/-- The revision of a DELTA or CLOSE record, zero otherwise. -/
def RecordBody.revisionCode : RecordBody → Nat
  | .delta r => r
  | .close r => r
  | _ => 0

/-- Bytes 10 to 27 of an uplink record: a SETTLEMENT's fields. -/
def RecordBody.settlementWire : RecordBody → List Byte
  | .settlement s =>
    be1 s.cls.code ++ be2 s.serial ++ be3 s.amount ++ be3 s.tip ++ cardBytes s.card
  | _ => List.replicate 18 0

/-- Bytes 28 to 32 of an uplink record: a RESOLVE's fields. -/
def RecordBody.resolveWire : RecordBody → List Byte
  | .resolve r surplus => be1 r.code ++ be4 surplus
  | _ => List.replicate 5 0

/-- An uplink record, 33 bytes. -/
def UplinkRecord.wire (r : UplinkRecord) : List Byte :=
  be2 r.seq ++ be1 r.body.code ++ be1 (if r.sent then 2 else 1) ++ be1 r.body.markCode ++
    beIndex r.index ++ beKey (some r.key) ++ be2 r.body.revisionCode ++
    r.body.settlementWire ++ r.body.resolveWire

/-- A staging record, 13 bytes. -/
def StagingRecord.wire (r : StagingRecord) : List Byte :=
  beFlag r.valid ++ beIndex r.target ++ beIndex r.probe ++ beKey r.origKey ++ be2 r.captured ++
    beKey r.key ++ be1 r.covers ++ be1 r.seats ++
    be1 ((r.scopeCopy.map Scope.code).getD 0) ++ be1 ((r.stateCopy.map EntryState.code).getD 0)

/-- Who holds the check. -/
def Check.holder (c : Check) : Option Port := c.hold.map Hold.holder

/-- A port, 0xFF where absent. -/
def bePort (p : Option Port) : List Byte := be1 ((p.map portCode).getD 255)

/-- The conflict kind, where the state is CONFLICT. -/
def CheckState.kindCode : CheckState → Nat
  | .conflict k => k.code
  | _ => 0

/-- Byte 38 of CHECK_INFO: which optional parts are present, and OVERPAID. -/
def Check.presence (c : Check) : Nat :=
  (if c.overpaid then 1 else 0) + (if c.server.isSome then 2 else 0) +
    (if c.state.entry = .conflict then 4 else 0) + (if c.plan.isSome then 8 else 0) +
    (if c.hold.isSome then 16 else 0) + (if c.image.isSome then 32 else 0)

/-- The LIVE items of a check. -/
def Check.liveItems (c : Check) : List Item := c.items.filter (fun it => it.status = .live)

/-- CHECK_INFO's reply with share number 0, 47 bytes, for a check. -/
def Check.wire (c : Check) (i : Fin 64) : List Byte :=
  beIndex (some i) ++ be1 c.state.entry.code ++ beKey (some c.key) ++ be1 c.scope.code ++
    be1 c.owner ++ be2 c.revision ++ be2 c.uplinked ++ be2 (c.server.getD 0) ++
    be1 c.covers ++ be1 c.seats ++ be1 c.items.length ++ be1 c.liveItems.length ++
    be2 c.nextSerial ++ be3 c.subtotal ++ be3 c.tax ++ be3 c.due ++ be4 c.approved ++
    be3 c.reserved ++ be4 c.tips ++ be1 c.presence ++ be1 c.state.kindCode ++
    be1 ((c.plan.map (fun p => p.basis.code)).getD 0) ++
    be1 ((c.plan.map (fun p => p.shares.length)).getD 0) ++
    bePort c.holder ++ bePort c.waiters[0]? ++ bePort c.waiters[1]? ++
    be1 ((c.image.map (fun g => g.body.code)).getD 0) ++ be1 c.pendingUplink

/-- CHECK_INFO's reply for a FREE entry: the free values of R24 in the same form. -/
def freeEntryWire (i : Fin 64) : List Byte :=
  beIndex (some i) ++ be1 EntryState.free.code ++ List.replicate 14 0 ++ be2 1 ++
    List.replicate 24 0 ++ bePort none ++ bePort none ++ bePort none ++ List.replicate 2 0

/-- CHECK_INFO's reply with a share number from 1 to 8, 25 bytes. -/
def Share.wire (sh : Share) (i : Fin 64) (k : Nat) (c : Check) (p : SplitPlan) : List Byte :=
  beIndex (some i) ++ be1 k ++ be1 c.state.entry.code ++ beKey (some c.key) ++ be2 c.revision ++
    be1 p.basis.code ++ be1 p.shares.length ++ be3 sh.target ++ be4 sh.approved ++
    be3 sh.reserved ++ be4 sh.tips ++ be2 sh.mask.toNat

/-- TOTALS_READ's reply. -/
def Totals.wire (t : Totals) (latched : Bool) : List Byte :=
  beFlag latched ++ be4 t.card ++ be4 t.offline ++ be4 t.cash ++ be4 t.tip ++
    be2 t.approvals ++ be2 t.declines ++ be2 t.timeouts ++ be2 t.lateApprovals

/-- The 64 bytes of a reply: code echo, tag echo, outcome, body length, body, zeros and CRC (10.3,
R172, R174). -/
def Reply.frame (r : Reply) : List Byte :=
  let head := ([r.code, r.tag] ++ be1 r.outcome.code ++ be1 r.body.length ++ r.body ++
    List.replicate 58 0).take 62
  head ++ be2 (crc16 head).toNat

end Sys2Proof.Machine
end

