-- ==== Sys2Proof/Machine/Flags.lean ====
section
/-!
DEFINITION. The Attention Unit's flags (10.6, R175), the evaluation of a check's state and OVERPAID
flag (R8 to R10) and of the lamp's pattern (R158).
-/

namespace Sys2Proof.Machine

/-! ### Attention causes -/

/-- The attention causes (10.6). -/
inductive Cause where
  | conflict | lateApproval | leaseLost | tenderFinished | holdGranted | waitEnded | floorChange
  | eviction | streamEnd | delivered | wake | reply
  | cancelRequest | tenderExpired | tenderPosted | uplinkReady
  deriving DecidableEq, Repr

/-- The number of a cause at a port, by the table of 10.6; none where the port has no such cause. -/
def Cause.number (p : Port) (c : Cause) : Option Nat :=
  match p, c with
  | .console, .conflict => some 0
  | .console, .lateApproval => some 1
  | .console, .leaseLost => some 2
  | .console, .tenderFinished => some 3
  | .console, .holdGranted => some 4
  | .console, .waitEnded => some 5
  | .console, .floorChange => some 6
  | .console, .eviction => some 7
  | .console, .streamEnd => some 8
  | .console, .delivered => some 9
  | .console, .wake => some 10
  | .console, .reply => some 11
  | .tender, .cancelRequest => some 0
  | .tender, .tenderExpired => some 1
  | .tender, .leaseLost => some 2
  | .tender, .tenderPosted => some 3
  | .tender, .holdGranted => some 4
  | .tender, .waitEnded => some 5
  | .tender, .streamEnd => some 6
  | .tender, .reply => some 7
  | .link, .leaseLost => some 0
  | .link, .uplinkReady => some 1
  | .link, .holdGranted => some 2
  | .link, .waitEnded => some 3
  | .link, .streamEnd => some 4
  | .link, .reply => some 5
  | _, _ => none

/-- How many causes a port has. -/
def causeCount : Port → Nat
  | .console => 12
  | .tender => 8
  | .link => 6

/-- The bit of a cause in its port's mask. -/
def Cause.bit (p : Port) (c : Cause) : Half :=
  match c.number p with
  | some n => (1 : Half) <<< n
  | none => 0

/-- A mask with no bit above the port's last cause (R177, R178). -/
def maskOk (p : Port) (m : Half) : Bool := decide (m.toNat < 2 ^ causeCount p)

/-- The number of the highest-priority cause both set and enabled, 0xFF when there is none (R176). -/
def priorityNumber (flags enables : Half) : Nat :=
  ((List.range 16).find? (fun n => (flags &&& enables).getLsbD n)).getD 255

/-! ### A check's state -/

/-- The OVERPAID flag of an entry not in CONFLICT (R9). -/
def Check.markOverpaid (c : Check) : Check := { c with overpaid := decide (c.due < c.approved) }

/-- The table of R8, by the first matching row. -/
def evaluatedState (reserved due approved : Nat) : CheckState :=
  if 0 < reserved then .tendering
  else if 0 < due ∧ due ≤ approved then .settled
  else .opened

/-- State evaluation with the OVERPAID flag, whatever the state was (R8, R9; RESOLVE KEEP and the
placing of a new image call for it so). -/
def Check.evaluate (c : Check) : Check :=
  { c with
    state := evaluatedState c.reserved c.due c.approved
    overpaid := decide (c.due < c.approved) }

/-- What follows a change of due, approved or reserved: state evaluation in OPEN, TENDERING and
SETTLED (R8); in CLOSING the OVERPAID flag alone; in CONFLICT nothing (R10). -/
def Check.afterAmounts (c : Check) : Check :=
  match c.state with
  | .opened | .tendering | .settled => c.evaluate
  | .closing => c.markOverpaid
  | .conflict _ => c

/-! ### The lamp -/

/-- The pattern of R158, by the first line that matches. -/
def lampPattern (mode : Mode) (cap exposure u : Nat) (link : LinkState) (queued : Nat) : Pattern :=
  if mode ≠ .active then .dark
  else if (0 < cap ∧ cap * 3 ≤ exposure * 4) ∨ 40 ≤ u then .fast
  else if link = .down ∧ 0 < queued then .slow
  else if 0 < queued then .steady
  else .dark

/-- A re-evaluation: a new pattern starts with its lit period, the same one goes on (R158). -/
def Lamp.show (l : Lamp) (p : Pattern) : Lamp := if l.pattern = p then l else ⟨p, 0⟩

/-- Whether the lamp is lit: SLOW is lit 500 ms and dark 500 ms, FAST 125 ms and 125 ms (R158). -/
def Lamp.lit (l : Lamp) : Bool :=
  match l.pattern with
  | .dark => false
  | .steady => true
  | .slow => decide (l.phase % 1000 < 500)
  | .fast => decide (l.phase % 250 < 125)

/-- Time passes: a blink goes on, a steady or dark lamp has no phase (log 13). -/
def Lamp.advance (l : Lamp) (dt : Nat) : Lamp :=
  match l.pattern with
  | .slow | .fast => { l with phase := (l.phase + dt) % 1000 }
  | _ => l

end Sys2Proof.Machine
end

