-- ==== Sys2Proof/Machine/Arith.lean ====
section
/-!
DEFINITION. Items and check arithmetic: subtotal, tax and due (R45, R47), split targets (R55 to R58,
R62), the amounts that tenders move (R4, R63), revisions (R3) and the wrapping counters
(00_scope.md 4).
-/

namespace Sys2Proof.Machine

/-! ### Counters -/

/-- A revision's bump, wrapping from 65535 to 0 (R3). -/
def bumpRevision (r : Nat) : Nat := (r + 1) % 65536

/-- A tender serial's or sequence number's successor, wrapping from 65535 to 1 (R82, R145). -/
def nextNumber (n : Nat) : Nat := if n = 65535 then 1 else n + 1

/-- An addition that saturates at a maximum (R4, R114). -/
def saturate (top a b : Nat) : Nat := min top (a + b)

/-- Approved after an addition: the sum where the field holds it, a free value where it does not
(R4, log 14). -/
def addApproved (a amount : Nat) : Nat :=
  if a + amount ≤ Config.maxQuad then a + amount
  else (Config.approvedBeyondRange a amount).toNat

/-! ### Subtotal, tax, due -/

/-- The lines of the LIVE items of a list. -/
def liveLines (items : List Item) : Nat :=
  ((items.filter (fun it => it.status = .live)).map Item.line).sum

/-- Tax on an amount at a rate in basis points, rounded down (R47). -/
def taxOf (rate amount : Nat) : Nat := amount * rate / 10000

/-! ### Split targets -/

/-- `total` divided among n shares: the quotient each, and the remainder to share 1 (R56). -/
def evenParts (total n : Nat) : List Nat :=
  match n with
  | 0 => []
  | m + 1 => (total - m * (total / (m + 1))) :: List.replicate m (total / (m + 1))

/-- Whether a seat lies in a mask; seat 0 lies in none (R57). -/
def seatIn (mask : Half) (seat : Nat) : Bool := decide (seat ≠ 0) && mask.getLsbD seat

/-- A share's seat amount: the LIVE lines of the seats in its mask (R57 step 1). -/
def seatAmount (items : List Item) (mask : Half) : Nat :=
  liveLines (items.filter (fun it => seatIn mask it.seat))

/-- The pre-tax amounts under BY_SEAT (R57 steps 1 to 4). -/
def seatPreTax (items : List Item) (masks : List Half) : List Nat :=
  let own := masks.map (seatAmount items)
  List.zipWith (· + ·) own (evenParts (liveLines items - own.sum) masks.length)

/-- Add an amount to share 1. -/
def addToFirst (l : List Nat) (n : Nat) : List Nat :=
  match l with
  | [] => []
  | a :: rest => (a + n) :: rest

/-- The targets under BY_SEAT: each pre-tax amount with its tax, and the residual to share 1 (R57
steps 4 and 5). -/
def seatTargets (rate due : Nat) (items : List Item) (masks : List Half) : List Nat :=
  let ts := (seatPreTax items masks).map (fun a => a + taxOf rate a)
  addToFirst ts (due - ts.sum)

/-- The targets of a plan at a due and an item list; those of a FIXED plan are as they are (R58). -/
def SplitPlan.targets (p : SplitPlan) (rate due : Nat) (items : List Item) : List Nat :=
  match p.basis with
  | .even => evenParts due p.shares.length
  | .bySeat => seatTargets rate due items (p.shares.map Share.mask)
  | .fixed => p.shares.map Share.target

/-- Give the shares these targets. -/
def SplitPlan.setTargets (p : SplitPlan) (ts : List Nat) : SplitPlan :=
  { p with shares := List.zipWith (fun sh t => { sh with target := t }) p.shares ts }

/-- Recompute the targets of an EVEN or BY_SEAT plan (R62). -/
def SplitPlan.retarget (p : SplitPlan) (rate due : Nat) (items : List Item) : SplitPlan :=
  p.setTargets (p.targets rate due items)

/-- Some share's target is below its approved plus reserved (R62, R133). -/
def SplitPlan.underrun (p : SplitPlan) : Bool :=
  p.shares.any (fun sh => decide (sh.target < sh.approved + sh.reserved))

/-- The check has a plan some share of which underruns. -/
def Check.planUnderruns (c : Check) : Bool :=
  match c.plan with
  | some p => p.underrun
  | none => false

/-- Recompute subtotal, tax and due, and then the share targets (R47, R62). -/
def Check.recompute (c : Check) (rate : Nat) : Check :=
  let sub := liveLines c.items
  let due := sub + taxOf rate sub
  { c with
    subtotal := sub
    tax := taxOf rate sub
    due := due
    plan := c.plan.map (fun p => p.retarget rate due c.items) }

/-- The revision is bumped by one (R3). -/
def Check.bump (c : Check) : Check := { c with revision := bumpRevision c.revision }

/-- A check owes a delta (R3). -/
def Check.owesDelta (c : Check) : Bool := decide (c.scope = .owned ∧ c.revision ≠ c.uplinked)

/-! ### What tenders move -/

/-- Change share k of a plan that reaches k (R63). -/
def SplitPlan.modShare (p : SplitPlan) (k : Nat) (f : Share → Share) : SplitPlan :=
  match k with
  | 0 => p
  | j + 1 => { p with shares := p.shares.modify j f }

/-- Change the share a tender names, where the check has a plan that reaches it (R63). -/
def Check.modShare (c : Check) (k : Nat) (f : Share → Share) : Check :=
  { c with plan := c.plan.map (fun p => p.modShare k f) }

/-- A CARD tender is posted: reserved rises by the base, and the named share's (R4, R63). -/
def Check.reserve (c : Check) (share base : Nat) : Check :=
  { c with reserved := c.reserved + base }.modShare share
    (fun sh => { sh with reserved := sh.reserved + base })

/-- A CARD descriptor becomes FINISHED: reserved falls by the base, and the named share's (R4, R63). -/
def Check.unreserve (c : Check) (share base : Nat) : Check :=
  { c with reserved := c.reserved - base }.modShare share
    (fun sh => { sh with reserved := sh.reserved - base })

/-- An approval's amounts on the check alone: approved and tips rise (R4, R103). -/
def Check.approve (c : Check) (amount tip : Nat) : Check :=
  { c with
    approved := addApproved c.approved amount
    tips := saturate Config.maxQuad c.tips tip }

/-- An approval's amounts on the named share (R63). -/
def Check.approveShare (c : Check) (share amount tip : Nat) : Check :=
  c.modShare share (fun sh =>
    { sh with
      approved := addApproved sh.approved amount
      tips := saturate Config.maxQuad sh.tips tip })

/-- The surplus a RESOLVE record carries (R140). -/
def Check.surplus (c : Check) : Nat := c.approved - c.due

/-! ### Items -/

/-- The highest serial of a chain, 0 when it is empty. -/
def highestSerial (items : List Item) : Nat := (items.map Item.serial).foldl max 0

/-- Mark the item of a serial VOIDED, in its place (R54). -/
def voidItem (serial : Nat) (items : List Item) : List Item :=
  items.map (fun it => if it.serial = serial then { it with status := .voided } else it)

end Sys2Proof.Machine
end

