-- ==== Sys2Proof/Machine/Operands.lean ====
section
/-!
DEFINITION. What the fields of a request mean: indices, keys, codes, item records and results at the
widths of the wire, and the tests on their ranges (R44, R45, R49, R85, R92, R174; 10.3). A list of
tests is made in order and the first that fails decides the outcome (00_scope.md 4).
-/

namespace Sys2Proof.Machine

/-- The outcome of the first test that fails, none when all hold. -/
def firstFailure (tests : List (Bool × ReplyOutcome)) : Option ReplyOutcome :=
  match tests with
  | [] => none
  | (passed, o) :: rest => if passed then firstFailure rest else some o

/-- An entry index from 0 to 63. -/
def idx? (b : Byte) : Option (Fin 64) :=
  if h : b.toNat < 64 then some ⟨b.toNat, h⟩ else none

/-- The key names a table from 1 to 4095 (R1). -/
def keyNamed (w : Half) : Bool := decide ((Key.ofWire w).table ≠ 0)

/-- A one-byte flag is 0 or 1 (10.3). -/
def flagOk (b : Byte) : Bool := decide (b.toNat ≤ 1)

/-- A tip mode with its fixed tip, which is 0 to 9,999,999 (R85). -/
def tipMode? (mode : Byte) (fixedTip : Tri) : Option TipMode :=
  if mode = 0 then some .none
  else if mode = 1 then some .prompt
  else if mode = 2 ∧ fixedTip.toNat ≤ Config.maxAmount then some (.fixed fixedTip.toNat)
  else none

/-- A stage that TENDER_PROGRESS may report (R91). -/
def stage? (b : Byte) : Option Stage :=
  if b = 1 then some .cardRead
  else if b = 2 then some .pinEntry
  else if b = 3 then some .authorizing
  else none

/-- A direction (10.3). -/
def direction? (b : Byte) : Option Direction :=
  if b = 0 then some .forward else if b = 1 then some .backward else none

/-- A basis (10.3). -/
def basis? (b : Byte) : Option Basis :=
  if b = 1 then some .even
  else if b = 2 then some .bySeat
  else if b = 3 then some .fixed
  else none

/-- A modifier's ranges (R44). -/
def modifierOk (m : Modifier) : Bool := decide (1 ≤ m.code ∧ m.delta ≤ 99999)

/-- A reference character: a digit or a capital letter (R92, 10.3). -/
def refCharOk (b : Byte) : Bool :=
  decide ((0x30 ≤ b.toNat ∧ b.toNat ≤ 0x39) ∨ (0x41 ≤ b.toNat ∧ b.toNat ≤ 0x5A))

/-- The tip a tip mode admits (R92 test 3). -/
def TipMode.admits (m : TipMode) (tip : Nat) : Bool :=
  match m with
  | .none => decide (tip = 0)
  | .fixed t => decide (tip = t)
  | .prompt => decide (tip ≤ Config.maxAmount)

end Sys2Proof.Machine

namespace Sys2Proof
open Machine

/-! ### Items -/

/-- The seat of an item record on the wire. -/
def ItemWire.seat (w : ItemWire) : Nat := (w.marks &&& 0x0F).toNat

/-- The status of an item record on the wire. -/
def ItemWire.status (w : ItemWire) : ItemStatus := if w.marks.getLsbD 4 then .voided else .live

/-- The modifiers the count gives; places beyond it are ignored (R174). -/
def ItemWire.mods (w : ItemWire) : List Modifier :=
  ([w.mod1, w.mod2, w.mod3].take w.modCount.toNat).map
    (fun m : ModWire => ⟨m.code.toNat, m.delta.toNat⟩)

/-- The item of a record on the wire, in a record of the pool. -/
def ItemWire.item (w : ItemWire) (record serial : Nat) (status : ItemStatus)
    (source : ItemSource) : Item where
  record := record
  serial := serial
  menu := w.menu.toNat
  seat := w.seat
  quantity := w.quantity.toNat
  price := w.price.toNat
  mods := w.mods
  status := status
  source := source

/-- The line amount of an item record on the wire, computed by the part (R45, 10.3). -/
def ItemWire.amount (w : ItemWire) : Nat := (w.item 0 0 .live .localAdd).line

/-- The ranges of R44, a seat not above the seat count, and a line amount not above 9,999,999 (R45).
Bits 6 and 7 of byte 3, to which the layout gives no meaning, are clear (R174, log 15). -/
def ItemWire.fieldsOk (w : ItemWire) (seats : Nat) : Bool :=
  decide (1 ≤ w.menu.toNat ∧ 1 ≤ w.quantity.toNat ∧ w.quantity.toNat ≤ 99 ∧
    w.price.toNat ≤ 999999 ∧ w.modCount.toNat ≤ 3 ∧ w.marks.toNat < 64) &&
  w.mods.all modifierOk &&
  decide (w.seat ≤ seats ∧ w.amount ≤ Config.maxAmount)

/-! ### Tender results -/

/-- Test 1 of R92 on the fields of a result. -/
def ResultWire.fieldsOk (w : ResultWire) : Bool :=
  decide (w.cardClass.toNat ≤ 15 ∧ w.tail.toNat ≤ 9999) && (refBytes w.ref).all refCharOk &&
    flagOk w.offline

/-- The card particulars of a result. -/
def ResultWire.card (w : ResultWire) : CardInfo := ⟨w.ref, w.cardClass.toNat, w.tail.toNat⟩

/-- The offline flag of a result is set. -/
def ResultWire.isOffline (w : ResultWire) : Bool := decide (w.offline = 1)

/-- Test 3 of R92 for an APPROVED result. -/
def ResultWire.approvedOk (w : ResultWire) (base : Nat) (m : TipMode) : Bool :=
  decide (1 ≤ w.amount.toNat ∧ w.amount.toNat ≤ base) && m.admits w.tip.toNat

/-- Test 3 of R92 for a DECLINED result. -/
def ResultWire.declinedOk (w : ResultWire) : Bool :=
  decide (w.amount.toNat = 0 ∧ w.tip.toNat = 0)

end Sys2Proof

namespace Sys2Proof.Machine

/-- The tests of R49 on an item put into the assembly. -/
def imageItemTests (w : ItemWire) (a : Assembly) (free : List Nat) :
    List (Bool × ReplyOutcome) :=
  [(w.fieldsOk a.seats &&
      decide (1 ≤ w.serial.toNat ∧ highestSerial a.items < w.serial.toNat), .badField),
   (decide (w.status = .live → liveLines a.items + w.amount ≤ Config.maxAmount), .amountRange),
   (!free.isEmpty, .poolFull)]

/-! ### Splits and streams -/

/-- Seat masks name seats 1 to 15 only, and no seat lies in two of them (R59 test 6). -/
def masksOk (masks : List Half) : Bool :=
  masks.all (fun m => !m.getLsbD 0) &&
    (List.range 16).all (fun n => decide ((masks.filter (fun m => m.getLsbD n)).length ≤ 1))

/-- Items available to a read stream from a start position (R162); `none` is END. -/
def itemsAvailable (dir : Direction) (start : Option Nat) (len : Nat) : Nat :=
  match dir, start with
  | .forward, some p => len - p
  | .forward, none => 0
  | .backward, some p => if p < len then p + 1 else 0
  | .backward, none => len

/-- A start position: 0 to 47, or 0xFF for END with BACKWARD only (R161, 10.3). -/
def startOk (dir : Direction) (start : Byte) : Bool :=
  decide (start.toNat ≤ 47 ∨ (start = 0xFF ∧ dir = .backward))

/-- The start position a byte gives, none for END. -/
def startPos (start : Byte) : Option Nat := if start = 0xFF then none else some start.toNat

end Sys2Proof.Machine
end

