-- ==== Sys2Proof/Machine/Ops.lean ====
section
/-!
DEFINITION. The shared operations on the state: access to the entries, attention causes, the Item
Pool's chains (R41, R42), stream aborts (R168), the Uplink Queue's appends and U (R147, R152), delta
scheduling (R149), the freeing and eviction of entries (R15 to R18, R23), CONFLICT (R137), images and
retirements (R127 to R136), the ends of holds (R75 to R77), the loss of the link (R155), the timeout
of a tender (R100, R101) and the passing of time.
-/

namespace Sys2Proof.Machine

/-! ### One setter for each block -/

def State.setPending (s : State) (v : List Instr) : State := { s with pending := v }
def State.setPorts (s : State) (v : PortUnit) : State := { s with ports := v }
def State.setAttn (s : State) (v : AttnUnit) : State := { s with attn := v }
def State.setTable (s : State) (v : CheckTable) : State := { s with table := v }
def State.setStaging (s : State) (v : StagingUnit) : State := { s with staging := v }
def State.setPool (s : State) (v : ItemPool) : State := { s with pool := v }
def State.setHolds (s : State) (v : HoldArbiter) : State := { s with holds := v }
def State.setRing (s : State) (v : TenderRing) : State := { s with ring := v }
def State.setOffline (s : State) (v : OfflineUnit) : State := { s with offline := v }
def State.setTotals (s : State) (v : ShiftTotals) : State := { s with totals := v }
def State.setFloor (s : State) (v : FloorSync) : State := { s with floor := v }
def State.setUplink (s : State) (v : UplinkQueue) : State := { s with uplink := v }
def State.setStreams (s : State) (v : PerPort Channel) : State := { s with streams := v }
def State.setModes (s : State) (v : ModeController) : State := { s with modes := v }

/-! ### Entries -/

/-- Every entry index, ascending. -/
def allIdx : List (Fin 64) := List.finRange 64

/-- The check in an entry; none when it is FREE. -/
def State.check (s : State) (i : Fin 64) : Option Check := s.table.checks.get i

/-- Put a check into an entry, or free it. -/
def State.putCheck (s : State) (i : Fin 64) (c : Option Check) : State :=
  s.setTable { s.table with checks := s.table.checks.set i c i.isLt }

/-- Change the check of an entry, if it has one. -/
def State.modCheck (s : State) (i : Fin 64) (f : Check → Check) : State :=
  match s.check i with
  | some c => s.putCheck i (some (f c))
  | none => s

/-- The entry that carries a key (R1). -/
def State.findKey (s : State) (k : Key) : Option (Fin 64) :=
  allIdx.find? (fun i => match s.check i with
    | some c => c.key == k
    | none => false)

/-- The state of an entry, as replies show it. -/
def State.entryState (s : State) (i : Fin 64) : EntryState :=
  match s.check i with
  | some c => c.state.entry
  | none => .free

/-- Every entry is FREE (R182). -/
def State.allFree (s : State) : Bool := allIdx.all (fun i => (s.check i).isNone)

/-- The tests that open most requests: the index is 0 to 63 and the key names a table, else BAD_FIELD;
the entry is not FREE and its key equals the key given, else NO_MATCH. -/
def State.named (s : State) (index : Byte) (key : Half) :
    Except ReplyOutcome (Fin 64 × Check) :=
  match idx? index with
  | none => .error .badField
  | some i =>
    if keyNamed key then
      match s.check i with
      | some c => if c.key = Key.ofWire key then .ok (i, c) else .error .noMatch
      | none => .error .noMatch
    else .error .badField

/-! ### Attention -/

/-- Set an attention flag of a port (R175). -/
def State.raise (s : State) (p : Port) (c : Cause) : State :=
  s.setAttn { s.attn with flags := s.attn.flags.set p (s.attn.flags.get p ||| c.bit p) }

/-- Clear the flags of a mask at a port (R177). -/
def State.lower (s : State) (p : Port) (m : Half) : State :=
  s.setAttn { s.attn with flags := s.attn.flags.set p (s.attn.flags.get p &&& ~~~m) }

/-- The ATTN line of a port is driven low: a set flag is enabled (R175); high while RESET is held
(R180). -/
def State.attnLow (s : State) (p : Port) : Bool :=
  !s.modes.resetHeld && decide (s.attn.flags.get p &&& s.attn.enables.get p ≠ 0)

/-- The LAMP output is lit; dark while RESET is held (R158, R180). -/
def State.lampLit (s : State) : Bool := !s.modes.resetHeld && s.uplink.lamp.lit

/-! ### The Item Pool -/

/-- A chain's records return to the tail of the free list, in chain order (R41). -/
def State.freeItems (s : State) (items : List Item) : State :=
  s.setPool ⟨s.pool.free ++ items.map Item.record⟩

/-- The record at the head of the free list is taken. -/
def State.dropFree (s : State) : State := s.setPool ⟨s.pool.free.tail⟩

/-- The item chain of a pending image; a retirement has none. -/
def PendingImage.chain (g : PendingImage) : List Item :=
  match g.body with
  | .image _ _ _ items => items
  | .retire => []

/-- A pending image on the entry is discarded, its chain freed. -/
def State.discardImage (s : State) (i : Fin 64) : State :=
  match s.check i with
  | some c =>
    match c.image with
    | some g => (s.freeItems g.chain).modCheck i (fun c => { c with image := none })
    | none => s
  | none => s

/-- A pending image whose server revision is below S is discarded (R130, R132, R135, R136). -/
def State.discardOlder (s : State) (i : Fin 64) (server : Nat) : State :=
  match s.check i with
  | some c =>
    match c.image with
    | some g => if g.server < server then s.discardImage i else s
    | none => s
  | none => s

/-! ### Streams -/

/-- Set a port's channel. -/
def State.setChannel (s : State) (p : Port) (c : Channel) : State :=
  s.setStreams (s.streams.set p c)

/-- The stream of an ACTIVE or DONE channel: the streams that events abort (R168). -/
def Channel.running : Channel → Option Stream
  | .active st => some st
  | .done st => some st
  | _ => none

/-- Abort a port's stream of this target on this entry, if it is ACTIVE or DONE (R168). -/
def State.abortStream (s : State) (p : Port) (t : StreamTarget) (i : Fin 64) (r : AbortReason) :
    State :=
  match (s.streams.get p).running with
  | some st =>
    if st.target = t ∧ st.index = some i then
      (s.setChannel p (.aborted st r)).raise p .streamEnd
    else s
  | none => s

/-- Abort every read stream on an entry, on any port (R168). -/
def State.abortReads (s : State) (i : Fin 64) (r : AbortReason) : State :=
  ((s.abortStream .console .itemsRead i r).abortStream .tender .itemsRead i r).abortStream
    .link .itemsRead i r

/-- Abort a port's write stream on an entry (R80). -/
def State.abortWrite (s : State) (p : Port) (i : Fin 64) (r : AbortReason) : State :=
  s.abortStream p .itemsWrite i r

/-- The image assembly is discarded: its chain returns to the free list (R126). -/
def State.discardAssembly (s : State) : State :=
  match s.floor.assembly with
  | some a => (s.freeItems a.items).setFloor { s.floor with assembly := none }
  | none => s

/-- A port's channel returns to IDLE, discarding the assembly if its stream is the IMAGE stream in
ACTIVE or DONE (R126, R166). -/
def State.closeChannel (s : State) (p : Port) : State :=
  match (s.streams.get p).running with
  | some st =>
    if st.target = .image then s.discardAssembly.setChannel p .idle else s.setChannel p .idle
  | none => s.setChannel p .idle

/-! ### The Uplink Queue -/

/-- A CARD descriptor in POSTED or TAKEN (R84). -/
def Tender.committed (t : Tender) : Bool :=
  match t.cls, t.phase with
  | .card, .posted => true
  | .card, .taken _ => true
  | _, _ => false

/-- The uplink commitments U (R147). -/
def State.commitments (s : State) : Nat :=
  s.uplink.records.length + (s.ring.tenders.filter Tender.committed).length + s.ring.late.length

/-- There is room for one more commitment: U + 1 ≤ 48. -/
def State.uplinkRoom (s : State) : Bool := decide (s.commitments + 1 ≤ Config.uplinkSize)

/-- The number of SENT records (R146). -/
def State.sentCount (s : State) : Nat := (s.uplink.records.filter UplinkRecord.sent).length

/-- The queue holds a QUEUED record. -/
def State.hasQueued (s : State) : Bool := s.uplink.records.any (fun r => !r.sent)

/-- The record is a DELTA or CLOSE record naming the entry. -/
def UplinkRecord.callsFor (r : UplinkRecord) (i : Fin 64) : Bool :=
  match r.body with
  | .delta _ | .close _ => r.index == some i
  | _ => false

/-- A QUEUED DELTA record naming the entry (R20, R21). -/
def UplinkRecord.queuedDelta (r : UplinkRecord) (i : Fin 64) : Bool :=
  match r.body with
  | .delta _ => !r.sent && r.index == some i
  | _ => false

/-- Append a record at the tail, QUEUED, under the next sequence number; it raises the pending uplink
count of the entry it names, and sets UPLINK_READY while the link is UP (R7, R143, R145, R152). -/
def State.appendRecord (s : State) (index : Option (Fin 64)) (key : Key) (body : RecordBody) :
    State :=
  let s1 := s.setUplink
    { s.uplink with
      records := s.uplink.records ++ [⟨s.uplink.nextSeq, false, index, key, body⟩]
      nextSeq := nextNumber s.uplink.nextSeq }
  let s2 := match index with
    | some i => s1.modCheck i (fun c => { c with pendingUplink := c.pendingUplink + 1 })
    | none => s1
  if s.floor.link = .up then s2.raise .link .uplinkReady else s2

/-- An entry is eligible for a DELTA record (R149). -/
def State.deltaEligible (s : State) (i : Fin 64) : Bool :=
  match s.check i with
  | some c =>
    decide (c.state ≠ .closing) && c.owesDelta && c.hold.isNone &&
      !s.uplink.records.any (fun r => !r.sent && r.callsFor i)
  | none => false

/-- Delta scheduling at one entry: a DELTA record if it is eligible and U < 48 (R149). -/
def State.scheduleAt (s : State) (i : Fin 64) : State :=
  match s.check i with
  | some c =>
    if s.commitments < Config.uplinkSize ∧ s.deltaEligible i = true then
      (s.appendRecord (some i) c.key (.delta c.revision)).modCheck i
        (fun c => { c with uplinked := c.revision })
    else s
  | none => s

/-- Delta scheduling: the entries in ascending order (R149). -/
def State.scheduleDeltas (s : State) : State := allIdx.foldl State.scheduleAt s

/-- DELTA records that a later DELTA or CLOSE record supersedes are removed from a queue; the mark of
a removed record passes to the record behind it. Answers the records kept, the mark, and the entries
the removed records named (R155). -/
def supersede (mark : Option Nat) :
    List UplinkRecord → List UplinkRecord × Option Nat × List (Fin 64)
  | [] => ([], mark, [])
  | r :: rest =>
    match r.body, r.index with
    | .delta _, some i =>
      if rest.any (fun q => q.callsFor i) then
        let mark' := if mark = some r.seq then rest.head?.map UplinkRecord.seq else mark
        let (kept, m, gone) := supersede mark' rest
        (kept, m, i :: gone)
      else
        let (kept, m, gone) := supersede mark rest
        (r :: kept, m, gone)
    | _, _ =>
      let (kept, m, gone) := supersede mark rest
      (r :: kept, m, gone)

/-- A record naming the entry leaves the queue (R7). -/
def State.uncount (s : State) (i : Fin 64) : State :=
  s.modCheck i (fun c => { c with pendingUplink := c.pendingUplink - 1 })

/-- The loss of the link on the queue: every SENT record returns to QUEUED in its place, and
superseded DELTA records are removed (R155). -/
def State.unsend (s : State) : State :=
  let out := supersede s.uplink.mark (s.uplink.records.map (fun r => { r with sent := false }))
  out.2.2.foldl State.uncount
    (s.setUplink { s.uplink with records := out.1, mark := out.2.1 })

/-- Every SENT record becomes QUEUED, the link is DOWN (R121 step 1, R179 step 2). -/
def State.loseLink (s : State) : State :=
  ((s.setFloor { s.floor with link := .down }).unsend)

/-! ### Holds -/

/-- Who holds an entry. -/
def State.holderOf (s : State) (i : Fin 64) : Option Port := (s.check i).bind Check.holder

/-- A lease's full length in milliseconds (R72). -/
def State.fullLease (s : State) : Nat := s.modes.leaseSecs * 1000

/-- Restart the lease of the hold on an entry, if it is held (R72). -/
def State.restartLease (s : State) (i : Fin 64) : State :=
  s.modCheck i (fun c => { c with hold := c.hold.map (fun h => { h with lease := s.fullLease }) })

/-- Restart the lease of the hold on an entry if this port has it (R72). -/
def State.restartIfHolder (s : State) (p : Port) (i : Fin 64) : State :=
  if s.holderOf i = some p then s.restartLease i else s

/-- A port's count of holds changes. -/
def State.setCount (s : State) (p : Port) (n : Nat) : State :=
  s.setHolds { s.holds with count := s.holds.count.set p n }

/-- A port's waited entry changes. -/
def State.setWait (s : State) (p : Port) (i : Option (Fin 64)) : State :=
  s.setHolds { s.holds with waits := s.holds.waits.set p i }

/-- A port becomes the holder of an entry, with a fresh lease (R67, R76, R39). -/
def State.grantHold (s : State) (p : Port) (i : Fin 64) : State :=
  (s.modCheck i (fun c => { c with hold := some ⟨p, s.fullLease⟩ })).setCount p
    (s.holds.count.get p + 1)

/-- The hold on an entry ends: the holder field is empty and its port's count falls by one (R65). -/
def State.dropHold (s : State) (i : Fin 64) : State :=
  match s.holderOf i with
  | some p =>
    (s.modCheck i (fun c => { c with hold := none })).setCount p (s.holds.count.get p - 1)
  | none => s

/-- A waiter is told that its wait is over without a grant (R76, R77). -/
def State.endWait (s : State) (p : Port) : State := (s.setWait p none).raise p .waitEnded

/-- Every waiter of an entry is dismissed (R77). -/
def State.dismissWaiters (s : State) (i : Fin 64) : State :=
  match s.check i with
  | some c => (c.waiters.foldl State.endWait s).modCheck i (fun c => { c with waiters := [] })
  | none => s

/-- A waiter leaves a list, any port behind it moving up (R71, R78). -/
def State.leaveList (s : State) (p : Port) (i : Fin 64) : State :=
  (s.modCheck i (fun c => { c with waiters := c.waiters.filter (fun q => q ≠ p) })).setWait p none

/-- The grant to the oldest waiter that holds fewer than 4 checks; waiters that hold 4 are passed over
with WAIT_ENDED (R76). -/
def State.grantWaiters (i : Fin 64) : List Port → State → State
  | [], s => s.modCheck i (fun c => { c with waiters := [] })
  | p :: rest, s =>
    if s.holds.count.get p < Config.holdsPerPort then
      (((s.grantHold p i).modCheck i (fun c => { c with waiters := rest })).setWait p none).raise p
        .holdGranted
    else State.grantWaiters i rest (s.endWait p)

/-! ### Freeing, evicting and allocating entries -/

/-- An entry becomes FREE (R23): its hold ends with LEASE_LOST, its waiters are dismissed, its items
and its pending image's chain return to the pool, its read streams end with GONE, and it takes its
free values (R24). -/
def State.freeEntry (s : State) (i : Fin 64) : State :=
  match s.check i with
  | some c =>
    let s1 := match c.holder with
      | some p => ((s.dropHold i).raise p .leaseLost).abortWrite p i .gone
      | none => s
    let s2 := s1.dismissWaiters i
    let s3 := s2.freeItems c.items
    let s4 := s3.discardImage i
    let s5 := s4.abortReads i .gone
    s5.putCheck i none
  | none => s

/-- An entry is evictable (R16). -/
def State.evictable (s : State) (i : Fin 64) : Bool :=
  match s.check i with
  | some c =>
    decide (s.table.pinFloor ≤ i.val ∧ c.scope = .foreign ∧ c.state = .opened ∧ c.approved = 0 ∧
      c.reserved = 0 ∧ c.pendingUplink = 0) && c.hold.isNone && c.waiters.isEmpty &&
      c.image.isNone
  | none => false

/-- The order of the eviction scan: from the cursor up to 63, then from the pin floor to the entry just
below the cursor (R17). -/
def scanOrder (cursor pinFloor : Nat) : List (Fin 64) :=
  allIdx.filter (fun i => decide (cursor ≤ i.val)) ++
    allIdx.filter (fun i => decide (pinFloor ≤ i.val ∧ i.val < cursor))

/-- Eviction (R18): the items return to the pool, the read streams end with GONE, the entry is FREE and
EVICTION is set at the Console Port; the cursor moves past the victim (R17). -/
def State.evict (s : State) (i : Fin 64) : State :=
  match s.check i with
  | some c =>
    let s1 := (((s.freeItems c.items).abortReads i .gone).putCheck i none).raise .console .eviction
    s1.setTable
      { s1.table with cursor := if i.val = 63 then s1.table.pinFloor else i.val + 1 }
  | none => s

/-- Allocation (R15): the lowest FREE entry, or the victim of the eviction scan; none when the table
is full. The entry answered is FREE in the state answered. -/
def State.allocate (s : State) : Option (Fin 64 × State) :=
  match allIdx.find? (fun i => (s.check i).isNone) with
  | some i => some (i, s)
  | none =>
    match (scanOrder s.table.cursor s.table.pinFloor).find? (fun i => s.evictable i) with
    | some i => some (i, s.evict i)
    | none => none

/-! ### CONFLICT -/

/-- A POSTED descriptor naming the entry. -/
def Tender.postedOn (t : Tender) (i : Fin 64) : Bool :=
  decide (t.phase = .posted ∧ t.index = i)

/-- Every POSTED descriptor naming the entry finishes CANCELLED_BY_FLOOR and releases its reservation
(R108, R137 step 2). -/
def State.cancelPosted (s : State) (i : Fin 64) : State :=
  let hit := s.ring.tenders.filter (fun t => t.postedOn i)
  (s.setRing
    { s.ring with
      tenders := s.ring.tenders.map (fun t =>
        if t.postedOn i then { t with phase := .finished .cancelledByFloor } else t) }).modCheck i
    (fun c => hit.foldl (fun c t => c.unreserve t.share t.base) c)

/-- An entry enters CONFLICT (R137). -/
def State.enterConflict (s : State) (i : Fin 64) (kind : ConflictKind) : State :=
  ((s.modCheck i (fun c => { c with state := .conflict kind, overpaid := false })).cancelPosted
    i).raise .console .conflict

/-! ### Images and retirements -/

/-- The server revision S is not above the entry's own (R127 rule 2, R135 test 4). -/
def Check.serverReached (c : Check) (server : Nat) : Bool :=
  match c.server with
  | some r => decide (server ≤ r)
  | none => false

/-- A pending image's server revision is at least S. -/
def Check.imageReached (c : Check) (server : Nat) : Bool :=
  match c.image with
  | some g => decide (server ≤ g.server)
  | none => false

/-- CONFLICT, or a hold by the Console Port or the Tender Port, keeps an image waiting (R127 rule 4,
R135 test 6). -/
def Check.keepsWaiting (c : Check) : Bool :=
  decide (c.state.entry = .conflict ∨ c.holder = some .console ∨ c.holder = some .tender)

/-- What rules 3 to 7 of R127 make of an image. -/
inductive ImageVerdict where
  | closing
  | defer
  | echo
  | apply
  deriving DecidableEq, Repr

/-- Rules 3 to 7 of R127, with the deferral of R131. -/
def State.imageVerdict (s : State) (i : Fin 64) (c : Check) (owner : Nat) : ImageVerdict :=
  if c.state = .closing then .closing
  else if c.keepsWaiting then .defer
  else if c.scope = .owned ∧ some owner = s.modes.terminalId then .echo
  else if c.scope = .owned ∧
      (c.owesDelta = true ∨ s.uplink.records.any (fun r => r.callsFor i) = true) then .defer
  else .apply

/-- A check's scope, by its owner (R2). -/
def State.scopeOf (s : State) (owner : Nat) : Scope :=
  if some owner = s.modes.terminalId then .owned else .foreign

/-- Steps 2 to 4 of R132 on the check: header and items from the image, revision bumped and uplinked,
amounts recomputed, a FIXED plan removed and the targets of another recomputed. -/
def Check.takeImage (c : Check) (scope : Scope) (server owner covers seats : Nat)
    (items : List Item) (rate : Nat) : Check :=
  let c1 : Check :=
    { c with
      owner := owner
      covers := covers
      seats := seats
      server := some server
      scope := scope
      items := items
      nextSerial := highestSerial items + 1
      revision := bumpRevision c.revision
      uplinked := bumpRevision c.revision
      plan := c.plan.filter (fun p => decide (p.basis ≠ .fixed)) }
  c1.recompute rate

/-- The test of R133: the check, or a share, owes less than is paid and reserved. -/
def Check.owesTooLittle (c : Check) : Bool :=
  decide (c.due < c.approved + c.reserved) || c.planUnderruns

/-- The last step of an application: CONFLICT or state evaluation (R133). -/
def State.settleImage (s : State) (i : Fin 64) : State :=
  match s.check i with
  | some c =>
    if c.owesTooLittle then s.enterConflict i .dueBelowPaid else s.modCheck i Check.afterAmounts
  | none => s

/-- An image is applied to an existing entry (R132, R133). -/
def State.applyImage (s : State) (i : Fin 64) (server owner covers seats : Nat)
    (items : List Item) : State :=
  match s.check i with
  | some c =>
    let s1 := (s.freeItems c.items).discardOlder i server
    let s2 := s1.modCheck i (fun c =>
      c.takeImage (s.scopeOf owner) server owner covers seats items s.modes.taxRate)
    let s3 := (s2.abortReads i (.refused .stale)).raise .console .floorChange
    s3.settleImage i
  | none => s

/-- The entry's server revision becomes S. -/
def State.setServer (s : State) (i : Fin 64) (server : Nat) : State :=
  s.modCheck i (fun c => { c with server := some server })

/-- A retirement is applied (R136). -/
def State.applyRetire (s : State) (i : Fin 64) (server : Nat) : State :=
  let s1 := (s.setServer i server).discardOlder i server
  let s2 := match s1.check i with
    | some c =>
      if 0 < c.reserved then s1.enterConflict i .retired
      else if 0 < c.pendingUplink then s1.modCheck i (fun c => { c with state := .closing })
      else s1.freeEntry i
    | none => s1
  s2.raise .console .floorChange

/-- A deferred image or retirement becomes the entry's pending image, replacing an older one whose
chain returns to the pool (R129). -/
def State.deferImage (s : State) (i : Fin 64) (g : PendingImage) : State :=
  (s.discardImage i).modCheck i (fun c => { c with image := some g })

/-- The pending image leaves the entry with its chain (R134). -/
def State.takePending (s : State) (i : Fin 64) : State :=
  s.modCheck i (fun c => { c with image := none })

/-- A pending image or retirement is tried again (R134): rules 2 to 7 of R127, or tests 4 to 7 of
R135, its own server revision not counted as pending. -/
def State.tryPending (s : State) (i : Fin 64) : State :=
  match s.check i with
  | none => s
  | some c =>
    match c.image with
    | none => s
    | some g =>
      if c.serverReached g.server then s.discardImage i
      else
        match g.body with
        | .image owner covers seats items =>
          match s.imageVerdict i c owner with
          | .closing => s.discardImage i
          | .defer => s
          | .echo => (s.discardImage i).setServer i g.server
          | .apply => (s.takePending i).applyImage i g.server owner covers seats items
        | .retire =>
          if c.state = .closing then (s.discardImage i).setServer i g.server
          else if c.keepsWaiting then s
          else (s.takePending i).applyRetire i g.server

/-- The end-of-hold actions (R75): the pending image is tried, the hold passes to a waiter, and, where
the entry is left without a holder, delta scheduling runs. -/
def State.endOfHold (s : State) (i : Fin 64) : State :=
  let s1 := s.tryPending i
  match s1.check i with
  | none => s1
  | some c =>
    let s2 := State.grantWaiters i c.waiters s1
    if s2.holderOf i = none then s2.scheduleDeltas else s2

/-! ### Tenders -/

/-- The tender at a place of the ring is replaced. -/
def State.setTender (s : State) (k : Nat) (t : Tender) : State :=
  s.setRing { s.ring with tenders := s.ring.tenders.set k t }

/-- A TAKEN descriptor. -/
def Tender.isTaken (t : Tender) : Bool :=
  match t.phase with
  | .taken _ => true
  | _ => false

/-- The place of the TAKEN descriptor and the descriptor (R89). -/
def State.takenTender (s : State) : Option (Nat × Tender) :=
  match s.ring.tenders.findIdx? Tender.isTaken with
  | some k => s.ring.tenders[k]?.map (fun t => (k, t))
  | none => none

/-- The slot of a place in ring order (R83). -/
def State.slotOf (s : State) (k : Nat) : Nat := (s.ring.retireIdx + k) % Config.ringSize

/-- A new entry joins the Late Window, the oldest of four leaving (R101). -/
def pushLate (late : List LateEntry) (e : LateEntry) : List LateEntry :=
  (if Config.lateWindowSize ≤ late.length then late.tail else late) ++ [e]

/-- The Late Window entry of a tender that times out (R101). -/
def Tender.lateEntry (t : Tender) : LateEntry := ⟨t.serial, t.index, t.key, t.share, t.base, t.tipMode⟩

/-- One more on a saturating count (R114). -/
def bumpCount (n : Nat) : Nat := saturate Config.maxHalf n 1

/-- Change the live counters (R115). -/
def State.countTotals (s : State) (f : Totals → Totals) : State :=
  s.setTotals { s.totals with live := f s.totals.live }

/-- An approval in the live counters (R115). -/
def Totals.approval (t : Totals) (cls : TenderClass) (amount tip : Nat) (offline late : Bool) :
    Totals :=
  { t with
    card := if cls = .card then saturate Config.maxQuad t.card amount else t.card
    cash := if cls = .cash then saturate Config.maxQuad t.cash amount else t.cash
    offline := if offline then saturate Config.maxQuad t.offline amount else t.offline
    tip := saturate Config.maxQuad t.tip tip
    approvals := bumpCount t.approvals
    lateApprovals := if late then bumpCount t.lateApprovals else t.lateApprovals }

/-- The TAKEN tender times out (R100, R107); TENDER_EXPIRED is set where its timer expired. -/
def State.timeOutTaken (s : State) (expired : Bool) : State :=
  match s.takenTender with
  | none => s
  | some (k, t) =>
    let s1 := s.setRing
      { s.ring with
        tenders := s.ring.tenders.set k { t with phase := .finished .timedOut }
        timer := none
        late := pushLate s.ring.late t.lateEntry }
    let s2 := s1.modCheck t.index (fun c => (c.unreserve t.share t.base).afterAmounts)
    let s3 := (s2.countTotals (fun n => { n with timeouts := bumpCount n.timeouts })).raise
      .console .tenderFinished
    if expired then s3.raise .tender .tenderExpired else s3

/-! ### Time -/

/-- A timer that runs for some milliseconds. -/
def runTimer (t : Option Nat) (dt : Nat) : Option Nat := t.map (fun n => n - dt)

/-- A hold's lease runs. -/
def Check.runLease (dt : Nat) (c : Check) : Check :=
  { c with hold := c.hold.map (fun h => { h with lease := h.lease - dt }) }

/-- Milliseconds pass. The timebase, which does not run in SLEEP (R185), carries the leases, the tender
timer and the lamp's blink; the wake clock carries the wake timer (R186). Nothing runs while RESET is
held (R180). -/
def State.advance (s : State) (dt : Nat) : State :=
  if s.modes.resetHeld then s
  else
    let s1 := s.setModes { s.modes with wakeTimer := runTimer s.modes.wakeTimer dt }
    if s.modes.mode = .sleep then s1
    else
      let s2 := s1.setTable
        { s1.table with checks := s1.table.checks.map (Option.map (Check.runLease dt)) }
      let s3 := s2.setRing { s2.ring with timer := runTimer s2.ring.timer dt }
      s3.setUplink { s3.uplink with lamp := s3.uplink.lamp.advance dt }

/-- The lease of the hold on an entry has run out. -/
def State.leaseDue (s : State) (i : Fin 64) : Bool :=
  match s.check i with
  | some c => c.hold.any (fun h => decide (h.lease = 0))
  | none => false

/-- A timer runs and has run out. -/
def timerDue (t : Option Nat) : Bool := decide (t = some 0)

/-- One millisecond of the part's clocks, with the expiries it makes due put into the queue (log 2). A
lease or timer that an expiry command's own elapsed time has brought to 0 is not made due by it: its
expiry comes from outside, as any command does (the model's choice, logs 2 and 3). -/
def State.tick (s : State) : State :=
  let s1 := s.advance 1
  let leases := allIdx.filter (fun i => s1.leaseDue i && !s.leaseDue i)
  let tender := timerDue s1.ring.timer && !timerDue s.ring.timer
  let wake := timerDue s1.modes.wakeTimer && !timerDue s.modes.wakeTimer
  s1.setPending (s1.pending ++ leases.map (fun i => .leaseExpiry i 0) ++
    (if tender then [.tenderTimeout 0] else []) ++ (if wake then [.wakeTimerExpiry 0] else []))

end Sys2Proof.Machine
end

