-- ==== Sys2Proof/Machine/Exchange.lean ====
section
/-!
DEFINITION. Taking an exchange: the reply slot (R170, R171), the frame's routing (R172 to R174), the
admission of requests by configuration step and operating mode (R181, R186), the wake from DOZE by
an exchange (R184) and the lamp's re-evaluation after every command (R158).
-/

namespace Sys2Proof.Machine

/-- What a request's own rule answers: the outcome, the reply's body and the state it leaves. -/
structure Ans where
  outcome : ReplyOutcome
  body : List Byte
  state : State

/-- A refusal with an empty body that changes nothing. -/
def State.refuse (s : State) (o : ReplyOutcome) : Ans := ⟨o, [], s⟩

/-- An OK reply. -/
def State.accept (s : State) (body : List Byte) : Ans := ⟨.ok, body, s⟩

/-- Tests made in order: the first that fails refuses the request, which then changes nothing. -/
def State.tested (s : State) (tests : List (Bool × ReplyOutcome)) (k : Ans) : Ans :=
  match firstFailure tests with
  | some o => s.refuse o
  | none => k

/-- A request about an entry named by index and key: BAD_FIELD or NO_MATCH where it names none. -/
def State.onNamed (s : State) (index : Byte) (key : Half) (k : Fin 64 → Check → Ans) : Ans :=
  match s.named index key with
  | .error o => s.refuse o
  | .ok (i, c) => k i c

/-! ### Modes, lamp and wake -/

/-- The lamp is re-evaluated (R158). -/
def State.relamp (s : State) : State :=
  s.setUplink
    { s.uplink with
      lamp := s.uplink.lamp.show
        (lampPattern s.modes.mode s.offline.exposureCap s.offline.exposure s.commitments
          s.floor.link s.uplink.records.length) }

/-- The operating mode changes. -/
def State.setMode (s : State) (m : Mode) : State := s.setModes { s.modes with mode := m }

/-- The part returns to ACTIVE, and WAKE is set at the Console Port (R184, R186). -/
def State.wakeUp (s : State) : State := (s.setMode .active).raise .console .wake

/-- A wake from SLEEP begins: the wake timer starts (R186). -/
def State.beginWake (s : State) : State :=
  s.setModes { s.modes with wakeTimer := some Config.wakeMillis }

/-- A wake from SLEEP may begin: the part sleeps and is not yet waking (R186). -/
def State.asleep (s : State) : Bool :=
  !s.modes.resetHeld && decide (s.modes.mode = .sleep) && s.modes.wakeTimer.isNone

/-- The internal timebase runs: not in SLEEP, and not while RESET is held (R180, R185). -/
def State.timebaseRuns (s : State) : Bool :=
  !s.modes.resetHeld && decide (s.modes.mode ≠ .sleep)

/-- After a timer's expiry: in DOZE the part returns to ACTIVE (R184). -/
def State.afterExpiry (s : State) : State := if s.modes.mode = .doze then s.wakeUp else s

/-! ### The exchange -/

/-- A 64-byte exchange consumes the reply slot: the slot's reply is shifted out, or the NONE reply
where the exchange began before that reply was placed; REPLY is cleared (R170, R171). -/
def State.consume (s : State) (x : Exch) : State :=
  (s.setPorts
    { slot := s.ports.slot.set x.port Reply.noReply
      delivered := s.ports.delivered.set x.port
        (if x.early then Reply.noReply else s.ports.slot.get x.port) }).lower x.port
    (Cause.reply.bit x.port)

/-- Whether and how a 64-byte exchange is taken, before its frame is checked; none where the part does
not take it. In DOZE an exchange on a port whose wake enable is set first returns the part to ACTIVE
(R184). In SLEEP it is ignored unless a wake has begun, which it does itself on a port whose wake
enable is set (R185, R186, log 12); so does one that began before SLEEP was entered, on whose start
R186 is silent: the model's choice, log 12. While RESET is held nothing is taken (R180), and an exchange that
was in progress at a cold reset or at the release of RESET is discarded (R170, R180, log 30). -/
def State.enter (s : State) (x : Exch) : Option State :=
  if s.modes.resetHeld || x.cut then none
  else
    match s.modes.mode with
    | .active => some (s.consume x)
    | .doze =>
      if s.modes.wakeEnable.get x.port then some (s.wakeUp.consume x) else some (s.consume x)
    | .sleep =>
      if s.modes.wakeTimer.isSome then some (s.consume x)
      else if s.modes.wakeEnable.get x.port then some (s.beginWake.consume x)
      else none

/-- A reply is placed in the port's slot; it sets REPLY unless it is one of the two quiet ones
(R171). -/
def State.placeReply (s : State) (p : Port) (r : Reply) (quiet : Bool) : State :=
  let s1 := s.setPorts { s.ports with slot := s.ports.slot.set p r }
  if quiet then s1 else s1.raise p .reply

/-- A 64-byte exchange with what follows the frame's arrival. -/
def State.exchange (s : State) (x : Exch) (answer : State → State) : State :=
  match s.enter x with
  | some s1 => (answer s1).relamp
  | none => s

/-- The requests the Mode Controller admits in every configuration step (R181). -/
def alwaysAdmitted : Req → Bool
  | .nop | .status | .attnRead | .attnClear | .attnEnable | .portReset => true
  | _ => false

/-- The configuration step a CONFIG request belongs to. -/
def configStepOf : Req → Option ConfigStep
  | .config1 => some .step1
  | .config2 => some .step2
  | .config3 => some .step3
  | .config4 => some .step4
  | _ => none

/-- Test 3 of R173: the outcome and body of a refusal by the Mode Controller, none where it admits the
request. A frame taken while the mode is SLEEP is taken while waking (R186). -/
def State.admission (s : State) (q : Req) : Option (ReplyOutcome × List Byte) :=
  if s.modes.mode = .sleep then some (.waking, [])
  else if s.modes.step = .ready then none
  else if alwaysAdmitted q then none
  else
    match configStepOf q with
    | some n => if n = s.modes.step then none else some (.sequence, be1 s.modes.step.code)
    | none => some (.notReady, [])

/-- Tests 2 to 5 of R173; `extra` is the length of the elements that the request's count gives. -/
def answerRequest (q : Req) (x : Exch) (extra : Nat) (rule : State → Ans) (s : State) : Ans :=
  if !q.permitted x.port then s.refuse .wrongPort
  else
    match s.admission q with
    | some (o, body) => ⟨o, body, s⟩
    | none => if x.len.toNat < q.fieldBytes + extra then s.refuse .badField else rule s

/-- The OK replies to NOP and PORT_RESET do not set REPLY (R171). -/
def quietReply (q : Req) (o : ReplyOutcome) : Bool :=
  (q == .nop || q == .portReset) && o == .ok

/-- The reply of an answer is placed: it echoes the request's code and tag (R173). -/
def giveReply (q : Req) (x : Exch) (a : Ans) : State :=
  a.state.placeReply x.port ⟨q.code, x.tag, a.outcome, a.body⟩ (quietReply q a.outcome)

/-- A request frame: it is taken, routed and answered. -/
def request (q : Req) (x : Exch) (extra : Nat) (rule : State → Ans) (s : State) :
    Host.Outcome State Fault Refusal :=
  .next (s.exchange x (fun s1 => giveReply q x (answerRequest q x extra rule s1)))

end Sys2Proof.Machine
end

