-- ==== Sys2Proof/Machine/Checks.lean ====
section
/-!
DEFINITION. Finding and closing checks: PROBE, CHECK_INFO, CHECK_CLOSE (01_the_check_table.md) and
RESOLVE (R139 to R141).
-/

namespace Sys2Proof.Machine

/-- The non-FREE entries PROBE looks for, ascending: the key itself, or with ANY every key of its table
number (R11, R12). -/
def State.probeMatches (s : State) (k : Key) (any : Bool) : List (Fin 64) :=
  allIdx.filter (fun i => match s.check i with
    | some c => if any then c.key.table == k.table else c.key == k
    | none => false)

/-- PROBE on the Console Port loads the primary record's probe index (R12, R27). -/
def State.loadProbe (s : State) (p : Port) (i : Option (Fin 64)) : State :=
  if p = .console then
    s.setStaging { s.staging with primary := { s.staging.primary with probe := i } }
  else s

/-- PROBE's own rule (R11, R12). -/
def probeRule (p : Port) (key : Half) (any : Byte) (s : State) : Ans :=
  s.tested [(keyNamed key && flagOk any, .badField)]
    (let found := s.probeMatches (Key.ofWire key) (decide (any = 1))
     match found with
     | [] => ⟨.noMatch, be1 255 ++ be1 0 ++ be1 0 ++ be2 0, s.loadProbe p none⟩
     | i :: _ =>
       (s.loadProbe p (some i)).accept
         (beIndex (some i) ++ be1 found.length ++ be1 (s.entryState i).code ++
           be2 (((s.check i).map Check.revision).getD 0)))

/-- PROBE (R11, R12). -/
def execProbe (x : Exch) (key : Half) (any : Byte) (s : State) :
    Host.Outcome State Fault Refusal :=
  request .probe x 0 (probeRule x.port key any) s

/-- CHECK_INFO with share number 0 (R13). -/
def State.entryInfo (s : State) (i : Fin 64) : List Byte :=
  match s.check i with
  | some c => c.wire i
  | none => freeEntryWire i

/-- CHECK_INFO with a share number from 1 to 8: none where it is answered NO_MATCH (R14). -/
def State.shareInfo (s : State) (i : Fin 64) (k : Nat) : Option (List Byte) :=
  (s.check i).bind (fun c => c.plan.bind (fun p =>
    p.shares[k - 1]?.map (fun sh => sh.wire i k c p)))

/-- CHECK_INFO's own rule (R13, R14). -/
def checkInfoRule (index share : Byte) (s : State) : Ans :=
  match idx? index with
  | none => s.refuse .badField
  | some i =>
    s.tested [(decide (share.toNat ≤ 8), .badField)]
      (if share = 0 then s.accept (s.entryInfo i)
       else
         match s.shareInfo i share.toNat with
         | some b => s.accept b
         | none => s.refuse .noMatch)

/-- CHECK_INFO (R13, R14). -/
def execCheckInfo (x : Exch) (index share : Byte) (s : State) :
    Host.Outcome State Fault Refusal :=
  request .checkInfo x 0 (checkInfoRule index share) s

/-! ### CHECK_CLOSE -/

/-- A QUEUED DELTA record naming the entry (R20 test 6, R21). -/
def State.queuedDelta (s : State) (i : Fin 64) : Option UplinkRecord :=
  s.uplink.records.find? (fun r => r.queuedDelta i)

/-- The QUEUED DELTA record becomes a CLOSE record in place, with the entry's present key and revision
(R21, R144). -/
def State.convertDelta (s : State) (i : Fin 64) (c : Check) : State :=
  s.setUplink
    { s.uplink with
      records := s.uplink.records.map (fun r =>
        if r.queuedDelta i then { r with key := c.key, body := .close c.revision } else r) }

/-- The CLOSE record: the sequence number it has and the state with it (R21). -/
def State.placeClose (s : State) (i : Fin 64) (c : Check) : Nat × State :=
  match s.queuedDelta i with
  | some r => (r.seq, s.convertDelta i c)
  | none => (s.uplink.nextSeq, s.appendRecord (some i) c.key (.close c.revision))

/-- The Console Port's hold ends with none of the end-of-hold actions: its write stream on the entry is
aborted and every waiter dismissed (R21, R77, R80). -/
def State.endQuietly (s : State) (i : Fin 64) : State :=
  ((s.dropHold i).abortWrite .console i (.refused .notHolder)).dismissWaiters i

/-- Tests 3 to 6 of R20. -/
def State.closeTests (s : State) (i : Fin 64) (c : Check) : List (Bool × ReplyOutcome) :=
  [(decide (c.holder = some .console), .notHolder),
   (decide (c.scope = .owned), .notOwner),
   (decide (c.state = .settled ∨ (c.state = .opened ∧ c.due = 0)), .state),
   ((s.queuedDelta i).isSome || s.uplinkRoom, .uplinkFull)]

/-- CHECK_CLOSE's own rule (R20, R21). -/
def checkCloseRule (index : Byte) (key : Half) (s : State) : Ans :=
  s.onNamed index key (fun i c =>
    s.tested (s.closeTests i c)
      (let out := s.placeClose i c
       let s1 := out.2.modCheck i (fun c => { c with uplinked := c.revision, state := .closing })
       (s1.endQuietly i).accept (be2 out.1)))

/-- CHECK_CLOSE (R20, R21). -/
def execCheckClose (x : Exch) (index : Byte) (key : Half) (s : State) :
    Host.Outcome State Fault Refusal :=
  request .checkClose x 0 (checkCloseRule index key) s

/-! ### RESOLVE -/

/-- Tests 3 to 7 of R139 for a resolution; `kind` is the conflict kind it settles. -/
def State.resolveTests (s : State) (c : Check) (kind : ConflictKind) :
    List (Bool × ReplyOutcome) :=
  [(decide (c.holder = some .console), .notHolder),
   (decide (c.state.entry = .conflict), .state),
   (decide (c.state = .conflict kind), .badField),
   (decide (c.reserved = 0), .state),
   (s.uplinkRoom, .uplinkFull)]

/-- Some share of the check's plan has a target below that share's approved (R140 step 2). -/
def Check.planOverpaid (c : Check) : Bool :=
  match c.plan with
  | some p => p.shares.any (fun sh => decide (sh.target < sh.approved))
  | none => false

/-- A plan some share of which has been paid above its target is removed (R140 step 2). -/
def Check.dropOverpaidPlan (c : Check) : Check :=
  if c.planOverpaid then { c with plan := none }.bump else c

/-- The reply of RESOLVE: state, surplus, sequence number (10.3, log 19). -/
def State.resolveBody (s : State) (i : Fin 64) (surplus seq : Nat) : List Byte :=
  be1 (s.entryState i).code ++ be4 surplus ++ be2 seq

/-- RESOLVE KEEP's own rule (R139, R140), with the range test on the resolution byte. -/
def resolveKeepRule (index : Byte) (key : Half) (resolution : Byte) (s : State) : Ans :=
  s.tested [(decide (resolution = 1), .badField)]
    (s.onNamed index key (fun i c =>
      s.tested (s.resolveTests c .dueBelowPaid)
        (let s1 := s.modCheck i (fun c => c.dropOverpaidPlan.evaluate)
         let s2 := if c.planOverpaid then s1.abortReads i (.refused .stale) else s1
         let s3 := s2.appendRecord (some i) c.key (.resolve .keep c.surplus)
         let s4 := s3.restartLease i
         s4.accept (s4.resolveBody i c.surplus s.uplink.nextSeq))))

/-- RESOLVE KEEP, and RESOLVE with a byte that is no resolution (R139, R140). -/
def execResolveKeep (x : Exch) (index : Byte) (key : Half) (resolution : Byte) (s : State) :
    Host.Outcome State Fault Refusal :=
  request .resolve x 0 (resolveKeepRule index key resolution) s

/-- RESOLVE CLOSE's own rule (R139, R141). -/
def resolveCloseRule (index : Byte) (key : Half) (s : State) : Ans :=
  s.onNamed index key (fun i c =>
    s.tested (s.resolveTests c .retired)
      (let s1 := s.appendRecord (some i) c.key (.resolve .close c.surplus)
       let s2 := s1.modCheck i (fun c =>
         { c with uplinked := c.revision, state := .closing }.markOverpaid)
       let s3 := s2.endQuietly i
       s3.accept (s3.resolveBody i c.surplus s.uplink.nextSeq)))

/-- RESOLVE CLOSE (R139, R141). -/
def execResolveClose (x : Exch) (index : Byte) (key : Half) (s : State) :
    Host.Outcome State Fault Refusal :=
  request .resolve x 0 (resolveCloseRule index key) s

end Sys2Proof.Machine
end

