-- ==== Sys2Proof/Machine/Staging.lean ====
section
/-!
DEFINITION. The staging records: READ, STAGE_GET, STAGE_SET, EXCHANGE, COMMIT and COMMIT_NEW
(02_staging_and_commit.md).
-/

namespace Sys2Proof.Machine

/-- The primary record changes. -/
def State.setPrimary (s : State) (r : StagingRecord) : State :=
  s.setStaging { s.staging with primary := r }

/-- The record loaded from an entry (R28); the probe index is unchanged. -/
def StagingRecord.load (r : StagingRecord) (i : Fin 64) (c : Check) : StagingRecord where
  valid := true
  target := some i
  probe := r.probe
  origKey := some c.key
  captured := c.revision
  key := some c.key
  covers := c.covers
  seats := c.seats
  scopeCopy := some c.scope
  stateCopy := some c.state.entry

/-- READ from an index (R28). -/
def State.readFrom (s : State) (i : Option (Fin 64)) : Ans :=
  match i with
  | none => s.refuse .noMatch
  | some i =>
    match s.check i with
    | none => s.refuse .noMatch
    | some c =>
      let r := s.staging.primary.load i c
      (s.setPrimary r).accept r.wire

/-- READ's own rule: an index from 0 to 63, or 0xFE for the probe index (R28, 10.3). -/
def readRule (index : Byte) (s : State) : Ans :=
  if index = 0xFE then s.readFrom s.staging.primary.probe
  else
    match idx? index with
    | none => s.refuse .badField
    | some i => s.readFrom (some i)

/-- READ (R28). -/
def execRead (x : Exch) (index : Byte) (s : State) : Host.Outcome State Fault Refusal :=
  request .read x 0 (readRule index) s

/-- STAGE_GET (R30). -/
def execStageGet (x : Exch) (selector : Byte) (s : State) : Host.Outcome State Fault Refusal :=
  request .stageGet x 0 (fun s =>
    if selector = 0 then s.accept s.staging.primary.wire
    else if selector = 1 then s.accept s.staging.alternate.wire
    else s.refuse .badField) s

/-- The record STAGE_SET writes into: a valid one as it is, an invalid one made valid for a new check
(R29). -/
def StagingRecord.prepared (r : StagingRecord) : StagingRecord :=
  if r.valid then r else { StagingRecord.invalid with valid := true, probe := r.probe }

/-- The selected fields take their values (R29): bit 0 key, bit 1 covers, bit 2 seat count. -/
def StagingRecord.write (r : StagingRecord) (selection : Byte) (key : Half)
    (covers seats : Byte) : StagingRecord :=
  { r with
    key := if selection.getLsbD 0 then some (Key.ofWire key) else r.key
    covers := if selection.getLsbD 1 then covers.toNat else r.covers
    seats := if selection.getLsbD 2 then seats.toNat else r.seats }

/-- STAGE_SET's own rule (R29). -/
def stageSetRule (selection : Byte) (key : Half) (covers seats : Byte) (s : State) : Ans :=
  s.tested
    [(decide (1 ≤ selection.toNat ∧ selection.toNat ≤ 7), .badField),
     (!selection.getLsbD 0 || keyNamed key, .badField)]
    (let r := s.staging.primary.prepared.write selection key covers seats
     (s.setPrimary r).accept r.wire)

/-- STAGE_SET (R29). -/
def execStageSet (x : Exch) (selection : Byte) (key : Half) (covers seats : Byte) (s : State) :
    Host.Outcome State Fault Refusal :=
  request .stageSet x 0 (stageSetRule selection key covers seats) s

/-- EXCHANGE (R31). -/
def execExchange (x : Exch) (s : State) : Host.Outcome State Fault Refusal :=
  request .exchange x 0 (fun s =>
    (s.setStaging ⟨s.staging.alternate, s.staging.primary⟩).accept s.staging.alternate.wire) s

/-! ### COMMIT -/

/-- The reply of COMMIT and COMMIT_NEW: index, key, revision (10.3). -/
def commitBody (i : Fin 64) (k : Option Key) (revision : Nat) : List Byte :=
  beIndex (some i) ++ beKey k ++ be2 revision

/-- The states in which a check can be edited and paid (R32 test 5, R50 test 5, R85 test 4). -/
def CheckState.editable : CheckState → Bool
  | .opened | .tendering | .settled => true
  | .closing | .conflict _ => false

/-- A staged key is carried by no non-FREE entry but perhaps one (R32 test 6, R38 test 2). -/
def State.keyUnused (s : State) (k : Option Key) (but : Option (Fin 64)) : Bool :=
  allIdx.all (fun i => decide (some i = but) || (match s.check i with
    | some c => decide (k ≠ some c.key)
    | none => true))

/-- The ranges of covers and seat count (R32 test 7, R38 test 3). -/
def StagingRecord.rangesOk (r : StagingRecord) : Bool :=
  r.key.isSome && decide (1 ≤ r.covers ∧ r.covers ≤ 99 ∧ 1 ≤ r.seats ∧ r.seats ≤ 15)

/-- Tests 2 to 7 of R32 against the target entry. -/
def State.commitTests (s : State) (r : StagingRecord) (i : Fin 64) (c : Check) :
    List (Bool × ReplyOutcome) :=
  [(decide (r.origKey = some c.key ∧ c.revision = r.captured), .stale),
   (decide (c.holder = some .console), .notHolder),
   (decide (c.scope = .owned), .notOwner),
   (c.state.editable && decide (r.key = some c.key ∨ (c.reserved = 0 ∧ c.image = none)), .state),
   (s.keyUnused r.key (some i), .duplicateKey),
   (r.rangesOk && c.liveItems.all (fun it => decide (it.seat ≤ r.seats)), .badField)]

/-- The header a COMMIT writes, with its bump where a field differs (R36). -/
def Check.takeHeader (c : Check) (r : StagingRecord) : Check :=
  let c1 : Check := { c with key := r.key.getD c.key, covers := r.covers, seats := r.seats }
  if c1 = c then c else c1.bump

/-- The record after a COMMIT: up to date with the entry (R37). -/
def StagingRecord.committed (r : StagingRecord) (c : Check) : StagingRecord :=
  { r with
    origKey := some c.key
    captured := c.revision
    scopeCopy := some c.scope
    stateCopy := some c.state.entry }

/-- COMMIT on its target (R32, R36, R37). -/
def State.commitTo (s : State) (r : StagingRecord) (i : Fin 64) : Ans :=
  match s.check i with
  | none => s.refuse .stale
  | some c =>
    s.tested (s.commitTests r i c)
      (let c1 := c.takeHeader r
       let s1 := s.putCheck i (some c1)
       let s2 := if c1.revision = c.revision then s1 else s1.abortReads i (.refused .stale)
       let s3 := s2.restartLease i
       (s3.setPrimary (r.committed c1)).accept (commitBody i (some c1.key) c1.revision))

/-- COMMIT's own rule (R32). -/
def commitRule (s : State) : Ans :=
  let r := s.staging.primary
  match r.valid, r.target with
  | true, some i => s.commitTo r i
  | _, _ => s.refuse .noStage

/-- COMMIT (R32, R36, R37). -/
def execCommit (x : Exch) (s : State) : Host.Outcome State Fault Refusal :=
  request .commit x 0 commitRule s

/-! ### COMMIT_NEW -/

/-- The check COMMIT_NEW places (R39), before its hold is granted. -/
def newCheck (k : Key) (covers seats owner : Nat) : Check where
  state := .opened
  key := k
  scope := .owned
  owner := owner
  revision := 1
  uplinked := 0
  server := none
  covers := covers
  seats := seats
  items := []
  nextSerial := 1
  subtotal := 0
  tax := 0
  due := 0
  approved := 0
  reserved := 0
  tips := 0
  overpaid := false
  plan := none
  hold := none
  waiters := []
  image := none
  pendingUplink := 0

/-- Tests 1 to 4 of R38. -/
def State.commitNewTests (s : State) (r : StagingRecord) : List (Bool × ReplyOutcome) :=
  [(r.valid, .noStage),
   (s.keyUnused r.key none, .duplicateKey),
   (r.rangesOk, .badField),
   (decide (s.holds.count.console < Config.holdsPerPort), .holdLimit)]

/-- The primary record after COMMIT_NEW: it targets the new entry (R39). -/
def StagingRecord.placed (r : StagingRecord) (i : Fin 64) : StagingRecord :=
  { r with
    target := some i
    origKey := r.key
    captured := 1
    scopeCopy := some .owned
    stateCopy := some .opened }

/-- COMMIT_NEW's own rule (R38, R39). -/
def commitNewRule (s : State) : Ans :=
  let r := s.staging.primary
  s.tested (s.commitNewTests r)
    (match r.key, s.allocate with
     | some k, some (i, s1) =>
       let s2 := s1.putCheck i
         (some (newCheck k r.covers r.seats (s.modes.terminalId.getD 0)))
       let s3 := s2.grantHold .console i
       (s3.setPrimary (r.placed i)).accept (commitBody i (some k) 1)
     | _, _ => s.refuse .tableFull)

/-- COMMIT_NEW (R38, R39). -/
def execCommitNew (x : Exch) (s : State) : Host.Outcome State Fault Refusal :=
  request .commitNew x 0 commitNewRule s

end Sys2Proof.Machine
end

