-- ==== Sys2Proof/Machine/Items.lean ====
section
/-!
DEFINITION. Editing items and split plans: ITEM_ADD, ITEM_VOID, SPLIT_SET and SPLIT_CLEAR
(03_items_and_check_arithmetic.md).
-/

namespace Sys2Proof.Machine

/-- The check has a split plan of basis FIXED (R50 test 9, R53 test 8). -/
def Check.splitFixed (c : Check) : Bool :=
  match c.plan with
  | some p => decide (p.basis = .fixed)
  | none => false

/-- The check with one item more at the tail of its list, its amounts recomputed (R51 steps 1, 2). -/
def Check.withItem (c : Check) (it : Item) (rate : Nat) : Check :=
  ({ c with items := c.items ++ [it], nextSerial := c.nextSerial + 1 }).recompute rate

/-- Tests 3 to 11 of R50, made against an entry; a write stream's item is tested by the same (R52). -/
def State.itemTests (s : State) (c : Check) (w : ItemWire) : List (Bool × ReplyOutcome) :=
  [(decide (c.holder = some .console), .notHolder),
   (decide (c.scope = .owned), .notOwner),
   (c.state.editable, .state),
   (w.fieldsOk c.seats, .badField),
   (decide (c.items.length < Config.itemsPerCheck ∧ c.nextSerial ≤ 255), .checkLimit),
   (decide (c.subtotal + w.amount ≤ Config.maxAmount), .amountRange),
   (!c.splitFixed, .splitFixed),
   (!(c.withItem (w.item 0 c.nextSerial .live .localAdd) s.modes.taxRate).planUnderruns,
     .shareUnderrun),
   (!s.pool.free.isEmpty, .poolFull)]

/-- What every edit of a check ends with: read streams aborted STALE, the Console Port's lease
restarted (R51 steps 5 and 6). -/
def State.afterEdit (s : State) (i : Fin 64) : State :=
  (s.abortReads i (.refused .stale)).restartLease i

/-- An item is added (R51): a record from the head of the free list, the amounts, the revision, the
state, the streams and the lease. On an OVERPAID check with something reserved the new due can reach
approved and stay below approved + reserved: the flag clears, as R9 and R51 say, and R48's bound then
does not hold, which no test of R50 prevents: the model's choice, log 31. -/
def State.addItem (s : State) (i : Fin 64) (c : Check) (w : ItemWire) : State :=
  let it := w.item (s.pool.free.headD 0) c.nextSerial .live .localAdd
  ((s.dropFree).putCheck i
    (some (c.withItem it s.modes.taxRate).bump.afterAmounts)).afterEdit i

/-- The reply of ITEM_ADD and ITEM_VOID: serial, revision, subtotal, tax, due, state (10.3). -/
def State.itemBody (s : State) (i : Fin 64) (serial : Nat) : List Byte :=
  match s.check i with
  | some c =>
    be1 serial ++ be2 c.revision ++ be3 c.subtotal ++ be3 c.tax ++ be3 c.due ++
      be1 c.state.entry.code
  | none => []

/-- ITEM_ADD's own rule (R50, R51). -/
def itemAddRule (index : Byte) (key : Half) (w : ItemWire) (s : State) : Ans :=
  s.onNamed index key (fun i c =>
    s.tested (s.itemTests c w)
      (let t := s.addItem i c w
       t.accept (t.itemBody i c.nextSerial)))

/-- ITEM_ADD (R50, R51). -/
def execItemAdd (x : Exch) (index : Byte) (key : Half) (w : ItemWire) (s : State) :
    Host.Outcome State Fault Refusal :=
  request .itemAdd x 0 (itemAddRule index key w) s

/-- The check with an item voided, its amounts recomputed (R54). -/
def Check.withoutItem (c : Check) (serial rate : Nat) : Check :=
  ({ c with items := voidItem serial c.items }).recompute rate

/-- Tests 3 to 10 of R53. -/
def State.voidTests (s : State) (c : Check) (serial : Nat) : List (Bool × ReplyOutcome) :=
  let v := c.withoutItem serial s.modes.taxRate
  [(decide (c.holder = some .console), .notHolder),
   (decide (c.scope = .owned), .notOwner),
   (decide (c.state = .opened), .state),
   (c.items.any (fun it => decide (it.serial = serial)), .noMatch),
   (c.items.any (fun it => decide (it.serial = serial ∧ it.status = .live)), .badField),
   (!c.splitFixed, .splitFixed),
   (decide (c.approved ≤ v.due), .overTender),
   (!v.planUnderruns, .shareUnderrun)]

/-- ITEM_VOID's own rule (R53, R54). -/
def itemVoidRule (index : Byte) (key : Half) (serial : Byte) (s : State) : Ans :=
  s.tested [(decide (serial ≠ 0), .badField)]
    (s.onNamed index key (fun i c =>
      s.tested (s.voidTests c serial.toNat)
        (let t := (s.putCheck i
           (some (c.withoutItem serial.toNat s.modes.taxRate).bump.afterAmounts)).afterEdit i
         t.accept (t.itemBody i serial.toNat))))

/-- ITEM_VOID (R53, R54). -/
def execItemVoid (x : Exch) (index : Byte) (key : Half) (serial : Byte) (s : State) :
    Host.Outcome State Fault Refusal :=
  request .itemVoid x 0 (itemVoidRule index key serial) s

/-! ### Split plans -/

/-- The shares SPLIT_SET's elements give: the masks under BY_SEAT, the targets under FIXED (R59). -/
def newShares (b : Basis) (count : Nat) (elems : List Tri) : List Share :=
  match b with
  | .even => List.replicate count ⟨0, 0, 0, 0, 0⟩
  | .bySeat => elems.map (fun e : Tri => ⟨0, e.setWidth 16, 0, 0, 0⟩)
  | .fixed => elems.map (fun e : Tri => ⟨e.toNat, 0, 0, 0, 0⟩)

/-- Test 6 of R59: a plan from the request's fields, none where it is refused. -/
def newPlan (basis count : Byte) (elems : List Tri) (due : Nat) : Option SplitPlan :=
  match basis? basis with
  | none => none
  | some b =>
    let shares := newShares b count.toNat elems
    let ok := decide (2 ≤ count.toNat ∧ count.toNat ≤ 8 ∧ shares.length = count.toNat) &&
      (match b with
       | .even => true
       | .bySeat => masksOk (shares.map Share.mask)
       | .fixed => shares.all (fun sh => decide (sh.target ≤ Config.maxDue)) &&
           decide ((shares.map Share.target).sum = due))
    if ok then some ⟨b, shares⟩ else none

/-- Tests 3 to 5 of R59. -/
def splitSetTests (c : Check) : List (Bool × ReplyOutcome) :=
  [(decide (c.holder = some .console), .notHolder),
   (decide (c.scope = .owned), .notOwner),
   (c.state.editable && decide (c.reserved = 0 ∧ c.approved = 0), .state)]

/-- SPLIT_SET's reply: the share count and each share's target (10.3). -/
def SplitPlan.targetsWire (p : SplitPlan) : List Byte :=
  be1 p.shares.length ++ p.shares.flatMap (fun sh : Share => be3 sh.target)

/-- SPLIT_SET's own rule (R59, R60). -/
def splitSetRule (index : Byte) (key : Half) (basis count : Byte) (elems : List Tri)
    (s : State) : Ans :=
  s.onNamed index key (fun i c =>
    s.tested (splitSetTests c)
      (match newPlan basis count elems c.due with
       | none => s.refuse .badField
       | some p0 =>
         let p := p0.retarget s.modes.taxRate c.due c.items
         ((s.putCheck i (some { c with plan := some p }.bump)).afterEdit i).accept
           p.targetsWire))

/-- SPLIT_SET (R59, R60). -/
def execSplitSet (x : Exch) (index : Byte) (key : Half) (basis count : Byte)
    (elems : List Tri) (s : State) : Host.Outcome State Fault Refusal :=
  request .splitSet x (count.toNat * splitElemBytes basis)
    (splitSetRule index key basis count elems) s

/-- The tests of R61 after the entry is named. -/
def splitClearTests (c : Check) : List (Bool × ReplyOutcome) :=
  [(decide (c.holder = some .console), .notHolder),
   (decide (c.scope = .owned), .notOwner),
   (c.state.editable && decide (c.reserved = 0), .state),
   (c.plan.isSome, .noMatch)]

/-- SPLIT_CLEAR's own rule (R61). -/
def splitClearRule (index : Byte) (key : Half) (s : State) : Ans :=
  s.onNamed index key (fun i c =>
    s.tested (splitClearTests c)
      (((s.putCheck i (some { c with plan := none }.bump)).afterEdit i).accept []))

/-- SPLIT_CLEAR (R61). -/
def execSplitClear (x : Exch) (index : Byte) (key : Half) (s : State) :
    Host.Outcome State Fault Refusal :=
  request .splitClear x 0 (splitClearRule index key) s

end Sys2Proof.Machine
end

