-- ==== Sys2Proof/Machine/Streams.lean ====
section
/-!
DEFINITION. Stream channels: STREAM_OPEN, STREAM_NEXT, STREAM_PUT and STREAM_CLOSE
(09_stream_channels.md; R49, R52, R124).
-/

namespace Sys2Proof.Machine

/-- A channel that is ACTIVE (R161 test 3, R123 test 4). -/
def Channel.isActive : Channel → Bool
  | .active _ => true
  | _ => false

/-- A channel with a stream set up: DONE at once when nothing remains (R162, R123). -/
def Channel.opened (st : Stream) : Channel :=
  if st.remaining = 0 then .done { st with cursor := 0 } else .active st

/-- The tests of R161 on the target, index, key and count of any STREAM_OPEN. -/
def openFieldsOk (index : Byte) (key : Half) (count : Byte) : Bool :=
  (idx? index).isSome && keyNamed key && decide (1 ≤ count.toNat ∧ count.toNat ≤ 48)

/-- The read stream that R162 sets up on a check. -/
def readStream (i : Fin 64) (c : Check) (dir : Direction) (start : Byte) (count : Nat) :
    Stream where
  target := .itemsRead
  index := some i
  key := c.key
  captured := some c.revision
  dir := dir
  cursor := (startPos start).getD (c.items.length - 1)
  remaining := min count (itemsAvailable dir (startPos start) c.items.length)

/-- STREAM_OPEN with target ITEMS_READ, and with a byte that is no target it admits (R161, R162). -/
def openReadRule (p : Port) (target index : Byte) (key : Half) (dir start count : Byte)
    (s : State) : Ans :=
  match direction? dir with
  | none => s.refuse .badField
  | some d =>
    s.tested
      [(decide (target = 1) && openFieldsOk index key count && startOk d start, .badField),
       (!(s.streams.get p).isActive, .streamBusy)]
      (s.onNamed index key (fun i c =>
        let st := readStream i c d start count.toNat
        ((s.closeChannel p).setChannel p (Channel.opened st)).accept
          (be1 st.remaining ++ be2 c.revision ++ be1 c.items.length)))

/-- STREAM_OPEN ITEMS_READ (R161, R162). -/
def execStreamOpenItemsRead (x : Exch) (target index : Byte) (key : Half)
    (dir start count : Byte) (s : State) : Host.Outcome State Fault Refusal :=
  request .streamOpen x 0 (openReadRule x.port target index key dir start count) s

/-- The write stream that R164 sets up on a check. -/
def writeStream (i : Fin 64) (c : Check) (count : Nat) : Stream where
  target := .itemsWrite
  index := some i
  key := c.key
  captured := some c.revision
  dir := .forward
  cursor := 0
  remaining := count

/-- Test 5 of R161. -/
def openWriteTests (c : Check) : List (Bool × ReplyOutcome) :=
  [(decide (c.holder = some .console), .notHolder),
   (decide (c.scope = .owned), .notOwner),
   (c.state.editable, .state)]

/-- STREAM_OPEN with target ITEMS_WRITE (R161, R164); direction and start position are not used. -/
def openWriteRule (p : Port) (index : Byte) (key : Half) (count : Byte) (s : State) : Ans :=
  s.tested
    [(openFieldsOk index key count, .badField),
     (decide (p = .console), .wrongPort),
     (!(s.streams.get p).isActive, .streamBusy)]
    (s.onNamed index key (fun i c =>
      s.tested (openWriteTests c)
        (((s.closeChannel p).setChannel p (.active (writeStream i c count.toNat))).accept
          (be1 count.toNat ++ be2 0 ++ be1 0))))

/-- STREAM_OPEN ITEMS_WRITE (R161, R164). -/
def execStreamOpenItemsWrite (x : Exch) (index : Byte) (key : Half) (_dir _start count : Byte)
    (s : State) : Host.Outcome State Fault Refusal :=
  request .streamOpen x 0 (openWriteRule x.port index key count) s

/-! ### Reading -/

/-- A stream's cursor moved by some positions in its direction. -/
def Stream.move (st : Stream) (n : Nat) : Nat :=
  match st.dir with
  | .forward => st.cursor + n
  | .backward => st.cursor - n

/-- How many records a STREAM_NEXT returns: two, or what remains (R163). -/
def Stream.batch (st : Stream) : Nat := min 2 st.remaining

/-- The records a STREAM_NEXT returns from a list (R163). -/
def Stream.records (st : Stream) (items : List Item) : List Item :=
  (List.range st.batch).filterMap (fun n => items[st.move n]?)

/-- A stream after a STREAM_NEXT: the cursor stays at the last record returned when none remains
(R163). -/
def Stream.advanced (st : Stream) : Stream :=
  let left := st.remaining - st.batch
  { st with
    remaining := left
    cursor := if left = 0 then st.move (st.batch - 1) else st.move st.batch }

/-- A stream of a port goes on: it is DONE, with STREAM_END, when nothing remains (R163, R165,
R167). -/
def State.continueStream (s : State) (p : Port) (st : Stream) : State :=
  if st.remaining = 0 then (s.setChannel p (.done st)).raise p .streamEnd
  else s.setChannel p (.active st)

/-- The items of a stream's entry. -/
def State.streamItems (s : State) (st : Stream) : List Item :=
  match st.index.bind s.check with
  | some c => c.items
  | none => []

/-- STREAM_NEXT on an ACTIVE read stream (R163). -/
def State.readNext (s : State) (p : Port) (st : Stream) : Ans :=
  let out := st.records (s.streamItems st)
  let st' := st.advanced
  let s1 := s.continueStream p st'
  let s2 := match st.index with
    | some i => s1.restartIfHolder p i
    | none => s1
  s2.accept (be1 out.length ++ be1 st'.remaining ++ be2 (st.captured.getD 0) ++
    out.flatMap Item.wire)

/-- STREAM_NEXT's own rule (R163). The STATE answer on an ACTIVE channel of another target, which has no
abort reason, has an empty body: the model's choice, log 28. -/
def streamNextRule (p : Port) (s : State) : Ans :=
  match s.streams.get p with
  | .idle => s.refuse .streamIdle
  | .done _ => ⟨.empty, be1 0 ++ be1 0, s⟩
  | .aborted _ r => ⟨.state, be1 r.code, s⟩
  | .active st => if st.target = .itemsRead then s.readNext p st else s.refuse .state

/-- STREAM_NEXT (R163). -/
def execStreamNext (x : Exch) (s : State) : Host.Outcome State Fault Refusal :=
  request .streamNext x 0 (streamNextRule x.port) s

/-! ### Writing -/

/-- A stream is aborted by an item it carried (R165, R168). -/
def State.failStream (s : State) (p : Port) (st : Stream) (o : ReplyOutcome) : State :=
  (s.setChannel p (.aborted st (.refused o))).raise p .streamEnd

/-- One item of STREAM_PUT on an ACTIVE write stream: the state, and the serial it was given if it was
added (R52, R165). -/
def State.putWriteItem (s : State) (p : Port) (st : Stream) (w : ItemWire) :
    State × Option Nat :=
  match st.index with
  | none => (s.failStream p st .state, none)
  | some i =>
    match s.check i with
    | none => (s.failStream p st .notHolder, none)
    | some c =>
      match firstFailure (s.itemTests c w) with
      | some o => (s.failStream p st o, none)
      | none =>
        let t := s.addItem i c w
        (t.continueStream p
          { st with captured := (t.check i).map Check.revision, remaining := st.remaining - 1 },
         some c.nextSerial)

/-- One item of STREAM_PUT on an ACTIVE image stream (R49, R124). -/
def State.putImageItem (s : State) (p : Port) (st : Stream) (w : ItemWire) :
    State × Option Nat :=
  match s.floor.assembly with
  | none => (s.failStream p st .state, none)
  | some a =>
    match firstFailure (imageItemTests w a s.pool.free) with
    | some o => ((s.failStream p st o).discardAssembly, none)
    | none =>
      let it := w.item (s.pool.free.headD 0) w.serial.toNat w.status .floor
      let t := s.dropFree.setFloor
        { s.floor with assembly := some { a with items := a.items ++ [it] } }
      (t.continueStream p { st with remaining := st.remaining - 1 }, some w.serial.toNat)

/-- The items of a frame, in the order carried, as long as the port's stream stays ACTIVE (R165): the
state and the serials of the items added. -/
def State.putItems (p : Port) : List ItemWire → State → State × List Nat
  | [], s => (s, [])
  | w :: rest, s =>
    match s.streams.get p with
    | .active st =>
      let out := if st.target = .image then s.putImageItem p st w else s.putWriteItem p st w
      match out.2 with
      | some serial =>
        let more := State.putItems p rest out.1
        (more.1, serial :: more.2)
      | none => (out.1, [])
    | _ => (s, [])

/-- The stream of a channel, in every state but IDLE (R160). -/
def Channel.stream : Channel → Option Stream
  | .idle => none
  | .active st => some st
  | .done st => some st
  | .aborted st _ => some st

/-- STREAM_PUT's OK body: number added, remaining count, captured revision, the serials given; revision
and serials are zero on the IMAGE stream (10.3). On a DONE read stream the revision is the one that
stream captured: the model's choice, log 29. -/
def putBody (st : Stream) (serials : List Nat) : List Byte :=
  be1 serials.length ++ be1 st.remaining ++
    (if st.target = .image then List.replicate 4 0
     else be2 (st.captured.getD 0) ++ be1 (serials[0]?.getD 0) ++ be1 (serials[1]?.getD 0))

/-- STREAM_PUT on an ACTIVE write or image stream (R124, R165). -/
def State.putActive (s : State) (p : Port) (st : Stream) (items : List ItemWire) : Ans :=
  let out := State.putItems p items s
  out.1.accept (putBody (((out.1.streams.get p).stream).getD st) out.2)

/-- STREAM_PUT's own rule (R165); the item count is tested first. The STATE answer on an ACTIVE read
stream has an empty body (log 28). -/
def streamPutRule (p : Port) (count : Byte) (items : List ItemWire) (s : State) : Ans :=
  s.tested [(decide (count = 1 ∨ count = 2), .badField)]
    (match s.streams.get p with
     | .idle => s.refuse .streamIdle
     | .done st => s.accept (putBody st [])
     | .aborted _ r => ⟨.state, be1 r.code, s⟩
     | .active st =>
       if st.target = .itemsRead then s.refuse .state
       else s.putActive p st (items.take count.toNat))

/-- STREAM_PUT (R165). -/
def execStreamPut (x : Exch) (count : Byte) (items : List ItemWire) (s : State) :
    Host.Outcome State Fault Refusal :=
  request .streamPut x (count.toNat * itemWireBytes) (streamPutRule x.port count items) s

/-! ### Closing -/

/-- The abort reason of a channel, zero where it has none (10.3). -/
def Channel.reasonCode : Channel → Nat
  | .aborted _ r => r.code
  | _ => 0

/-- STREAM_CLOSE's own rule (R166). -/
def streamCloseRule (p : Port) (s : State) : Ans :=
  let c := s.streams.get p
  match c.stream with
  | none => s.refuse .streamIdle
  | some st =>
    (s.closeChannel p).accept
      (be1 c.code ++ be1 st.target.code ++ be1 st.remaining ++ be1 c.reasonCode ++
        beIndex st.index ++ beKey (some st.key))

/-- STREAM_CLOSE (R166). -/
def execStreamClose (x : Exch) (s : State) : Host.Outcome State Fault Refusal :=
  request .streamClose x 0 (streamCloseRule x.port) s

end Sys2Proof.Machine
end

