-- ==== Sys2Proof/Machine/Floor.lean ====
section
/-!
DEFINITION. The link state, image assembly, IMAGE_END and RETIRE (07_floor_synchronization.md). The
application of images and retirements is in Ops.lean, for holds and acknowledgements also reach it.
-/

namespace Sys2Proof.Machine

/-- LINK_STATE's reply: the state now in force (R120, 10.3). -/
def State.linkBody (s : State) : List Byte := be1 s.floor.link.code

/-- LINK_STATE UP, and a byte that is no link state (R120). -/
def linkUpRule (linkState : Byte) (s : State) : Ans :=
  s.tested [(decide (linkState = 1), .badField)]
    (if s.floor.link = .up then s.accept s.linkBody
     else
       let s1 := s.setFloor { s.floor with link := .up }
       let s2 := if s.hasQueued then s1.raise .link .uplinkReady else s1
       s2.accept s2.linkBody)

/-- LINK_STATE UP (R120). -/
def execLinkStateUp (x : Exch) (linkState : Byte) (s : State) :
    Host.Outcome State Fault Refusal :=
  request .linkState x 0 (linkUpRule linkState) s

/-- The Link Port's IMAGE stream is aborted with LINK_DOWN (R121 step 2). -/
def State.abortImage (s : State) : State :=
  match (s.streams.link).running with
  | some st =>
    if st.target = .image then s.failStream .link st .linkDown else s
  | none => s

/-- LINK_STATE DOWN's own rule (R120, R121). -/
def linkDownRule (s : State) : Ans :=
  if s.floor.link = .down then s.accept s.linkBody
  else
    let t := s.loseLink.abortImage.discardAssembly
    t.accept t.linkBody

/-- LINK_STATE DOWN (R121). -/
def execLinkStateDown (x : Exch) (s : State) : Host.Outcome State Fault Refusal :=
  request .linkState x 0 linkDownRule s

/-- Test 1 of R123. -/
def imageFieldsOk (key : Half) (owner covers seats count : Byte) : Bool :=
  keyNamed key &&
    decide (owner.toNat ≤ 250 ∧ 1 ≤ covers.toNat ∧ covers.toNat ≤ 99 ∧ 1 ≤ seats.toNat ∧
      seats.toNat ≤ 15 ∧ count.toNat ≤ 48)

/-- The stream IMAGE_BEGIN opens (R123, R160). -/
def imageStream (k : Key) (count : Nat) : Stream where
  target := .image
  index := none
  key := k
  captured := none
  dir := .forward
  cursor := 0
  remaining := count

/-- The assembly IMAGE_BEGIN creates (R122, R123). -/
def newAssembly (key server : Half) (owner covers seats count : Byte) : Assembly where
  key := Key.ofWire key
  server := server.toNat
  owner := owner.toNat
  covers := covers.toNat
  seats := seats.toNat
  count := count.toNat
  items := []

/-- IMAGE_BEGIN's own rule (R123). -/
def imageBeginRule (key server : Half) (owner covers seats count : Byte) (s : State) : Ans :=
  s.tested
    [(imageFieldsOk key owner covers seats count, .badField),
     (decide (s.floor.link = .up), .linkDown),
     (s.floor.assembly.isNone, .busy),
     (!s.streams.link.isActive, .streamBusy)]
    (((s.setFloor
        { s.floor with assembly := some (newAssembly key server owner covers seats count) }).setChannel
        .link (Channel.opened (imageStream (Key.ofWire key) count.toNat))).accept [])

/-- IMAGE_BEGIN (R123). -/
def execImageBegin (x : Exch) (key server : Half) (owner covers seats count : Byte)
    (s : State) : Host.Outcome State Fault Refusal :=
  request .imageBegin x 0 (imageBeginRule key server owner covers seats count) s

/-- The check a new-key image places (R128), before state evaluation. -/
def Assembly.newCheck (a : Assembly) (scope : Scope) (rate : Nat) : Check :=
  ({ Sys2Proof.Machine.newCheck a.key a.covers a.seats a.owner with
      scope := scope
      uplinked := 1
      server := some a.server
      items := a.items
      nextSerial := highestSerial a.items + 1 }).recompute rate

/-- IMAGE_END's body with OK: index, state, revision (10.3). -/
def State.imageBody (s : State) (i : Fin 64) : List Byte :=
  beIndex (some i) ++ be1 (s.entryState i).code ++
    be2 (((s.check i).map Check.revision).getD 0)

/-- IMAGE_END's body with another outcome: the index, 0xFF where there is none, and zeros (10.3). -/
def imageRefusalBody (i : Option (Fin 64)) : List Byte := beIndex i ++ be1 0 ++ be2 0

/-- An assembly is no more: its chain has a new place. -/
def State.takeAssembly (s : State) : State := s.setFloor { s.floor with assembly := none }

/-- A new-key image: rule 1 of R127 (R128). -/
def State.placeImage (s : State) (a : Assembly) : Ans :=
  match s.allocate with
  | none => ⟨.tableFull, imageRefusalBody none, s.discardAssembly⟩
  | some (i, s1) =>
    let c := (a.newCheck (s.scopeOf a.owner) s.modes.taxRate).evaluate
    let t := (s1.takeAssembly.putCheck i (some c)).raise .console .floorChange
    t.accept (t.imageBody i)

/-- Rules 2 to 7 of R127 for an image whose key an entry carries. -/
def State.endImageAt (s : State) (a : Assembly) (i : Fin 64) (c : Check) : Ans :=
  if c.serverReached a.server || c.imageReached a.server then
    ⟨.stale, imageRefusalBody (some i), s.discardAssembly⟩
  else
    match s.imageVerdict i c a.owner with
    | .closing => ⟨.state, imageRefusalBody (some i), s.discardAssembly⟩
    | .defer =>
      ⟨.deferred, imageRefusalBody (some i),
        s.takeAssembly.deferImage i ⟨a.server, .image a.owner a.covers a.seats a.items⟩⟩
    | .echo =>
      let t := (s.discardOlder i a.server).discardAssembly.setServer i a.server
      t.accept (t.imageBody i)
    | .apply =>
      let t := s.takeAssembly.applyImage i a.server a.owner a.covers a.seats a.items
      t.accept (t.imageBody i)

/-- The image apply rules (R127). -/
def State.endImage (s : State) (a : Assembly) : Ans :=
  match s.findKey a.key with
  | none => s.placeImage a
  | some i =>
    match s.check i with
    | some c => s.endImageAt a i c
    | none => s.placeImage a

/-- IMAGE_END's own rule (R125): the channel returns to IDLE whatever the apply rules give. -/
def imageEndRule (s : State) : Ans :=
  match s.floor.assembly with
  | none => s.refuse .state
  | some a =>
    s.tested [(!s.streams.link.isActive, .state)]
      (let out := s.endImage a
       ⟨out.outcome, out.body, out.state.setChannel .link .idle⟩)

/-- IMAGE_END (R125). -/
def execImageEnd (x : Exch) (s : State) : Host.Outcome State Fault Refusal :=
  request .imageEnd x 0 imageEndRule s

/-- IMAGE_ABORT's own rule (R126). -/
def imageAbortRule (s : State) : Ans :=
  s.tested [(s.floor.assembly.isSome, .state)]
    ((s.discardAssembly.setChannel .link .idle).accept [])

/-- IMAGE_ABORT (R126). -/
def execImageAbort (x : Exch) (s : State) : Host.Outcome State Fault Refusal :=
  request .imageAbort x 0 imageAbortRule s

/-- RETIRE's body: index and state; with DEFERRED and STALE the index and a zero (10.3). -/
def retireBody (i : Fin 64) (state : Nat) : List Byte := beIndex (some i) ++ be1 state

/-- Tests 4 to 7 of R135 on the entry that carries the key. -/
def State.retireAt (s : State) (i : Fin 64) (c : Check) (server : Nat) : Ans :=
  if c.serverReached server || c.imageReached server then ⟨.stale, retireBody i 0, s⟩
  else if c.state = .closing then
    ((s.setServer i server).discardOlder i server).accept (retireBody i EntryState.closing.code)
  else if c.keepsWaiting then
    ⟨.deferred, retireBody i 0, s.deferImage i ⟨server, .retire⟩⟩
  else
    let t := s.applyRetire i server
    t.accept (retireBody i (t.entryState i).code)

/-- RETIRE's own rule (R135). -/
def retireRule (key server : Half) (s : State) : Ans :=
  s.tested
    [(keyNamed key, .badField), (decide (s.floor.link = .up), .linkDown)]
    (match s.findKey (Key.ofWire key) with
     | none => s.refuse .noMatch
     | some i =>
       match s.check i with
       | some c => s.retireAt i c server.toNat
       | none => s.refuse .noMatch)

/-- RETIRE (R135, R136). -/
def execRetire (x : Exch) (key server : Half) (s : State) : Host.Outcome State Fault Refusal :=
  request .retire x 0 (retireRule key server) s

end Sys2Proof.Machine
end

