-- ==== Sys2Proof/Machine/Holds.lean ====
section
/-!
DEFINITION. HOLD, RENEW, RELEASE and LEASE_EXPIRY (04_holds_and_leases.md).
-/

namespace Sys2Proof.Machine

/-- HOLD's OK reply: index, key, state, revision (R67, 10.3). -/
def State.holdBody (s : State) (i : Fin 64) : List Byte :=
  match s.check i with
  | some c =>
    beIndex (some i) ++ beKey (some c.key) ++ be1 c.state.entry.code ++ be2 c.revision
  | none => []

/-- The requester joins the tail of the waiter list (R68). -/
def State.joinList (s : State) (p : Port) (i : Fin 64) : State :=
  (s.modCheck i (fun c => { c with waiters := c.waiters ++ [p] })).setWait p (some i)

/-- Cases 3 to 6 of R66 (R67, R68). -/
def State.holdCases (s : State) (p : Port) (i : Fin 64) (c : Check) : Ans :=
  if c.holder = some p then (s.restartLease i).accept (s.holdBody i)
  else if p ∈ c.waiters then s.refuse .queued
  else if c.hold = none then
    s.tested [(decide (s.holds.count.get p < Config.holdsPerPort), .holdLimit)]
      ((s.grantHold p i).accept (s.holdBody i))
  else
    s.tested
      [(decide (s.holds.waits.get p = none), .waitBusy),
       (decide (s.holds.count.get p < Config.holdsPerPort), .holdLimit)]
      ⟨.queued, [], s.joinList p i⟩

/-- HOLD (R66). -/
def execHold (x : Exch) (index : Byte) (key : Half) (s : State) :
    Host.Outcome State Fault Refusal :=
  request .hold x 0 (fun s => s.onNamed index key (fun i c => s.holdCases x.port i c)) s

/-- RENEW (R69). -/
def execRenew (x : Exch) (index : Byte) (key : Half) (s : State) :
    Host.Outcome State Fault Refusal :=
  request .renew x 0 (fun s => s.onNamed index key (fun i c =>
    s.tested [(decide (c.holder = some x.port), .notHolder)]
      ((s.restartLease i).accept []))) s

/-- The hold ends with the end-of-hold actions, the port's write stream on the entry aborted (R70, R73,
R75, R80). -/
def State.endHold (s : State) (p : Port) (i : Fin 64) : State :=
  ((s.dropHold i).abortWrite p i (.refused .notHolder)).endOfHold i

/-- A RELEASE's key finds the entry: it names table 0, or the entry's own key (R70 test 2). -/
def State.releaseKeyOk (s : State) (i : Fin 64) (key : Half) : Bool :=
  !keyNamed key || decide ((s.check i).map Check.key = some (Key.ofWire key))

/-- Cases 3 to 5 of R70 (R71). -/
def State.releaseCases (s : State) (p : Port) (i : Fin 64) : Ans :=
  match s.check i with
  | none => s.refuse .notHolder
  | some c =>
    if c.holder = some p then (s.endHold p i).accept []
    else if p ∈ c.waiters then (s.leaveList p i).accept []
    else s.refuse .notHolder

/-- RELEASE's own rule (R70). -/
def releaseRule (p : Port) (index : Byte) (key : Half) (s : State) : Ans :=
  match idx? index with
  | none => s.refuse .badField
  | some i => s.tested [(s.releaseKeyOk i key, .noMatch)] (s.releaseCases p i)

/-- RELEASE (R70, R71). -/
def execRelease (x : Exch) (index : Byte) (key : Half) (s : State) :
    Host.Outcome State Fault Refusal :=
  request .release x 0 (releaseRule x.port index key) s

/-- A lease expires (R73): the hold ends, LEASE_LOST is set at the former holder, and the end-of-hold
actions run. -/
def State.expireLease (s : State) (i : Fin 64) : State :=
  match s.holderOf i with
  | some p =>
    (((s.dropHold i).abortWrite p i (.refused .notHolder)).raise p .leaseLost).endOfHold i
  | none => s

/-- LEASE_EXPIRY: taken where the lease has run out; where the holder has restarted it, or the hold has
ended, the expiry does not happen (R73, R74, log 3). In DOZE it returns the part to ACTIVE (R184). -/
def execLeaseExpiry (i : Fin 64) (elapsed : Nat) (s : State) :
    Host.Outcome State Fault Refusal :=
  .next (
    let s1 := s.advance elapsed
    if s1.timebaseRuns && s1.leaseDue i then (s1.expireLease i).afterExpiry.relamp else s1)

end Sys2Proof.Machine
end

