-- ==== Sys2Proof/Machine/Ports.lean ====
section
/-!
DEFINITION. The requests of the ports themselves: NOP, STATUS, the attention requests, PORT_RESET, and
the frames that carry no request (10_ports_frames_and_attention.md, R183).
-/

namespace Sys2Proof.Machine

/-- NOP (R173). -/
def execNop (x : Exch) (s : State) : Host.Outcome State Fault Refusal :=
  request .nop x 0 (fun s => s.accept []) s

/-- The number of entries for which a test holds. -/
def State.countEntries (s : State) (f : Option Check → Bool) : Nat :=
  (allIdx.filter (fun i => f (s.check i))).length

/-- An entry has a holder (R183, R185). -/
def hasHolder : Option Check → Bool
  | some c => c.hold.isSome
  | none => false

/-- Some channel is ACTIVE (R183, R185). -/
def State.anyActive (s : State) : Bool :=
  [Port.console, .tender, .link].any (fun p => match s.streams.get p with
    | .active _ => true
    | _ => false)

/-- STATUS's reply (R183, 10.3). -/
def State.statusBody (s : State) : List Byte :=
  be1 s.modes.mode.code ++ be1 s.modes.step.code ++ be1 (s.modes.terminalId.getD 0) ++
    be1 s.floor.link.code ++ beFlag s.floor.assembly.isSome ++
    be1 (s.countEntries Option.isNone) ++ be2 s.pool.free.length ++
    be1 (s.countEntries hasHolder) ++ be1 s.ring.tenders.length ++
    beFlag s.takenTender.isSome ++ be1 s.ring.late.length ++ be2 s.ring.nextSerial ++
    be1 s.uplink.records.length ++ be1 s.sentCount ++ be1 s.commitments ++
    be2 s.uplink.nextSeq ++ be4 s.offline.exposure ++ be1 s.offline.count ++ beFlag s.anyActive

/-- STATUS (R183). -/
def execStatus (x : Exch) (s : State) : Host.Outcome State Fault Refusal :=
  request .status x 0 (fun s => s.accept s.statusBody) s

/-- ATTN_READ (R176). -/
def execAttnRead (x : Exch) (s : State) : Host.Outcome State Fault Refusal :=
  request .attnRead x 0 (fun s =>
    let f := s.attn.flags.get x.port
    let e := s.attn.enables.get x.port
    s.accept (be2 f.toNat ++ be2 e.toNat ++ be1 (priorityNumber f e))) s

/-- ATTN_CLEAR's own rule (R177). -/
def attnClearRule (p : Port) (mask : Half) (s : State) : Ans :=
  s.tested [(maskOk p mask, .badField)]
    (let t := s.lower p mask
     t.accept (be2 (t.attn.flags.get p).toNat))

/-- ATTN_CLEAR (R177). -/
def execAttnClear (x : Exch) (mask : Half) (s : State) : Host.Outcome State Fault Refusal :=
  request .attnClear x 0 (attnClearRule x.port mask) s

/-- ATTN_ENABLE's own rule (R178). -/
def attnEnableRule (p : Port) (mask : Half) (s : State) : Ans :=
  s.tested [(maskOk p mask, .badField)]
    (let t := s.setAttn { s.attn with enables := s.attn.enables.set p mask }
     t.accept (be2 mask.toNat ++ be2 (t.attn.flags.get p).toNat))

/-- ATTN_ENABLE (R178). -/
def execAttnEnable (x : Exch) (mask : Half) (s : State) : Host.Outcome State Fault Refusal :=
  request .attnEnable x 0 (attnEnableRule x.port mask) s

/-- The port's share of the blocks is reset (R179 step 2; R26, R107, R119, R126,
R155, R157). -/
def State.resetShare (s : State) (p : Port) : State :=
  match p with
  | .console =>
    ((s.setStaging ⟨StagingRecord.invalid, StagingRecord.invalid⟩).setUplink
      { s.uplink with mark := none }).setTotals { s.totals with snapshot := none }
  | .tender => s.timeOutTaken false
  | .link => s.discardAssembly.loseLink

/-- A hold of the port on an entry ends with the end-of-hold actions (R78). -/
def State.releaseAt (p : Port) (s : State) (i : Fin 64) : State :=
  if s.holderOf i = some p then (s.dropHold i).endOfHold i else s

/-- The port leaves its waiter list, and its holds end in ascending index order (R78). The
end-of-hold actions run as after RELEASE, delta scheduling among them, on each of the three ports
(R75, R78, R148), so that a PORT_RESET can append DELTA records and advance the sequence counter
where R159 has the queue or its counter unchanged: the model's choice, log 27. -/
def State.releaseAll (s : State) (p : Port) : State :=
  let s1 := match s.holds.waits.get p with
    | some i => s.leaveList p i
    | none => s
  allIdx.foldl (State.releaseAt p) s1

/-- PORT_RESET's own rule (R179). -/
def portResetRule (p : Port) (s : State) : Ans :=
  let s1 := s.closeChannel p
  let s2 := s1.resetShare p
  let s3 := s2.releaseAll p
  (s3.setAttn ⟨s3.attn.flags.set p 0, s3.attn.enables.set p 0⟩).accept []

/-- PORT_RESET (R179). -/
def execPortReset (x : Exch) (s : State) : Host.Outcome State Fault Refusal :=
  request .portReset x 0 (portResetRule x.port) s

/-- BAD_FRAME: the exchange is taken and answered, and no request is taken (R172). -/
def execBadFrame (x : Exch) (code : Byte) (s : State) : Host.Outcome State Fault Refusal :=
  .next (s.exchange x (fun s => s.placeReply x.port ⟨code, x.tag, .badFrame, []⟩ false))

/-- UNKNOWN_REQUEST (R173 test 1). -/
def execUnknownRequest (x : Exch) (code : Byte) (s : State) :
    Host.Outcome State Fault Refusal :=
  .next (s.exchange x (fun s => s.placeReply x.port ⟨code, x.tag, .unknownRequest, []⟩ false))

/-- EXCHANGE_DISCARDED: the slot keeps its reply, and nothing is taken (R170). In SLEEP its start
begins a wake on a port whose wake enable is set, whatever its length (R186, log 12), and so does one
that started before SLEEP was entered: the model's choice, log 12. -/
def execExchangeDiscarded (p : Port) (_bytes : Nat) (s : State) :
    Host.Outcome State Fault Refusal :=
  .next (if s.asleep && s.modes.wakeEnable.get p then s.beginWake else s)

end Sys2Proof.Machine
end

