-- ==== Sys2Proof/Machine/Power.lean ====
section
/-!
DEFINITION. Configuration, operating modes, cold reset, the WAKE line and the wake timer
(11_bring_up_configuration_and_power.md; R113, R156).
-/

namespace Sys2Proof.Machine

/-- The step after a CONFIG request other than CONFIG_1: the next one, and READY stays READY (R181,
R182). -/
def ConfigStep.next : ConfigStep → ConfigStep
  | .step1 => .step2
  | .step2 => .step3
  | .step3 => .step4
  | .step4 => .ready
  | .ready => .ready

/-- The condition of a reissued CONFIG_1 (R182). -/
def State.vacant (s : State) : Bool :=
  s.allFree && s.ring.tenders.isEmpty && s.uplink.records.isEmpty && s.ring.late.isEmpty

/-- Every channel returns to IDLE, discarding any assembly, with no STREAM_END (R182). -/
def State.closeAll (s : State) : State :=
  ((s.closeChannel .console).closeChannel .tender).closeChannel .link

/-- CONFIG_1's own rule (R181, R182, R17). -/
def config1Rule (tid pin : Byte) (s : State) : Ans :=
  s.tested
    [(decide (1 ≤ tid.toNat ∧ tid.toNat ≤ 250 ∧ pin.toNat ≤ 32), .badField),
     (decide (s.modes.step = .ready → s.vacant = true), .busy)]
    (let s1 := if s.modes.step = .ready then s.closeAll else s
     let s2 := s1.setTable { s1.table with pinFloor := pin.toNat, cursor := pin.toNat }
     (s2.setModes { s2.modes with terminalId := some tid.toNat, step := .step2 }).accept
       (be1 tid.toNat ++ be1 pin.toNat ++ be1 2))

/-- CONFIG_1 (R181, R182). -/
def execConfig1 (x : Exch) (tid pin : Byte) (s : State) : Host.Outcome State Fault Refusal :=
  request .config1 x 0 (config1Rule tid pin) s

/-- CONFIG_2's own rule (R181, R182). -/
def config2Rule (tax : Half) (lease : Byte) (timeout : Half) (s : State) : Ans :=
  s.tested
    [(decide (tax.toNat ≤ 2500 ∧ 5 ≤ lease.toNat ∧ lease.toNat ≤ 120 ∧ 30 ≤ timeout.toNat ∧
        timeout.toNat ≤ 300), .badField),
     (decide (s.modes.step = .ready → s.allFree = true), .busy)]
    ((s.setModes
      { s.modes with
        taxRate := tax.toNat
        leaseSecs := lease.toNat
        tenderSecs := timeout.toNat
        step := s.modes.step.next }).accept
      (be2 tax.toNat ++ be1 lease.toNat ++ be2 timeout.toNat ++ be1 s.modes.step.next.code))

/-- CONFIG_2 (R181, R182). -/
def execConfig2 (x : Exch) (tax : Half) (lease : Byte) (timeout : Half) (s : State) :
    Host.Outcome State Fault Refusal :=
  request .config2 x 0 (config2Rule tax lease timeout) s

/-- The limits in force and the configuration step, as CONFIG_3's reply carries them (10.3). -/
def State.limitsBody (s : State) : List Byte :=
  be3 s.offline.singleLimit ++ be4 s.offline.exposureCap ++ be1 s.offline.countCap ++
    be1 s.modes.step.code

/-- CONFIG_3's own rule (R113): its refusals carry the limits in force. -/
def config3Rule (single : Tri) (cap : Quad) (count : Byte) (s : State) : Ans :=
  match firstFailure
    [(decide (single.toNat ≤ Config.maxAmount ∧ cap.toNat ≤ 99999999 ∧ count.toNat ≤ 250),
        .badField),
     (decide (s.offline.exposure ≤ cap.toNat ∧ s.offline.count ≤ count.toNat), .limit)] with
  | some o => ⟨o, s.limitsBody, s⟩
  | none =>
    let t := (s.setOffline
      { s.offline with
        singleLimit := single.toNat
        exposureCap := cap.toNat
        countCap := count.toNat }).setModes { s.modes with step := s.modes.step.next }
    t.accept t.limitsBody

/-- CONFIG_3 (R113). -/
def execConfig3 (x : Exch) (single : Tri) (cap : Quad) (count : Byte) (s : State) :
    Host.Outcome State Fault Refusal :=
  request .config3 x 0 (config3Rule single cap count) s

/-- The wake enables of CONFIG_4's byte: bit 0 Console Port, bit 1 Tender Port, bit 2 Link Port. -/
def wakeEnables (b : Byte) : PerPort Bool := ⟨b.getLsbD 0, b.getLsbD 1, b.getLsbD 2⟩

/-- CONFIG_4's own rule (R181, R182, R156, R152). -/
def config4Rule (window wakes : Byte) (s : State) : Ans :=
  s.tested
    [(decide (1 ≤ window.toNat ∧ window.toNat ≤ 8 ∧ wakes.toNat < 8), .badField)]
    (let s1 := (s.setUplink { s.uplink with window := window.toNat }).setModes
      { s.modes with wakeEnable := wakeEnables wakes, step := s.modes.step.next }
     let s2 := if s.uplink.window < window.toNat ∧ s.floor.link = .up ∧ s.hasQueued = true ∧
         s.sentCount < window.toNat then s1.raise .link .uplinkReady else s1
     s2.accept (be1 window.toNat ++ be1 wakes.toNat ++ be1 s.modes.step.next.code))

/-- CONFIG_4 (R181, R182). -/
def execConfig4 (x : Exch) (window wakes : Byte) (s : State) :
    Host.Outcome State Fault Refusal :=
  request .config4 x 0 (config4Rule window wakes) s

/-- POWER DOZE, and POWER with a byte that is no mode it admits, refused BAD_FIELD (R184). -/
def execPowerDoze (x : Exch) (mode : Byte) (s : State) : Host.Outcome State Fault Refusal :=
  request .power x 0 (fun s =>
    s.tested [(decide (mode = 1), .badField)] ((s.setMode .doze).accept [])) s

/-- What refuses SLEEP (R185). -/
def State.sleepBlocked (s : State) : Bool :=
  decide (0 < s.countEntries hasHolder) || s.takenTender.isSome || s.anyActive ||
    s.floor.assembly.isSome

/-- POWER SLEEP (R185). -/
def execPowerSleep (x : Exch) (s : State) : Host.Outcome State Fault Refusal :=
  request .power x 0 (fun s =>
    s.tested [(!s.sleepBlocked, .busy)] ((s.setMode .sleep).accept [])) s

/-- Every block at its initial values; the queue and the levels of the lines are the outside world's
(log 11). -/
def State.initial (s : State) (held : Bool) : State :=
  { State.reset with
    pending := s.pending
    modes := { State.reset.modes with resetHeld := held, wakeLine := s.modes.wakeLine } }

/-- COLD_RESET: at power-up, or when RESET is asserted for at least 10 µs; a shorter assertion is
ignored (R180). -/
def execColdReset (cause : ResetCause) (s : State) : Host.Outcome State Fault Refusal :=
  match cause with
  | .powerUp => .next (s.initial s.modes.resetHeld)
  | .asserted micros => .next (if micros < Config.resetMicros then s else s.initial true)

/-- RESET_RELEASE: the part leaves the held state, with every block at its initial values (R180). -/
def execResetRelease (s : State) : Host.Outcome State Fault Refusal :=
  .next (if s.modes.resetHeld then s.initial false else s)

/-- The level of the WAKE line. -/
def State.setWakeLine (s : State) (high : Bool) : State :=
  s.setModes { s.modes with wakeLine := high }

/-- WAKE_ASSERT: the WAKE line passes from low to high. DOZE ends, and a wake from SLEEP begins unless
one is in progress; a line already high has no passage to make (R184, R186). -/
def execWakeAssert (s : State) : Host.Outcome State Fault Refusal :=
  .next (
    let s1 := s.setWakeLine true
    if s.modes.wakeLine || s.modes.resetHeld then s1
    else
      match s.modes.mode with
      | .active => s1
      | .doze => s1.wakeUp.relamp
      | .sleep => if s1.asleep then s1.beginWake else s1)

/-- WAKE_LINE_FALL: the WAKE line passes from high to low (R184). -/
def execWakeLineFall (s : State) : Host.Outcome State Fault Refusal :=
  .next (s.setWakeLine false)

/-- WAKE_BY_CHIP_SELECT: a chip-select period starts in SLEEP on a port whose wake enable is set
(R186). -/
def execWakeByChipSelect (p : Port) (s : State) : Host.Outcome State Fault Refusal :=
  .next (if s.asleep && s.modes.wakeEnable.get p then s.beginWake else s)

/-- WAKE_TIMER_EXPIRY: the wake timer has run out, and the part is ACTIVE (R186). -/
def execWakeTimerExpiry (elapsed : Nat) (s : State) : Host.Outcome State Fault Refusal :=
  .next (
    let s1 := s.advance elapsed
    if !s1.modes.resetHeld && decide (s1.modes.mode = .sleep) && timerDue s1.modes.wakeTimer then
      (s1.setModes { s1.modes with wakeTimer := none }).wakeUp.relamp
    else s1)

end Sys2Proof.Machine
end

