-- ==== Sys2Proof/Machine/ShiftFigures.lean ====
section
/-!
DEFINITION. The Shift Totals' requests: TOTALS_LATCH, TOTALS_READ and TOTALS_CLEAR (R116 to R118 of
06_offline_limits_and_shift_totals.md).
-/

namespace Sys2Proof.Machine

/-- TOTALS_LATCH's own rule (R116). -/
def totalsLatchRule (s : State) : Ans :=
  match s.totals.snapshot with
  | some _ => s.accept (beFlag false)
  | none =>
    (s.setTotals { s.totals with snapshot := some s.totals.live }).accept (beFlag true)

/-- TOTALS_LATCH (R116). -/
def execTotalsLatch (x : Exch) (s : State) : Host.Outcome State Fault Refusal :=
  request .totalsLatch x 0 totalsLatchRule s

/-- TOTALS_READ's own rule (R117). -/
def totalsReadRule (s : State) : Ans :=
  match s.totals.snapshot with
  | some t => (s.setTotals { s.totals with snapshot := none }).accept (t.wire true)
  | none => s.accept (s.totals.live.wire false)

/-- TOTALS_READ (R117). -/
def execTotalsRead (x : Exch) (s : State) : Host.Outcome State Fault Refusal :=
  request .totalsRead x 0 totalsReadRule s

/-- TOTALS_CLEAR (R118). -/
def execTotalsClear (x : Exch) (s : State) : Host.Outcome State Fault Refusal :=
  request .totalsClear x 0 (fun s => (s.setTotals ⟨Totals.zero, none⟩).accept []) s

end Sys2Proof.Machine
end

