-- ==== Sys2Proof/Machine/Tenders.lean ====
section
/-!
DEFINITION. The Tender Ring's requests and the tender timer (05_the_tender_ring.md), with the Offline
Limit Unit's test (R112).
-/

namespace Sys2Proof.Machine

/-! ### Posting -/

/-- Test 1 of R85: the fields' own ranges. -/
def postFieldsOk (cls : TenderClass) (w : PostWire) : Bool :=
  decide (w.share.toNat ≤ 8 ∧ 1 ≤ w.base.toNat ∧ w.base.toNat ≤ Config.maxAmount) &&
    (match tipMode? w.tipMode w.fixedTip with
     | none => false
     | some m => decide (¬(cls = .cash ∧ m = .prompt)))

/-- Test 5 of R85: the share number fits the plan. -/
def Check.shareFits (c : Check) (share : Nat) : Bool :=
  match c.plan with
  | some p => decide (1 ≤ share ∧ share ≤ p.shares.length)
  | none => decide (share = 0)

/-- The base does not exceed what the named share still owes (R86). -/
def Check.shareOwes (c : Check) (share base : Nat) : Bool :=
  match c.plan.bind (fun p => if share = 0 then none else p.shares[share - 1]?) with
  | some sh => decide (sh.approved + sh.reserved + base ≤ sh.target)
  | none => true

/-- The base does not exceed what the check still owes, nor what the share does (R85 test 6, R86). -/
def Check.owes (c : Check) (share base : Nat) : Bool :=
  decide (c.approved + c.reserved + base ≤ c.due) && c.shareOwes share base

/-- Tests 3 to 8 of R85. -/
def State.postTests (s : State) (c : Check) (share base : Nat) : List (Bool × ReplyOutcome) :=
  [(decide (c.holder = some .console), .notHolder),
   (c.state.editable, .state),
   (c.shareFits share, .badField),
   (c.owes share base, .overTender),
   (decide (s.ring.tenders.length < Config.ringSize), .ringFull),
   (s.uplinkRoom, .uplinkFull)]

/-- The descriptor joins the ring at the post index, and the serial counter advances (R82, R83). -/
def State.pushTender (s : State) (t : Tender) : State :=
  s.setRing
    { s.ring with tenders := s.ring.tenders ++ [t], nextSerial := nextNumber s.ring.nextSerial }

/-- The descriptor a TENDER_POST fills (R87, R88). -/
def State.newTender (s : State) (i : Fin 64) (c : Check) (cls : TenderClass) (w : PostWire)
    (m : TipMode) (phase : TenderPhase) : Tender where
  serial := s.ring.nextSerial
  cls := cls
  index := i
  key := c.key
  share := w.share.toNat
  base := w.base.toNat
  tipMode := m
  cancelRequested := false
  phase := phase

/-- TENDER_POST's reply: serial, slot, state, sequence number (10.3). -/
def State.postBody (s t : State) (i : Fin 64) (seq : Nat) : List Byte :=
  be2 s.ring.nextSerial ++ be1 (s.slotOf s.ring.tenders.length) ++
    be1 (t.entryState i).code ++ be2 seq

/-- A CARD tender is posted (R87). -/
def State.postCard (s : State) (i : Fin 64) (c : Check) (w : PostWire) (m : TipMode) : State :=
  (((s.pushTender (s.newTender i c .card w m .posted)).modCheck i
    (fun c => (c.reserve w.share.toNat w.base.toNat).afterAmounts)).restartLease i).raise
    .tender .tenderPosted

/-- TENDER_POST of class CARD, and of a byte that is no class (R85, R87). -/
def postCardRule (index : Byte) (key : Half) (cls : Byte) (w : PostWire) (s : State) : Ans :=
  s.tested [(decide (cls = 1) && postFieldsOk .card w, .badField)]
    (s.onNamed index key (fun i c =>
      s.tested (s.postTests c w.share.toNat w.base.toNat)
        (let t := s.postCard i c w ((tipMode? w.tipMode w.fixedTip).getD .none)
         t.accept (s.postBody t i 0))))

/-- TENDER_POST CARD (R85, R87). -/
def execTenderPostCard (x : Exch) (index : Byte) (key : Half) (cls : Byte) (w : PostWire)
    (s : State) : Host.Outcome State Fault Refusal :=
  request .tenderPost x 0 (postCardRule index key cls w) s

/-- A CASH tender is posted, and finished by it (R88). -/
def State.postCash (s : State) (i : Fin 64) (c : Check) (w : PostWire) (m : TipMode) : State :=
  let base := w.base.toNat
  let tip := m.fixedTip
  let a : Approval := ⟨base, tip, none, false, false⟩
  let s1 := s.pushTender (s.newTender i c .cash w m (.finished (.approved a)))
  let s2 := s1.modCheck i (fun c =>
    ((c.approve base tip).approveShare w.share.toNat base tip).afterAmounts)
  let s3 := s2.appendRecord (some i) c.key
    (.settlement ⟨.cash, s.ring.nextSerial, base, tip, none, false, false, false⟩)
  (s3.countTotals (fun n => n.approval .cash base tip false false)).restartLease i

/-- TENDER_POST of class CASH (R85, R88). -/
def postCashRule (index : Byte) (key : Half) (w : PostWire) (s : State) : Ans :=
  s.tested [(postFieldsOk .cash w, .badField)]
    (s.onNamed index key (fun i c =>
      s.tested (s.postTests c w.share.toNat w.base.toNat)
        (let t := s.postCash i c w ((tipMode? w.tipMode w.fixedTip).getD .none)
         t.accept (s.postBody t i s.uplink.nextSeq))))

/-- TENDER_POST CASH (R85, R88). -/
def execTenderPostCash (x : Exch) (index : Byte) (key : Half) (w : PostWire) (s : State) :
    Host.Outcome State Fault Refusal :=
  request .tenderPost x 0 (postCashRule index key w) s

/-! ### Taking -/

/-- A POSTED descriptor. -/
def Tender.isPosted (t : Tender) : Bool := decide (t.phase = .posted)

/-- The place of the first POSTED descriptor in ring order from the take index (R89, R90). -/
def State.firstPosted (s : State) : Option (Nat × Tender) :=
  match (s.ring.tenders.drop s.ring.passed).findIdx? Tender.isPosted with
  | some n => s.ring.tenders[s.ring.passed + n]?.map (fun t => (s.ring.passed + n, t))
  | none => none

/-- The tender timer's full length in milliseconds (R100). -/
def State.fullTimer (s : State) : Nat := s.modes.tenderSecs * 1000

/-- TENDER_TAKE's own rule (R89). -/
def tenderTakeRule (s : State) : Ans :=
  s.tested [(s.takenTender.isNone, .busy)]
    (match s.firstPosted with
     | some (k, t) =>
       (s.setRing
         { s.ring with
           tenders := s.ring.tenders.set k { t with phase := .taken .none }
           passed := k + 1
           timer := some s.fullTimer }).accept t.headWire
     | none =>
       ⟨.empty, [], s.setRing { s.ring with passed := s.ring.tenders.length }⟩)

/-- TENDER_TAKE (R89). -/
def execTenderTake (x : Exch) (s : State) : Host.Outcome State Fault Refusal :=
  request .tenderTake x 0 tenderTakeRule s

/-- TENDER_PEEK (R90). -/
def execTenderPeek (x : Exch) (s : State) : Host.Outcome State Fault Refusal :=
  request .tenderPeek x 0 (fun s =>
    match s.firstPosted with
    | some (_, t) => s.accept t.headWire
    | none => s.refuse .empty) s

/-- The TAKEN descriptor, if it carries the serial. -/
def State.takenWith (s : State) (serial : Nat) : Option (Nat × Tender) :=
  s.takenTender.filter (fun e : Nat × Tender => decide (e.2.serial = serial))

/-- TENDER_PROGRESS's own rule (R91). -/
def progressRule (serial : Half) (stage : Byte) (s : State) : Ans :=
  match stage? stage with
  | none => s.refuse .badField
  | some g =>
    s.tested [(decide (serial ≠ 0), .badField)]
      (match s.takenWith serial.toNat with
       | some (k, t) =>
         (s.setRing
           { s.ring with
             tenders := s.ring.tenders.set k { t with phase := .taken g }
             timer := some s.fullTimer }).accept (beFlag t.cancelRequested)
       | none => s.refuse .unknownTender)

/-- TENDER_PROGRESS (R91). -/
def execTenderProgress (x : Exch) (serial : Half) (stage : Byte) (s : State) :
    Host.Outcome State Fault Refusal :=
  request .tenderProgress x 0 (progressRule serial stage) s

/-! ### Results -/

/-- What a result's serial names (R92 test 2): the TAKEN descriptor, or failing that an entry of the
Late Window. -/
inductive ResultTarget where
  | taken (k : Nat) (t : Tender)
  | late (e : LateEntry)
  deriving DecidableEq, Repr

/-- Test 2 of R92. Where two entries of the Late Window carry one serial, which the spec leaves open,
the older is meant (log 26). -/
def State.resultTarget (s : State) (serial : Nat) : Option ResultTarget :=
  match s.takenWith serial with
  | some (k, t) => some (.taken k t)
  | none => (s.ring.late.find? (fun e => decide (e.serial = serial))).map ResultTarget.late

/-- The base and the tip mode a result is tested against (R92 test 3). -/
def ResultTarget.base : ResultTarget → Nat
  | .taken _ t => t.base
  | .late e => e.base

def ResultTarget.tipMode : ResultTarget → TipMode
  | .taken _ t => t.tipMode
  | .late e => e.tipMode

/-- The Offline Limit Unit admits an amount (R112). -/
def State.offlineAdmits (s : State) (amount : Nat) : Bool :=
  decide (amount ≤ s.offline.singleLimit ∧
    s.offline.exposure + amount ≤ s.offline.exposureCap ∧
    s.offline.count + 1 ≤ s.offline.countCap)

/-- An offline approval raises the exposure and the count (R110). -/
def State.exposeOffline (s : State) (amount : Nat) (offline : Bool) : State :=
  if offline then
    s.setOffline
      { s.offline with exposure := s.offline.exposure + amount, count := s.offline.count + 1 }
  else s

/-- The live counters and the offline figures of a card approval (R110, R115). -/
def State.countApproval (s : State) (w : ResultWire) (late : Bool) : State :=
  (s.countTotals (fun n =>
    n.approval .card w.amount.toNat w.tip.toNat w.isOffline late)).exposeOffline
    w.amount.toNat w.isOffline

/-- The SETTLEMENT record of a card approval (R93, R102). -/
def settlementOf (w : ResultWire) (serial : Nat) (late orphan : Bool) : RecordBody :=
  .settlement ⟨.card, serial, w.amount.toNat, w.tip.toNat, some w.card, w.isOffline, late, orphan⟩

/-- The TAKEN descriptor finishes, and the tender timer stops. -/
def State.finishTaken (s : State) (k : Nat) (t : Tender) (e : TenderEnd) : State :=
  s.setRing
    { s.ring with
      tenders := s.ring.tenders.set k { t with phase := .finished e }
      timer := none }

/-- An APPROVED result for the TAKEN descriptor (R93). -/
def State.approveTaken (s : State) (k : Nat) (t : Tender) (w : ResultWire) : State :=
  let a : Approval :=
    ⟨w.amount.toNat, w.tip.toNat, some w.card, w.isOffline, t.cancelRequested⟩
  let s1 := s.finishTaken k t (.approved a)
  let s2 := s1.modCheck t.index (fun c =>
    ((c.unreserve t.share t.base).approve w.amount.toNat w.tip.toNat).approveShare t.share
      w.amount.toNat w.tip.toNat)
  let s3 := s2.appendRecord (some t.index) t.key
    (settlementOf w t.serial false false)
  let s4 := (s3.countApproval w false).modCheck t.index Check.afterAmounts
  s4.raise .console .tenderFinished

/-- A Late Window entry leaves the window (R102 step 1, R106). -/
def State.dropLate (s : State) (e : LateEntry) : State :=
  s.setRing { s.ring with late := s.ring.late.erase e }

/-- A late approval finds its check: the entry is non-FREE under the key the entry copied (R103,
R105). -/
def State.lateCheck (s : State) (e : LateEntry) : Option Check :=
  (s.check e.index).filter (fun c => decide (c.key = e.key))

/-- A late approval takes a TENDERING check into CONFLICT: approved is within due, but not with what is
reserved (R104). -/
def Check.lateConflict (c : Check) : Bool :=
  decide (c.state = .tendering ∧ c.approved ≤ c.due ∧ c.due < c.approved + c.reserved)

/-- A late approval on its check (R103, R104). -/
def State.applyLate (s : State) (i : Fin 64) (amount tip : Nat) : State :=
  let s1 := s.modCheck i (fun c => c.approve amount tip)
  match s1.check i with
  | some c =>
    if c.lateConflict then s1.enterConflict i .dueBelowPaid
    else s1.modCheck i Check.afterAmounts
  | none => s1

/-- An APPROVED result for a Late Window entry (R102 to R105). -/
def State.approveLate (s : State) (e : LateEntry) (w : ResultWire) : State :=
  let s1 := s.dropLate e
  let s2 := match s.lateCheck e with
    | some _ =>
      (s1.appendRecord (some e.index) e.key
        (settlementOf w e.serial true false)).applyLate e.index
        w.amount.toNat w.tip.toNat
    | none =>
      s1.appendRecord none e.key (settlementOf w e.serial true true)
  (s2.countApproval w true).raise .console .lateApproval

/-- An APPROVED result, applied to what its serial names. -/
def State.approveTarget (s : State) (g : ResultTarget) (w : ResultWire) : State :=
  match g with
  | .taken k t => s.approveTaken k t w
  | .late e => s.approveLate e w

/-- TENDER_RESULT with outcome APPROVED, and with a byte that is no outcome (R92, R93, R102). -/
def resultApprovedRule (serial : Half) (outcome : Byte) (w : ResultWire) (s : State) : Ans :=
  s.tested [(decide (serial ≠ 0 ∧ outcome = 1) && w.fieldsOk, .badField)]
    (match s.resultTarget serial.toNat with
     | none => s.refuse .unknownTender
     | some g =>
       s.tested
         [(w.approvedOk g.base g.tipMode, .badField),
          (!w.isOffline || s.offlineAdmits w.amount.toNat, .limit)]
         ((s.approveTarget g w).accept (be2 serial.toNat ++ be2 s.uplink.nextSeq)))

/-- TENDER_RESULT APPROVED (R92, R93, R102 to R105). -/
def execTenderResultApproved (x : Exch) (serial : Half) (outcome : Byte) (w : ResultWire)
    (s : State) : Host.Outcome State Fault Refusal :=
  request .tenderResult x 0 (resultApprovedRule serial outcome w) s

/-- A DECLINED result for the TAKEN descriptor (R94). -/
def State.declineTaken (s : State) (k : Nat) (t : Tender) : State :=
  (((s.finishTaken k t .declined).modCheck t.index
    (fun c => (c.unreserve t.share t.base).afterAmounts)).countTotals
    (fun n => { n with declines := bumpCount n.declines })).raise .console .tenderFinished

/-- A DECLINED result, applied to what its serial names (R94, R106). -/
def State.declineTarget (s : State) (g : ResultTarget) : State :=
  match g with
  | .taken k t => s.declineTaken k t
  | .late e => s.dropLate e

/-- TENDER_RESULT with outcome DECLINED (R92, R94, R106). -/
def resultDeclinedRule (serial : Half) (w : ResultWire) (s : State) : Ans :=
  s.tested [(decide (serial ≠ 0) && w.fieldsOk, .badField)]
    (match s.resultTarget serial.toNat with
     | none => s.refuse .unknownTender
     | some g =>
       s.tested [(w.declinedOk, .badField)]
         ((s.declineTarget g).accept (be2 serial.toNat ++ be2 0)))

/-- TENDER_RESULT DECLINED (R92, R94, R106). -/
def execTenderResultDeclined (x : Exch) (serial : Half) (w : ResultWire) (s : State) :
    Host.Outcome State Fault Refusal :=
  request .tenderResult x 0 (resultDeclinedRule serial w) s

/-! ### The Console Port's side -/

/-- The non-VACANT descriptor that carries a serial, with its place (R95, R99). -/
def State.tenderWith (s : State) (serial : Nat) : Option (Nat × Tender) :=
  match s.ring.tenders.findIdx? (fun t => decide (t.serial = serial)) with
  | some k => s.ring.tenders[k]?.map (fun t => (k, t))
  | none => none

/-- A POSTED descriptor is cancelled (R96). -/
def State.cancelTender (s : State) (k : Nat) (t : Tender) : State :=
  (s.setTender k { t with phase := .finished .cancelled }).modCheck t.index
    (fun c => (c.unreserve t.share t.base).afterAmounts)

/-- TENDER_CANCEL's own rule (R95 to R97). -/
def tenderCancelRule (serial : Half) (s : State) : Ans :=
  s.tested [(decide (serial ≠ 0), .badField)]
    (match s.tenderWith serial.toNat with
     | none => s.refuse .unknownTender
     | some (k, t) =>
       match t.phase with
       | .posted =>
         let u := s.cancelTender k t
         u.accept (be1 (u.entryState t.index).code)
       | .taken _ =>
         ((s.setTender k { t with cancelRequested := true }).raise .tender
           .cancelRequest).accept []
       | .finished _ => s.refuse .state)

/-- TENDER_CANCEL (R95 to R97). -/
def execTenderCancel (x : Exch) (serial : Half) (s : State) :
    Host.Outcome State Fault Refusal :=
  request .tenderCancel x 0 (tenderCancelRule serial) s

/-- A FINISHED descriptor. -/
def Tender.isFinished (t : Tender) : Bool :=
  match t.phase with
  | .finished _ => true
  | _ => false

/-- TENDER_REAP's own rule (R98): the take index stands with the retire index when the passed count is
0, and stays where it was otherwise. -/
def tenderReapRule (s : State) : Ans :=
  match s.ring.tenders with
  | [] => s.refuse .empty
  | t :: rest =>
    s.tested [(t.isFinished, .empty)]
      ((s.setRing
        { s.ring with
          tenders := rest
          retireIdx := (s.ring.retireIdx + 1) % Config.ringSize
          passed := s.ring.passed - 1 }).accept (t.wire (s.slotOf 0) false))

/-- TENDER_REAP (R98). -/
def execTenderReap (x : Exch) (s : State) : Host.Outcome State Fault Refusal :=
  request .tenderReap x 0 tenderReapRule s

/-- The Late Window entry that carries a serial (R99): the oldest of two with one serial (log 26). -/
def State.lateWith (s : State) (serial : Nat) : Option LateEntry :=
  s.ring.late.find? (fun e => decide (e.serial = serial))

/-- TENDER_STATUS's own rule (R99). -/
def tenderStatusRule (serial : Half) (s : State) : Ans :=
  s.tested [(decide (serial ≠ 0), .badField)]
    (match s.tenderWith serial.toNat, s.lateWith serial.toNat with
     | some (k, t), e => s.accept (t.wire (s.slotOf k) e.isSome)
     | none, some e => s.accept e.wire
     | none, none => s.refuse .unknownTender)

/-- TENDER_STATUS (R99). -/
def execTenderStatus (x : Exch) (serial : Half) (s : State) :
    Host.Outcome State Fault Refusal :=
  request .tenderStatus x 0 (tenderStatusRule serial) s

/-- LATE_CLEAR (R106). -/
def execLateClear (x : Exch) (s : State) : Host.Outcome State Fault Refusal :=
  request .lateClear x 0 (fun s =>
    (s.setRing { s.ring with late := [] }).accept (be1 s.ring.late.length)) s

/-- TENDER_TIMEOUT: taken where the tender timer has run out; where a report has restarted it, or the
tender has finished, the expiry does not happen (R91, R92, R100, log 3). In DOZE it returns the part
to ACTIVE (R184). -/
def execTenderTimeout (elapsed : Nat) (s : State) : Host.Outcome State Fault Refusal :=
  .next (
    let s1 := s.advance elapsed
    if s1.timebaseRuns && timerDue s1.ring.timer then
      (s1.timeOutTaken true).afterExpiry.relamp
    else s1)

end Sys2Proof.Machine
end

