-- ==== Sys2Proof/Machine/Uplink.lean ====
section
/-!
DEFINITION. UPLINK_NEXT, UPLINK_ACK and MARK (08_the_uplink_queue.md).
-/

namespace Sys2Proof.Machine

/-- The oldest QUEUED record becomes SENT. -/
def sendFirst : List UplinkRecord → List UplinkRecord
  | [] => []
  | r :: rest => if r.sent then r :: sendFirst rest else { r with sent := true } :: rest

/-- The tests of R151. -/
def State.nextTests (s : State) : List (Bool × ReplyOutcome) :=
  [(decide (s.floor.link = .up), .linkDown),
   (decide (s.sentCount < s.uplink.window), .windowFull)]

/-- UPLINK_NEXT's own rule (R151): the record's reply shows it as SENT (log 17). -/
def uplinkNextRule (s : State) : Ans :=
  s.tested s.nextTests
    (match s.uplink.records.find? (fun r => !r.sent) with
     | none => s.refuse .empty
     | some r =>
       let t := s.setUplink { s.uplink with records := sendFirst s.uplink.records }
       t.scheduleDeltas.accept { r with sent := true }.wire)

/-- UPLINK_NEXT (R151). -/
def execUplinkNext (x : Exch) (s : State) : Host.Outcome State Fault Refusal :=
  request .uplinkNext x 0 uplinkNextRule s

/-- A queue without the SENT record of a sequence number and every SENT record before it: the records
removed and the records kept; none where no SENT record has the number (R153). -/
def ackSplit (seq : Nat) : List UplinkRecord → Option (List UplinkRecord × List UplinkRecord)
  | [] => none
  | r :: rest =>
    if r.sent ∧ r.seq = seq then some ([r], rest)
    else
      match ackSplit seq rest with
      | none => none
      | some (gone, kept) => if r.sent then some (r :: gone, kept) else some (gone, r :: kept)

/-- The offline approved amount a record carries, none where it is no offline SETTLEMENT (R110). -/
def UplinkRecord.offlineAmount (r : UplinkRecord) : Option Nat :=
  match r.body with
  | .settlement t => if t.offline then some t.amount else none
  | _ => none

/-- What the removal of a record by an acknowledgement lowers: its entry's pending uplink count, and
the offline figures (R153, R111). -/
def State.settleRecord (s : State) (r : UplinkRecord) : State :=
  let s1 := match r.index with
    | some i => s.uncount i
    | none => s
  match r.offlineAmount with
  | some a =>
    s1.setOffline
      { s1.offline with exposure := s1.offline.exposure - a, count := s1.offline.count - 1 }
  | none => s1

/-- R154 step 1 at one entry: a CLOSING entry whose count is 0 becomes FREE. -/
def State.freeIfDone (s : State) (i : Fin 64) : State :=
  match s.check i with
  | some c => if c.state = .closing ∧ c.pendingUplink = 0 then s.freeEntry i else s
  | none => s

/-- R154 step 2 at one entry: it is retried where a removed record named it. -/
def State.retryNamed (gone : List UplinkRecord) (s : State) (i : Fin 64) : State :=
  if gone.any (fun r => r.index == some i) then s.tryPending i else s

/-- R154 step 4: the marked record was removed. -/
def State.deliver (s : State) (gone : List UplinkRecord) : State :=
  match s.uplink.mark with
  | some n =>
    if gone.any (fun r => decide (r.seq = n)) then
      (s.setUplink { s.uplink with mark := none }).raise .console .delivered
    else s
  | none => s

/-- R154 step 5: a record waits and the window has room. -/
def State.readyAgain (s : State) : State :=
  if s.hasQueued = true ∧ s.sentCount < s.uplink.window then s.raise .link .uplinkReady else s

/-- The consequences of an acknowledgement, in the order of R154. -/
def State.afterAck (s : State) (gone : List UplinkRecord) : State :=
  let s1 := allIdx.foldl State.freeIfDone s
  let s2 := allIdx.foldl (State.retryNamed gone) s1
  let s3 := s2.scheduleDeltas
  (s3.deliver gone).readyAgain

/-- UPLINK_ACK's own rule (R153, R154). -/
def uplinkAckRule (seq : Half) (s : State) : Ans :=
  s.tested [(decide (seq ≠ 0), .badField)]
    (match ackSplit seq.toNat s.uplink.records with
     | none => s.refuse .unknownSeq
     | some (gone, kept) =>
       let s1 := gone.foldl State.settleRecord
         (s.setUplink { s.uplink with records := kept })
       (s1.afterAck gone).accept (be1 gone.length))

/-- UPLINK_ACK (R153, R154). -/
def execUplinkAck (x : Exch) (seq : Half) (s : State) : Host.Outcome State Fault Refusal :=
  request .uplinkAck x 0 (uplinkAckRule seq) s

/-- MARK's own rule (R157). -/
def markRule (s : State) : Ans :=
  match s.uplink.records.getLast? with
  | some r => (s.setUplink { s.uplink with mark := some r.seq }).accept (be2 r.seq)
  | none =>
    ((s.setUplink { s.uplink with mark := none }).raise .console .delivered).accept (be2 0)

/-- MARK (R157). -/
def execMark (x : Exch) (s : State) : Host.Outcome State Fault Refusal :=
  request .mark x 0 markRule s

end Sys2Proof.Machine
end

