-- ==== Sys2Proof/Machine/Dispatch.lean ====
section
/-! DEFINITION. The commands' meanings: one arm for each constructor of Instr. -/

namespace Sys2Proof.Machine

def exec (i : Instr) (s : State) : Host.Outcome State Fault Refusal :=
  match i with
  | .nop x => Sys2Proof.Machine.execNop x s
  | .status x => Sys2Proof.Machine.execStatus x s
  | .attnRead x => Sys2Proof.Machine.execAttnRead x s
  | .attnClear x mask => Sys2Proof.Machine.execAttnClear x mask s
  | .attnEnable x mask => Sys2Proof.Machine.execAttnEnable x mask s
  | .portReset x => Sys2Proof.Machine.execPortReset x s
  | .config1 x terminalId pinFloor => Sys2Proof.Machine.execConfig1 x terminalId pinFloor s
  | .config2 x taxRate lease timeout => Sys2Proof.Machine.execConfig2 x taxRate lease timeout s
  | .config3 x single exposureCap countCap => Sys2Proof.Machine.execConfig3 x single exposureCap countCap s
  | .config4 x window wakes => Sys2Proof.Machine.execConfig4 x window wakes s
  | .powerDoze x mode => Sys2Proof.Machine.execPowerDoze x mode s
  | .powerSleep x => Sys2Proof.Machine.execPowerSleep x s
  | .probe x key any => Sys2Proof.Machine.execProbe x key any s
  | .checkInfo x index share => Sys2Proof.Machine.execCheckInfo x index share s
  | .read x index => Sys2Proof.Machine.execRead x index s
  | .stageGet x selector => Sys2Proof.Machine.execStageGet x selector s
  | .stageSet x selection key covers seats => Sys2Proof.Machine.execStageSet x selection key covers seats s
  | .exchange x => Sys2Proof.Machine.execExchange x s
  | .commit x => Sys2Proof.Machine.execCommit x s
  | .commitNew x => Sys2Proof.Machine.execCommitNew x s
  | .checkClose x index key => Sys2Proof.Machine.execCheckClose x index key s
  | .resolveKeep x index key resolution => Sys2Proof.Machine.execResolveKeep x index key resolution s
  | .resolveClose x index key => Sys2Proof.Machine.execResolveClose x index key s
  | .itemAdd x index key item => Sys2Proof.Machine.execItemAdd x index key item s
  | .itemVoid x index key serial => Sys2Proof.Machine.execItemVoid x index key serial s
  | .splitSet x index key basis count elems => Sys2Proof.Machine.execSplitSet x index key basis count elems s
  | .splitClear x index key => Sys2Proof.Machine.execSplitClear x index key s
  | .hold x index key => Sys2Proof.Machine.execHold x index key s
  | .renew x index key => Sys2Proof.Machine.execRenew x index key s
  | .release x index key => Sys2Proof.Machine.execRelease x index key s
  | .streamOpenItemsRead x target index key dir start count => Sys2Proof.Machine.execStreamOpenItemsRead x target index key dir start count s
  | .streamOpenItemsWrite x index key dir start count => Sys2Proof.Machine.execStreamOpenItemsWrite x index key dir start count s
  | .streamNext x => Sys2Proof.Machine.execStreamNext x s
  | .streamPut x count items => Sys2Proof.Machine.execStreamPut x count items s
  | .streamClose x => Sys2Proof.Machine.execStreamClose x s
  | .tenderPostCard x index key cls post => Sys2Proof.Machine.execTenderPostCard x index key cls post s
  | .tenderPostCash x index key post => Sys2Proof.Machine.execTenderPostCash x index key post s
  | .tenderCancel x serial => Sys2Proof.Machine.execTenderCancel x serial s
  | .tenderReap x => Sys2Proof.Machine.execTenderReap x s
  | .tenderStatus x serial => Sys2Proof.Machine.execTenderStatus x serial s
  | .tenderTake x => Sys2Proof.Machine.execTenderTake x s
  | .tenderPeek x => Sys2Proof.Machine.execTenderPeek x s
  | .tenderProgress x serial stage => Sys2Proof.Machine.execTenderProgress x serial stage s
  | .tenderResultApproved x serial outcome result => Sys2Proof.Machine.execTenderResultApproved x serial outcome result s
  | .tenderResultDeclined x serial result => Sys2Proof.Machine.execTenderResultDeclined x serial result s
  | .lateClear x => Sys2Proof.Machine.execLateClear x s
  | .totalsLatch x => Sys2Proof.Machine.execTotalsLatch x s
  | .totalsRead x => Sys2Proof.Machine.execTotalsRead x s
  | .totalsClear x => Sys2Proof.Machine.execTotalsClear x s
  | .linkStateUp x linkState => Sys2Proof.Machine.execLinkStateUp x linkState s
  | .linkStateDown x => Sys2Proof.Machine.execLinkStateDown x s
  | .imageBegin x key server owner covers seats count => Sys2Proof.Machine.execImageBegin x key server owner covers seats count s
  | .imageEnd x => Sys2Proof.Machine.execImageEnd x s
  | .imageAbort x => Sys2Proof.Machine.execImageAbort x s
  | .retire x key server => Sys2Proof.Machine.execRetire x key server s
  | .uplinkNext x => Sys2Proof.Machine.execUplinkNext x s
  | .uplinkAck x seq => Sys2Proof.Machine.execUplinkAck x seq s
  | .mark x => Sys2Proof.Machine.execMark x s
  | .badFrame x code => Sys2Proof.Machine.execBadFrame x code s
  | .unknownRequest x code => Sys2Proof.Machine.execUnknownRequest x code s
  | .exchangeDiscarded port bytes => Sys2Proof.Machine.execExchangeDiscarded port bytes s
  | .coldReset cause => Sys2Proof.Machine.execColdReset cause s
  | .leaseExpiry index elapsed => Sys2Proof.Machine.execLeaseExpiry index elapsed s
  | .tenderTimeout elapsed => Sys2Proof.Machine.execTenderTimeout elapsed s
  | .wakeAssert => Sys2Proof.Machine.execWakeAssert s
  | .wakeByChipSelect port => Sys2Proof.Machine.execWakeByChipSelect port s
  | .wakeTimerExpiry elapsed => Sys2Proof.Machine.execWakeTimerExpiry elapsed s
  | .resetRelease => Sys2Proof.Machine.execResetRelease s
  | .wakeLineFall => Sys2Proof.Machine.execWakeLineFall s

end Sys2Proof.Machine
end

