-- ==== Sys2Proof/Safety.lean ====
section
/-!
DEFINITION. The laws the spec gives the state between two commands, each a property of one state:
R1, R2, R4, R7, R8, R9, R17, R19, R25, R41, R46, R64, R83, R110, R126, R146, R147, R158, R176 and
R185. What proves them, and that each command keeps them, stands elsewhere; here is only what they
say.
-/

namespace Sys2Proof.Machine

/-- No two non-FREE entries have the same key (R1). -/
abbrev State.KeysDistinct (s : State) : Prop :=
  ∀ i j : Fin 64, ∀ c ∈ s.check i, ∀ d ∈ s.check j, c.key = d.key → i = j

/-- The OVERPAID flag of R9, clear in CONFLICT, and in OPEN, TENDERING and SETTLED the state that R8
gives. -/
abbrev Check.Evaluated (c : Check) : Prop :=
  c.overpaid = (decide (c.state.entry ≠ .conflict) && decide (c.due < c.approved)) ∧
    (c.state.editable = true → c.state = evaluatedState c.reserved c.due c.approved)

/-- Every check is evaluated (R8, R9, R10). -/
abbrev State.ChecksEvaluated (s : State) : Prop :=
  ∀ i : Fin 64, ∀ c ∈ s.check i, c.Evaluated

/-- A record whose valid flag is clear has no target, keys or copies, and zeros (R25). -/
abbrev StagingRecord.InvalidForm (r : StagingRecord) : Prop :=
  r.valid = false → r = { StagingRecord.invalid with probe := r.probe }

/-- Both staging records have the form of R25. -/
abbrev State.StagingForm (s : State) : Prop :=
  s.staging.primary.InvalidForm ∧ s.staging.alternate.InvalidForm

/-- Scope is OWNED exactly when the owner is this terminal (R2); the terminal has an id from the end of
step 1 on, and no check before it (R181). -/
abbrev State.ScopesAgree (s : State) : Prop :=
  (s.modes.step = .step1 → s.allFree = true) ∧
    (s.modes.step ≠ .step1 → s.modes.terminalId.isSome = true) ∧
    ∀ i : Fin 64, ∀ c ∈ s.check i, (c.scope = .owned ↔ s.modes.terminalId = some c.owner)

/-- The pin floor is at most 32, and the replacement cursor stands from it to 63 (R17, R19). -/
abbrev State.CursorInRange (s : State) : Prop :=
  s.table.pinFloor ≤ 32 ∧ s.table.pinFloor ≤ s.table.cursor ∧ s.table.cursor ≤ 63

/-! ### What is attached to an entry -/

/-- The number of uplink records that name an entry (R7). -/
def State.recordsNaming (s : State) (i : Fin 64) : Nat :=
  (s.uplink.records.filter (fun r => r.index == some i)).length

/-- The CARD descriptors in POSTED or TAKEN that name an entry (R4). -/
def State.committedOn (s : State) (i : Fin 64) : List Tender :=
  s.ring.tenders.filter (fun t => t.committed && t.index == i)

/-- What is attached to an entry: pending uplink count and reserved are those of the records and
descriptors that name it (R4, R7), nothing is reserved in CLOSING (R10), a descriptor's key is the
check's (R93), and nothing names a FREE entry (R23). -/
abbrev State.AttachedTo (s : State) (i : Fin 64) : Prop :=
  (s.check i = none → s.recordsNaming i = 0 ∧ s.committedOn i = []) ∧
    ∀ c ∈ s.check i,
      c.pendingUplink = s.recordsNaming i ∧ c.reserved = ((s.committedOn i).map Tender.base).sum ∧
        (c.state = .closing → c.reserved = 0) ∧ ∀ t ∈ s.committedOn i, t.key = c.key

/-- The law of `AttachedTo` at every entry, with what keeps it: every check is evaluated, a base is at
least 1, and a CASH descriptor is FINISHED (R8, R81, R88). -/
abbrev State.EntriesAttached (s : State) : Prop :=
  (∀ i : Fin 64, s.AttachedTo i) ∧ s.ChecksEvaluated ∧
    ∀ t ∈ s.ring.tenders, 1 ≤ t.base ∧ (t.cls = .cash → t.isFinished = true)

/-! ### The Item Pool -/

/-- The records on an entry's item list and on its pending image. -/
def entryRecords : Option Check → List Nat
  | none => []
  | some c => c.items.map Item.record ++
      (match c.image with
       | some g => g.chain.map Item.record
       | none => [])

/-- The records on the image assembly. -/
def State.assemblyRecords (s : State) : List Nat :=
  match s.floor.assembly with
  | some a => a.items.map Item.record
  | none => []

/-- Every record on some chain, chain by chain. -/
def State.chainedRecords (s : State) : List Nat :=
  s.pool.free ++ (allIdx.flatMap (fun i => entryRecords (s.check i)) ++ s.assemblyRecords)

/-- Every one of the 512 item records is on exactly one chain (R41). -/
abbrev State.PoolPartitioned (s : State) : Prop :=
  s.chainedRecords.Perm (List.range Config.poolSize)

/-- The serials of a chain rise strictly in its order, below a bound (R46). -/
abbrev serialsRise (items : List Item) (bound : Nat) : Prop :=
  List.Pairwise (· < ·) (items.map Item.serial) ∧ ∀ it ∈ items, it.serial < bound

/-- The serials of an entry's items rise strictly and stay below its next item serial; those of its
pending image rise strictly and are at most 255 (R44, R46). -/
abbrev Check.SerialsRise (c : Check) : Prop :=
  serialsRise c.items c.nextSerial ∧ ∀ g ∈ c.image, serialsRise g.chain 256

/-- The law of R46 on every item list, pending image and the assembly. -/
abbrev State.SerialsRise (s : State) : Prop :=
  (∀ i : Fin 64, ∀ c ∈ s.check i, c.SerialsRise) ∧
    ∀ a ∈ s.floor.assembly, serialsRise a.items 256

/-! ### Holds -/

/-- The number of entries whose holder is a port (R64). -/
def State.heldBy (s : State) (p : Port) : Nat :=
  (allIdx.filter (fun i => s.holderOf i == some p)).length

/-- An entry's waiters: at most two, none twice, not the holder, and none without a holder (R64,
R65). -/
abbrev Check.WaitersOk (c : Check) : Prop :=
  c.waiters.Nodup ∧ c.waiters.length ≤ 2 ∧ (∀ p ∈ c.waiters, c.holder ≠ some p) ∧
    (c.hold = none → c.waiters = [])

/-- A port stands on the waiter list of an entry. -/
def State.waitsOn (s : State) (p : Port) (i : Fin 64) : Bool :=
  match s.check i with
  | some c => c.waiters.contains p
  | none => false

/-- The records of a port: its count of holds and its waited entry (R64). -/
abbrev State.PortRecordOk (s : State) (p : Port) : Prop :=
  s.holds.count.get p = s.heldBy p ∧ s.holds.count.get p ≤ Config.holdsPerPort ∧
    ∀ i : Fin 64, s.waitsOn p i = true ↔ s.holds.waits.get p = some i

/-- The law of R64. -/
abbrev State.HoldsAgree (s : State) : Prop :=
  (s.PortRecordOk .console ∧ s.PortRecordOk .tender ∧ s.PortRecordOk .link) ∧
    ∀ i : Fin 64, ∀ c ∈ s.check i, c.WaitersOk

/-! ### The Tender Ring -/

/-- The ring's order: at most 16 descriptors, a passed count within them, no POSTED descriptor behind
the take index, no TAKEN one at or ahead of it, at most one TAKEN (R83, R89), and the tender timer
running exactly while one is (R100). -/
abbrev State.RingOrdered (s : State) : Prop :=
  s.ring.tenders.length ≤ Config.ringSize ∧ s.ring.retireIdx < Config.ringSize ∧
    s.ring.passed ≤ s.ring.tenders.length ∧
    (∀ t ∈ s.ring.tenders.take s.ring.passed, t.isPosted = false) ∧
    (∀ t ∈ s.ring.tenders.drop s.ring.passed, t.isTaken = false) ∧
    (s.ring.tenders.filter Tender.isTaken).length ≤ 1 ∧
    (s.ring.timer.isSome = s.takenTender.isSome)

/-! ### The Uplink Queue and the Offline Limit Unit -/

/-- The SENT records are at most 8 and stand at the head of the queue (R146); the send window is 1 to
8 (R156). -/
abbrev State.SentFirst (s : State) : Prop :=
  (1 ≤ s.uplink.window ∧ s.uplink.window ≤ 8) ∧ s.sentCount ≤ 8 ∧
    ∀ r ∈ s.uplink.records.dropWhile UplinkRecord.sent, r.sent = false

/-- U is at most 48 (R147), and a CASH descriptor is never POSTED or TAKEN (R88). -/
abbrev State.CommitmentsBounded (s : State) : Prop :=
  s.commitments ≤ Config.uplinkSize ∧
    ∀ t ∈ s.ring.tenders, t.cls = .cash → t.isFinished = true

/-- The approved amounts of the offline SETTLEMENT records in the queue. -/
def State.offlineAmounts (s : State) : List Nat :=
  s.uplink.records.filterMap UplinkRecord.offlineAmount

/-- Offline exposure and count are those of the queue's offline records, within their caps (R110). -/
abbrev State.ExposureAgrees (s : State) : Prop :=
  s.offline.exposure = s.offlineAmounts.sum ∧ s.offline.count = s.offlineAmounts.length ∧
    s.offline.exposure ≤ s.offline.exposureCap ∧ s.offline.count ≤ s.offline.countCap

/-- The pattern in force is the one its inputs give (R158). -/
abbrev State.LampAgrees (s : State) : Prop :=
  s.uplink.lamp.pattern =
    lampPattern s.modes.mode s.offline.exposureCap s.offline.exposure s.commitments s.floor.link
      s.uplink.records.length

/-! ### Streams, attention and modes -/

/-- A channel stands ACTIVE or DONE on target IMAGE. -/
def Channel.carriesImage (c : Channel) : Bool :=
  match c.running with
  | some st => decide (st.target = .image)
  | none => false

/-- An assembly exists exactly while the Link Port's stream stands ACTIVE or DONE on target IMAGE, and
no other port's does (R126). -/
abbrev State.AssemblyStreams (s : State) : Prop :=
  s.floor.assembly.isSome = s.streams.link.carriesImage ∧
    s.streams.console.carriesImage = false ∧ s.streams.tender.carriesImage = false

/-- Flags and enables have no bit above a port's last cause (R176). -/
abbrev State.MasksInRange (s : State) : Prop :=
  (maskOk .console (s.attn.flags.get .console) ∧ maskOk .console (s.attn.enables.get .console)) ∧
  (maskOk .tender (s.attn.flags.get .tender) ∧ maskOk .tender (s.attn.enables.get .tender)) ∧
  (maskOk .link (s.attn.flags.get .link) ∧ maskOk .link (s.attn.enables.get .link))

/-- In SLEEP there is no hold, TAKEN descriptor, ACTIVE stream or assembly (R185), and the wake timer
runs in SLEEP alone (R186). -/
abbrev State.SleepQuiet (s : State) : Prop :=
  (s.modes.mode = .sleep → s.sleepBlocked = false) ∧
    (s.modes.wakeTimer.isSome = true → s.modes.mode = .sleep)

end Sys2Proof.Machine
end

