-- ==== Sys2Proof/WellFormed.lean ====
section
/-!
DEFINITION. Which commands the bytes of a chip-select period or a line event can be. `exec` gives
every command a meaning, well formed or not (log 6); this check says which ones the part can meet.
-/

namespace Sys2Proof

/-- A valid frame's body length is at most 59 (R172). -/
def Exch.wf (x : Exch) : Bool := decide (x.len.toNat ≤ 59)

/-- As many SPLIT_SET elements as the count gives, and none where the basis has no element; masks
have 16 bits (10.3, R174). -/
def splitElemsWf (basis count : Byte) (elems : List Tri) : Bool :=
  if basis = 2 then
    decide (elems.length = count.toNat) && elems.all (fun e => decide (e.toNat < 65536))
  else if basis = 3 then decide (elems.length = count.toNat)
  else elems.isEmpty

/-- As many STREAM_PUT items as the count gives, where the count is 1 or 2 (R165). -/
def putItemsWf (count : Byte) (items : List ItemWire) : Bool :=
  decide (items.length = if count = 1 then 1 else if count = 2 then 2 else 0)

/-- The commands that can come to the part: see each row's docstring in Syntax.lean. -/
def Instr.wf : Instr → Bool
  | .powerDoze x mode => x.wf && decide (mode ≠ 2)
  | .resolveKeep x _ _ r => x.wf && decide (r ≠ 2)
  | .splitSet x _ _ basis count elems => x.wf && splitElemsWf basis count elems
  | .streamOpenItemsRead x target _ _ _ _ _ => x.wf && decide (target ≠ 2)
  | .streamPut x count items => x.wf && putItemsWf count items
  | .tenderPostCard x _ _ cls _ => x.wf && decide (cls ≠ 2)
  | .tenderResultApproved x _ outcome _ => x.wf && decide (outcome ≠ 2)
  | .linkStateUp x l => x.wf && decide (l ≠ 0)
  | .unknownRequest x code => x.wf && (Req.ofCode code).isNone
  | .badFrame _ _ => true
  | .exchangeDiscarded _ bytes => decide (bytes ≠ 64)
  | .nop x | .status x | .attnRead x | .attnClear x _ | .attnEnable x _ | .portReset x
  | .config1 x _ _ | .config2 x _ _ _ | .config3 x _ _ _ | .config4 x _ _ | .powerSleep x
  | .probe x _ _ | .checkInfo x _ _ | .read x _ | .stageGet x _ | .stageSet x _ _ _ _
  | .exchange x | .commit x | .commitNew x | .checkClose x _ _ | .resolveClose x _ _
  | .itemAdd x _ _ _ | .itemVoid x _ _ _ | .splitClear x _ _
  | .hold x _ _ | .renew x _ _ | .release x _ _
  | .streamOpenItemsWrite x _ _ _ _ _ | .streamNext x | .streamClose x
  | .tenderPostCash x _ _ _ | .tenderCancel x _ | .tenderReap x | .tenderStatus x _
  | .tenderTake x | .tenderPeek x | .tenderProgress x _ _ | .tenderResultDeclined x _ _
  | .lateClear x | .totalsLatch x | .totalsRead x | .totalsClear x
  | .linkStateDown x | .imageBegin x _ _ _ _ _ _ | .imageEnd x | .imageAbort x
  | .retire x _ _ | .uplinkNext x | .uplinkAck x _ | .mark x => x.wf
  | .coldReset _ | .leaseExpiry _ _ | .tenderTimeout _ | .wakeAssert | .wakeByChipSelect _
  | .wakeTimerExpiry _ | .resetRelease | .wakeLineFall => true

end Sys2Proof
end

