-- ==== Sys2Proof/Certificates/Slice0/Obligations.lean ====
section
/-!
DEFINITION. The statements about the model. `u` is always the state in which a request's own rule is
met: `s.enter x = some u` says that the exchange is taken and what it has consumed. `replied` then
places the reply and re-evaluates the lamp, so an equation `exec c s = .next (w.replied …)` says what
the command answers, what it changes (`w` beside `u`) and what it leaves.
-/

namespace Sys2Proof.Machine

/-! ### What the statements say things with -/

/-- Tests 2 to 4 of R173 pass: the port may issue the request, the Mode Controller admits it, and the
body holds its fields and `extra` bytes of elements. -/
abbrev State.Serves (u : State) (q : Req) (x : Exch) (extra : Nat) : Prop :=
  q.permitted x.port = true ∧ u.admission q = none ∧ q.fieldBytes + extra ≤ x.len.toNat

/-- The reply is placed, with REPLY set but for the OK of NOP and PORT_RESET, and the lamp is
re-evaluated once the command is done (R171, R158; the moment is the model's choice, log 13). -/
def State.replied (w : State) (q : Req) (x : Exch) (o : ReplyOutcome) (body : List Byte) : State :=
  (w.placeReply x.port ⟨q.code, x.tag, o, body⟩ (quietReply q o)).relamp

/-- The first tests of a request about a check pass: the index is this entry's, the key names a table,
and the entry carries it. -/
abbrev State.Names (u : State) (index : Byte) (key : Half) (i : Fin 64) (c : Check) : Prop :=
  index.toNat = i.val ∧ (Key.ofWire key).table ≠ 0 ∧ u.check i = some c ∧ c.key = Key.ofWire key

/-- Of the Check Table nothing is changed but the check of one entry. -/
abbrev OnlyEntry (u w : State) (i : Fin 64) : Prop :=
  (∀ j : Fin 64, j ≠ i → w.check j = u.check j) ∧ w.table.cursor = u.table.cursor ∧
    w.table.pinFloor = u.table.pinFloor

/-- An outcome is that of the first test that fails, the tests made in the order of a list. -/
def FailsFirst : List (Prop × ReplyOutcome) → ReplyOutcome → Prop
  | [], _ => False
  | (passes, refusal) :: rest, o => (¬ passes ∧ o = refusal) ∨ (passes ∧ FailsFirst rest o)

/-- A flag joins a set of flags where something holds. -/
abbrev withFlag (flags : Half) (when : Bool) (c : Cause) (p : Port) : Half :=
  if when then flags ||| c.bit p else flags

/-- The stream of a channel that is ACTIVE or DONE with this target on this entry. -/
def Channel.streamOn (ch : Channel) (t : StreamTarget) (i : Fin 64) : Option Stream :=
  ch.running.filter (fun st => decide (st.target = t ∧ st.index = some i))

/-- A channel after an event that aborts a stream of this target on this entry (R168). -/
def Channel.abortedOn (ch : Channel) (t : StreamTarget) (i : Fin 64) (r : AbortReason) : Channel :=
  match ch.streamOn t i with
  | some st => .aborted st r
  | none => ch

/-- The read streams on an entry are aborted for a reason, with STREAM_END at their ports, and nothing
else happens to a channel or a flag (R168). -/
abbrev ReadsAborted (u w : State) (i : Fin 64) (r : AbortReason) : Prop :=
  (∀ p, w.streams.get p = (u.streams.get p).abortedOn .itemsRead i r) ∧
    (∀ p, w.attn.flags.get p = withFlag (u.attn.flags.get p)
      ((u.streams.get p).streamOn .itemsRead i).isSome .streamEnd p) ∧
    w.attn.enables = u.attn.enables

/-- The state of R8. -/
def stateOf (reserved due approved : Nat) : CheckState :=
  if 0 < reserved then .tendering
  else if 0 < due ∧ due ≤ approved then .settled
  else .opened

/-- OPEN, TENDERING or SETTLED. -/
abbrev CheckState.Live (st : CheckState) : Prop := st = .opened ∨ st = .tendering ∨ st = .settled

/-- An amount of line items in force: the LIVE ones (R47). -/
def liveSum (items : List Item) : Nat :=
  ((items.filter (fun it => decide (it.status = .live))).map Item.line).sum

/-- What follows a change of due, approved or reserved: state and OVERPAID by R8 and R9 in OPEN,
TENDERING and SETTLED, OVERPAID alone in CLOSING, nothing in CONFLICT (R10). -/
def Check.reevaluated (c : Check) : Check :=
  if c.state.Live then
    { c with state := stateOf c.reserved c.due c.approved, overpaid := decide (c.due < c.approved) }
  else if c.state = .closing then { c with overpaid := decide (c.due < c.approved) }
  else c

/-- A plan with one share changed: the share a tender names, none for 0 and none beyond the plan. -/
def onShare (plan : Option SplitPlan) (k : Nat) (f : Share → Share) : Option SplitPlan :=
  plan.map (fun p => if k = 0 then p else { p with shares := p.shares.modify (k - 1) f })

/-- The Console Port's hold with its lease at full length. -/
abbrev State.freshHold (u : State) (p : Port) : Option Hold := some ⟨p, u.modes.leaseSecs * 1000⟩

/-- SPLIT_SET's bytes for each share: a seat mask under BY_SEAT, a target under FIXED, nothing under EVEN
(that it is nothing under a byte that is no basis is deduced, log 16). -/
abbrev splitBytes (basis : Byte) : Nat := if basis = 2 then 2 else if basis = 3 then 3 else 0

/-- The fields of a TENDER_POST are in range, and give this tip mode (R85 test 1). -/
abbrev PostInRange (post : PostWire) (m : TipMode) : Prop :=
  post.share.toNat ≤ 8 ∧ 1 ≤ post.base.toNat ∧ post.base.toNat ≤ 9999999 ∧
    ((post.tipMode = 0 ∧ m = .none) ∨ (post.tipMode = 1 ∧ m = .prompt) ∨
      (post.tipMode = 2 ∧ post.fixedTip.toNat ≤ 9999999 ∧ m = .fixed post.fixedTip.toNat))

/-- The tests that open a request about a check named by index and key: BAD_FIELD unless the index is 0
to 63, the key names a table and the other fields of that test are right, then NO_MATCH unless the
entry carries the key. -/
abbrev namingTests (u : State) (index : Byte) (key : Half) (fields : Prop) :
    List (Prop × ReplyOutcome) :=
  [(index.toNat < 64 ∧ (Key.ofWire key).table ≠ 0 ∧ fields, .badField),
    (∃ i c, u.Names index key i c, .noMatch)]

/-! ### What several commands do alike -/

/-- A port's channel is left, and an image assembly with it where its stream was the IMAGE stream in
ACTIVE or DONE (R126, R161, R166). -/
abbrev ChannelLeft (u w : State) (p : Port) : Prop :=
  (∀ q, q ≠ p → w.streams.get q = u.streams.get q) ∧
    w.floor = { u.floor with
      assembly := if (u.streams.get p).carriesImage then none else u.floor.assembly } ∧
    w.pool.free = u.pool.free ++
      (if (u.streams.get p).carriesImage then u.assemblyRecords else []) ∧
    w = { u with streams := w.streams, floor := w.floor, pool := w.pool }

/-- The TAKEN tender times out: it is FINISHED TIMED_OUT and the timer stops, it joins the Late Window,
its base is released, a timeout is counted, and TENDER_FINISHED is set, with TENDER_EXPIRED where its
timer has expired (R100, R101, R107). -/
def TimedOut (u w : State) (pre post : List Tender) (t : Tender) (c : Check) (expired : Bool) : Prop :=
  w.ring = { u.ring with
    tenders := pre ++ { t with phase := .finished .timedOut } :: post
    timer := none
    late := (if 4 ≤ u.ring.late.length then u.ring.late.tail else u.ring.late) ++
      [⟨t.serial, t.index, t.key, t.share, t.base, t.tipMode⟩] } ∧
  w.check t.index = some (Check.reevaluated { c with
    reserved := c.reserved - t.base
    plan := onShare c.plan t.share (fun sh => { sh with reserved := sh.reserved - t.base }) }) ∧
  OnlyEntry u w t.index ∧
  w.totals = { u.totals with
    live := { u.totals.live with timeouts := min 65535 (u.totals.live.timeouts + 1) } } ∧
  w.attn = { u.attn with
    flags := ⟨u.attn.flags.console ||| Cause.tenderFinished.bit .console,
      withFlag u.attn.flags.tender expired .tenderExpired .tender, u.attn.flags.link⟩ } ∧
  w = { u with table := w.table, ring := w.ring, totals := w.totals, attn := w.attn }

/-- The SENT records return to QUEUED in their places, and the superseded DELTA records leave, each with
the pending uplink count of its entry lowered and its mark passed to the next record that stays
(R155). -/
def RecordsReturned (u w : State) : Prop :=
  let gone (r : UplinkRecord) (rest : List UplinkRecord) : Bool :=
    r.body.code == 1 && r.index.isSome &&
      rest.any (fun q => (q.body.code == 1 || q.body.code == 3) && q.index == r.index)
  let unsent := u.uplink.records.map (fun r => { r with sent := false })
  let keep (drop : Bool) : List UplinkRecord := unsent.tails.filterMap (fun l =>
    match l with
    | r :: rest => if gone r rest = drop then some r else none
    | [] => none)
  w.uplink = { u.uplink with records := keep false, mark := w.uplink.mark } ∧
  (u.uplink.mark = none → w.uplink.mark = none) ∧
  (∀ pre r post, (u.uplink.records.map UplinkRecord.seq).Nodup →
    u.uplink.records = pre ++ r :: post → u.uplink.mark = some r.seq →
    (gone r post = false → w.uplink.mark = some r.seq) ∧
    ∀ mid q more, post = mid ++ q :: more → gone r post = true →
      (∀ older d newer, mid = older ++ d :: newer → gone d (newer ++ q :: more) = true) →
      gone q more = false → w.uplink.mark = some q.seq) ∧
  (∀ i, w.check i = (u.check i).map (fun c =>
    { c with pendingUplink := c.pendingUplink -
        ((keep true).filter (fun r => r.index == some i)).length })) ∧
  w.table.cursor = u.table.cursor ∧ w.table.pinFloor = u.table.pinFloor

/-! ### The lamp -/

/-- R158's table, the first line that matches: the pattern that the inputs give. -/
def State.tablePattern (s : State) : Pattern :=
  if s.modes.mode ≠ .active then .dark
  else if (0 < s.offline.exposureCap ∧ s.offline.exposureCap * 3 ≤ s.offline.exposure * 4) ∨
      40 ≤ s.commitments then .fast
  else if s.floor.link = .down ∧ s.uplink.records ≠ [] then .slow
  else if s.uplink.records ≠ [] then .steady
  else .dark

/-! ### Items -/

/-- The fields of an item record are in range, with its seat and its line amount (R44, R45; that bits 6
and 7 of its marks are clear is the model's choice, log 15). -/
abbrev InRange (item : ItemWire) (seats : Nat) : Prop :=
  1 ≤ item.menu.toNat ∧ 1 ≤ item.quantity.toNat ∧ item.quantity.toNat ≤ 99 ∧
    item.price.toNat ≤ 999999 ∧ item.modCount.toNat ≤ 3 ∧ item.marks.toNat < 64 ∧
    (∀ m ∈ item.mods, 1 ≤ m.code ∧ m.delta ≤ 99999) ∧
    (item.marks &&& 0x0F).toNat ≤ seats ∧
    item.quantity.toNat * (item.price.toNat + (item.mods.map Modifier.delta).sum) ≤ 9999999

/-- The item that a record on the wire becomes in a record of the pool. -/
abbrev itemOf (item : ItemWire) (record serial : Nat) (status : ItemStatus) (source : ItemSource) :
    Item :=
  { record := record, serial := serial, menu := item.menu.toNat
    seat := (item.marks &&& 0x0F).toNat, quantity := item.quantity.toNat
    price := item.price.toNat, mods := item.mods, status := status, source := source }

/-- A check with other items: subtotal, tax and due by R47, then the targets of its plan, its revision
bumped, its state by R8 and R9, and the Console Port's lease at full length. -/
def edited (u : State) (c : Check) (items : List Item) : Check :=
  let sub := liveSum items
  let tax := sub * u.modes.taxRate / 10000
  { c with
    items := items
    subtotal := sub
    tax := tax
    due := sub + tax
    plan := c.plan.map (fun p => p.retarget u.modes.taxRate (sub + tax) items)
    revision := (c.revision + 1) % 65536
    state := stateOf c.reserved (sub + tax) c.approved
    overpaid := decide (sub + tax < c.approved)
    hold := u.freshHold .console }

/-- No share of a plan owes less than is approved and reserved on it. -/
abbrev NoUnderrun (plan : Option SplitPlan) : Prop :=
  ∀ p ∈ plan, ∀ sh ∈ p.shares, sh.approved + sh.reserved ≤ sh.target

/-- Tests 3 to 11 of R50, with their outcomes. -/
def addTests (u : State) (c : Check) (item : ItemWire) : List (Prop × ReplyOutcome) :=
  [(c.holder = some .console, .notHolder), (c.scope = .owned, .notOwner), (c.state.Live, .state),
    (InRange item c.seats, .badField), (c.items.length < 48 ∧ c.nextSerial ≤ 255, .checkLimit),
    (c.subtotal +
      item.quantity.toNat * (item.price.toNat + (item.mods.map Modifier.delta).sum) ≤ 9999999,
      .amountRange),
    (∀ p ∈ c.plan, p.basis ≠ .fixed, .splitFixed),
    (NoUnderrun (edited u c (c.items ++ [itemOf item 0 c.nextSerial .live .localAdd])).plan,
      .shareUnderrun),
    (u.pool.free ≠ [], .poolFull)]

/-- Tests 3 to 11 of R50 pass. -/
abbrev CanAdd (u : State) (c : Check) (item : ItemWire) : Prop :=
  c.holder = some .console ∧ c.scope = .owned ∧ c.state.Live ∧ InRange item c.seats ∧
    c.items.length < 48 ∧ c.nextSerial ≤ 255 ∧
    c.subtotal +
      item.quantity.toNat * (item.price.toNat + (item.mods.map Modifier.delta).sum) ≤ 9999999 ∧
    (∀ p ∈ c.plan, p.basis ≠ .fixed) ∧
    NoUnderrun (edited u c (c.items ++ [itemOf item 0 c.nextSerial .live .localAdd])).plan ∧
    u.pool.free ≠ []

/-- An item is added to a check (R51). -/
abbrev ItemAdded (u w : State) (i : Fin 64) (c : Check) (item : ItemWire) : Prop :=
  w.check i = some { edited u c
      (c.items ++ [itemOf item (u.pool.free.headD 0) c.nextSerial .live .localAdd]) with
        nextSerial := c.nextSerial + 1 } ∧
    OnlyEntry u w i ∧ w.pool.free = u.pool.free.tail ∧ ReadsAborted u w i (.refused .stale) ∧
    w = { u with table := w.table, pool := w.pool, streams := w.streams, attn := w.attn }

end Sys2Proof.Machine

section

open Sys2Proof Sys2Proof.Machine

/-! ### The step, the queue and reset -/

/-- A step takes the command at the front of the queue and runs it on the rest. -/
def Obligations.StepTakesFrontCommand : Prop :=
  ∀ (c : Instr) (rest : List Instr) (s : State), s.pending = c :: rest →
    step s = exec c { s with pending := rest }

/-- The part's clocks: the timebase carries leases, tender timer and blink and does not run in SLEEP, the
wake clock carries the wake timer (R72, R100, R158, R185, R186). SLOW is lit 500 ms and dark 500 ms, FAST
125 ms and 125 ms, from the lit period on (R158; the phase that says so is the model's, log 13). A step
with an empty queue is one millisecond of the clocks, which puts the expiries it makes due into the
queue: the model's choice, log 2. -/
def Obligations.ClocksRunWithTime : Prop :=
  ∀ (s : State) (ms : Nat),
    (s.modes.resetHeld = true → s.advance ms = s) ∧
    (s.modes.resetHeld = false →
      let modes : ModeController := { s.modes with
        wakeTimer := s.modes.wakeTimer.map (fun n => n - ms) }
      (s.modes.mode = .sleep → s.advance ms = { s with modes := modes }) ∧
      (s.modes.mode ≠ .sleep → ∃ w : State, s.advance ms = w ∧
        (∀ i, w.check i = (s.check i).map (fun c =>
          { c with hold := c.hold.map (fun h => { h with lease := h.lease - ms }) })) ∧
        w.table.cursor = s.table.cursor ∧ w.table.pinFloor = s.table.pinFloor ∧
        w.ring = { s.ring with timer := s.ring.timer.map (fun n => n - ms) } ∧
        w.uplink = { s.uplink with lamp := w.uplink.lamp } ∧
        w.uplink.lamp.pattern = s.uplink.lamp.pattern ∧
        (s.uplink.lamp.pattern = .slow ∨ s.uplink.lamp.pattern = .fast →
          w.uplink.lamp.phase = (s.uplink.lamp.phase + ms) % 1000) ∧
        w = { s with table := w.table, ring := w.ring, uplink := w.uplink, modes := modes })) ∧
    (s.lampLit = true ↔ s.modes.resetHeld = false ∧
      (s.uplink.lamp.pattern = .steady ∨
        (s.uplink.lamp.pattern = .slow ∧ s.uplink.lamp.phase % 1000 < 500) ∨
        (s.uplink.lamp.pattern = .fast ∧ s.uplink.lamp.phase % 250 < 125))) ∧
    (s.pending = [] → ∃ w : State, step s = .next w ∧
      w = { s.advance 1 with pending := w.pending } ∧
      (∀ i, .leaseExpiry i 0 ∈ w.pending ↔
        (∃ c h, s.check i = some c ∧ c.hold = some h ∧ h.lease = 1) ∧
          s.modes.resetHeld = false ∧ s.modes.mode ≠ .sleep) ∧
      (.tenderTimeout 0 ∈ w.pending ↔
        s.ring.timer = some 1 ∧ s.modes.resetHeld = false ∧ s.modes.mode ≠ .sleep) ∧
      (.wakeTimerExpiry 0 ∈ w.pending ↔
        s.modes.wakeTimer = some 1 ∧ s.modes.resetHeld = false))

/-- Every command answers a next state, and leaves the queue as it was. -/
def Obligations.EveryCommandAnswersNext : Prop :=
  ∀ (c : Instr) (s : State), ∃ t : State, exec c s = .next t ∧ t.pending = s.pending

/-- The values the spec gives for cold reset. -/
def Obligations.ResetHoldsInitialValues : Prop :=
  let s := State.reset
  (∀ i, s.check i = none) ∧ s.table.cursor = 0 ∧ s.table.pinFloor = 0 ∧
    s.staging.primary = StagingRecord.invalid ∧ s.staging.alternate = StagingRecord.invalid ∧
    s.pool.free.length = 512 ∧ s.pool.free.Perm (List.range 512) ∧
    (∀ p, s.holds.count.get p = 0 ∧ s.holds.waits.get p = none) ∧
    s.ring.tenders = [] ∧ s.ring.retireIdx = 0 ∧ s.ring.passed = 0 ∧ s.ring.nextSerial = 1 ∧
    s.ring.timer = none ∧ s.ring.late = [] ∧
    s.offline = ⟨0, 0, 0, 0, 0⟩ ∧ s.totals.live = ⟨0, 0, 0, 0, 0, 0, 0, 0⟩ ∧
    s.totals.snapshot = none ∧ s.floor.link = .down ∧ s.floor.assembly = none ∧
    s.uplink.records = [] ∧ s.uplink.nextSeq = 1 ∧ s.uplink.window = 1 ∧ s.uplink.mark = none ∧
    s.uplink.lamp.pattern = .dark ∧
    (∀ p, s.streams.get p = .idle) ∧
    (∀ p, s.ports.slot.get p = ⟨0, 0, .none, []⟩) ∧
    (∀ p, s.attn.flags.get p = 0 ∧ s.attn.enables.get p = 0 ∧ s.attnLow p = false) ∧
    s.modes.step = .step1 ∧ s.modes.mode = .active ∧ (∀ p, s.modes.wakeEnable.get p = false) ∧
    s.modes.wakeTimer = none ∧ s.modes.terminalId = none ∧ s.modes.taxRate = 0 ∧
    s.modes.leaseSecs = 0 ∧ s.modes.tenderSecs = 0

/-- Every law of Safety.lean holds at reset. -/
def Obligations.LawsHoldAtReset : Prop :=
  let s := State.reset
  s.KeysDistinct ∧ s.StagingForm ∧ s.ChecksEvaluated ∧ s.ScopesAgree ∧ s.CursorInRange ∧
    s.EntriesAttached ∧ s.PoolPartitioned ∧ s.SerialsRise ∧ s.HoldsAgree ∧ s.RingOrdered ∧
    s.SentFirst ∧ s.CommitmentsBounded ∧
    s.ExposureAgrees ∧ s.LampAgrees ∧ s.AssemblyStreams ∧ s.MasksInRange ∧ s.SleepQuiet

/-! ### Exchanges, frames and routing -/

/-- What a 64-byte exchange consumes: the slot's reply is shifted out (the NONE reply where the exchange
began before it was placed), the slot holds the NONE reply, REPLY is clear at its port, and of the
flags nothing else is changed but that WAKE joins at the Console Port where the exchange ends DOZE. -/
abbrev Sys2Proof.Machine.Consumed (s u : State) (x : Exch) (woke : Bool) : Prop :=
  u.ports.slot = s.ports.slot.set x.port ⟨0, 0, .none, []⟩ ∧
    u.ports.delivered = s.ports.delivered.set x.port
      (if x.early then ⟨0, 0, .none, []⟩ else s.ports.slot.get x.port) ∧
    (∀ p, u.attn.flags.get p =
      let flags := withFlag (s.attn.flags.get p) (woke && decide (p = .console)) .wake p
      if p = x.port then flags &&& ~~~(Cause.reply.bit p) else flags) ∧
    u.attn.enables = s.attn.enables ∧
    u = { s with ports := u.ports, attn := u.attn, modes := u.modes }

/-- How an exchange is taken in each mode, and that one which is not taken changes nothing (R170, R171,
R180, R184, R185, R186). `early`, `cut` and `delivered`, and that an exchange in SLEEP begins the wake
itself, are the model's choice (logs 4, 30, 5, 12). -/
def Obligations.ExchangeTakenByMode : Prop :=
  ∀ (s : State) (x : Exch),
    (s.enter x = none → ∀ (q : Req) (b : List Byte), exec (q.command x b) s = .next s) ∧
    (s.modes.resetHeld = true → s.enter x = none) ∧
    (x.cut = true → s.enter x = none) ∧
    (s.modes.resetHeld = false → x.cut = false →
      (s.modes.mode = .active →
        ∃ u, s.enter x = some u ∧ Consumed s u x false ∧ u.modes = s.modes) ∧
      (s.modes.mode = .doze → s.modes.wakeEnable.get x.port = false →
        ∃ u, s.enter x = some u ∧ Consumed s u x false ∧ u.modes = s.modes) ∧
      (s.modes.mode = .doze → s.modes.wakeEnable.get x.port = true →
        ∃ u, s.enter x = some u ∧ Consumed s u x true ∧
          u.modes = { s.modes with mode := .active }) ∧
      (s.modes.mode = .sleep → s.modes.wakeTimer.isSome = true →
        ∃ u, s.enter x = some u ∧ Consumed s u x false ∧ u.modes = s.modes) ∧
      (s.modes.mode = .sleep → s.modes.wakeTimer = none →
        s.modes.wakeEnable.get x.port = true →
        ∃ u, s.enter x = some u ∧ Consumed s u x false ∧
          u.modes = { s.modes with wakeTimer := some 2 }) ∧
      (s.modes.mode = .sleep → s.modes.wakeTimer = none →
        s.modes.wakeEnable.get x.port = false → s.enter x = none))

/-- What one chip-select period is, by its bytes; BAD_FRAME and UNKNOWN_REQUEST replies, and the exchanges
that carry no frame (R170, R172, R173, R186; that one of them begins a wake is the model's choice, log
12). -/
def Obligations.FramesReadAndAnswered : Prop :=
  (∀ (p : Port) (early cut : Bool) (bytes : List Byte),
    (bytes.length ≠ 64 →
      decodeChipSelect p early cut bytes = .exchangeDiscarded p bytes.length) ∧
    (bytes.length = 64 →
      let x : Exch := ⟨p, bytes.getD 1 0, bytes.getD 2 0, early, cut⟩
      let crcOk := crc16 (bytes.take 62) = (bytes.getD 62 0 ++ bytes.getD 63 0 : BitVec 16)
      (¬ crcOk ∨ 59 < (bytes.getD 2 0).toNat →
        decodeChipSelect p early cut bytes = .badFrame x (bytes.getD 0 0)) ∧
      (crcOk → (bytes.getD 2 0).toNat ≤ 59 → (∀ q : Req, q.code ≠ bytes.getD 0 0) →
        decodeChipSelect p early cut bytes = .unknownRequest x (bytes.getD 0 0)) ∧
      ∀ q : Req, crcOk → (bytes.getD 2 0).toNat ≤ 59 → q.code = bytes.getD 0 0 →
        decodeChipSelect p early cut bytes = q.command x ((bytes.take 62).drop 3))) ∧
  (∀ (x : Exch) (code : Byte) (s u : State), s.enter x = some u →
    exec (.badFrame x code) s =
        .next (u.placeReply x.port ⟨code, x.tag, .badFrame, []⟩ false).relamp ∧
      exec (.unknownRequest x code) s =
        .next (u.placeReply x.port ⟨code, x.tag, .unknownRequest, []⟩ false).relamp) ∧
  (∀ (x : Exch) (code : Byte) (s : State), s.enter x = none →
    exec (.badFrame x code) s = .next s ∧ exec (.unknownRequest x code) s = .next s) ∧
  ∀ (p : Port) (n : Nat) (s : State),
    (s.modes.mode ≠ .sleep → exec (.exchangeDiscarded p n) s = .next s) ∧
    (s.modes.wakeEnable.get p = false → exec (.exchangeDiscarded p n) s = .next s) ∧
    (s.modes.resetHeld = false → s.modes.mode = .sleep → s.modes.wakeTimer = none →
      s.modes.wakeEnable.get p = true →
      exec (.exchangeDiscarded p n) s =
        .next { s with modes := { s.modes with wakeTimer := some 2 } })

/-- Tests 2 to 4 of R173, in their order, for every request and every body, test 4 with the elements that a
count gives (R174); what the Mode Controller admits (R181, R186); and the tests on index and key that
open the requests about a check (R20, R50, R53, R59, R61, R66, R69, R85, R139; those of RELEASE and
STREAM_OPEN, which differ, stand in HoldsEndByReleaseOrExpiry and StreamOpenSetsUpStream). -/
def Obligations.RequestsRoutedAndAdmitted : Prop :=
  (∀ (q : Req) (x : Exch) (b : List Byte) (s u : State), s.enter x = some u →
    (q.permitted x.port = false →
      exec (q.command x b) s = .next (u.replied q x .wrongPort [])) ∧
    (∀ o body, q.permitted x.port = true → u.admission q = some (o, body) →
      exec (q.command x b) s = .next (u.replied q x o body)) ∧
    (q.permitted x.port = true → u.admission q = none → x.len.toNat < q.fieldBytes →
      exec (q.command x b) s = .next (u.replied q x .badField []))) ∧
  (∀ (x : Exch) (s u : State), s.enter x = some u →
    (∀ (index : Byte) (key : Half) (basis count : Byte) (elems : List Tri),
      Req.splitSet.permitted x.port = true → u.admission .splitSet = none →
      x.len.toNat < 5 + count.toNat * splitBytes basis →
      exec (.splitSet x index key basis count elems) s =
        .next (u.replied .splitSet x .badField [])) ∧
    ∀ (count : Byte) (items : List ItemWire), u.admission .streamPut = none →
      x.len.toNat < 1 + count.toNat * 27 →
      exec (.streamPut x count items) s = .next (u.replied .streamPut x .badField [])) ∧
  (∀ (x : Exch) (index : Byte) (key : Half) (s u : State), s.enter x = some u →
    let refuses (q : Req) (extra : Nat) (fields : Prop) (c : Instr) : Prop :=
      u.Serves q x extra → ∀ o, FailsFirst (namingTests u index key fields) o →
        exec c s = .next (u.replied q x o [])
    refuses .checkClose 0 True (.checkClose x index key) ∧
    (∀ resolution, refuses .resolve 0 (resolution = 1) (.resolveKeep x index key resolution)) ∧
    refuses .resolve 0 True (.resolveClose x index key) ∧
    (∀ item, refuses .itemAdd 0 True (.itemAdd x index key item)) ∧
    (∀ serial, refuses .itemVoid 0 (serial ≠ 0) (.itemVoid x index key serial)) ∧
    (∀ basis count elems, refuses .splitSet (count.toNat * splitBytes basis) True
      (.splitSet x index key basis count elems)) ∧
    refuses .splitClear 0 True (.splitClear x index key) ∧
    refuses .hold 0 True (.hold x index key) ∧
    refuses .renew 0 True (.renew x index key) ∧
    (∀ cls post, refuses .tenderPost 0 (cls = 1 ∧ ∃ m, PostInRange post m)
      (.tenderPostCard x index key cls post)) ∧
    ∀ post, refuses .tenderPost 0 (∃ m, PostInRange post m ∧ m ≠ .prompt)
      (.tenderPostCash x index key post)) ∧
  ∀ (u : State) (q : Req),
    (u.modes.mode = .sleep → u.admission q = some (.waking, [])) ∧
    (u.modes.mode ≠ .sleep → u.modes.step = .ready → u.admission q = none) ∧
    (u.modes.mode ≠ .sleep → q ∈ [Req.nop, .status, .attnRead, .attnClear, .attnEnable, .portReset] →
      u.admission q = none) ∧
    (u.modes.mode ≠ .sleep → u.modes.step ≠ .ready →
      (∀ r n, (r, n) ∈ [(Req.config1, ConfigStep.step1), (.config2, .step2), (.config3, .step3),
          (.config4, .step4)] →
        u.admission r = if u.modes.step = n then none
          else some (.sequence, [BitVec.ofNat 8 u.modes.step.code])) ∧
      (q ∉ [Req.nop, .status, .attnRead, .attnClear, .attnEnable, .portReset, .config1, .config2,
          .config3, .config4] → u.admission q = some (.notReady, [])))

/-- NOP (R173), and STATUS, on any port and in every configuration step (R183), change nothing. -/
def Obligations.PortReadsAnswered : Prop :=
  (∀ p, Req.status.permitted p = true) ∧
  (∀ u : State, u.modes.mode ≠ .sleep → u.admission .status = none) ∧
  ∀ (x : Exch) (s u : State), s.enter x = some u →
    (u.Serves .nop x 0 → exec (.nop x) s = .next (u.replied .nop x .ok [])) ∧
    (u.Serves .status x 0 → exec (.status x) s = .next (u.replied .status x .ok
      (be1 u.modes.mode.code ++ be1 u.modes.step.code ++ be1 (u.modes.terminalId.getD 0) ++
        be1 u.floor.link.code ++ beFlag u.floor.assembly.isSome ++
        be1 (allIdx.filter (fun i => (u.check i).isNone)).length ++ be2 u.pool.free.length ++
        be1 (allIdx.filter (fun i => (u.holderOf i).isSome)).length ++
        be1 u.ring.tenders.length ++ beFlag (u.ring.tenders.any Tender.isTaken) ++
        be1 u.ring.late.length ++ be2 u.ring.nextSerial ++ be1 u.uplink.records.length ++
        be1 u.sentCount ++ be1 u.commitments ++ be2 u.uplink.nextSeq ++ be4 u.offline.exposure ++
        be1 u.offline.count ++
        beFlag (u.streams.console.isActive || u.streams.tender.isActive ||
          u.streams.link.isActive))))

/-- ATTN_READ (R176), ATTN_CLEAR (R177) and ATTN_ENABLE (R178), on the issuing port's flags and mask. -/
def Obligations.AttnClearAndEnable : Prop :=
  (∀ p, Req.attnRead.permitted p = true ∧ Req.attnClear.permitted p = true ∧
    Req.attnEnable.permitted p = true) ∧
  (∀ (x : Exch) (s u : State), s.enter x = some u → u.Serves .attnRead x 0 →
    exec (.attnRead x) s = .next (u.replied .attnRead x .ok
      (be2 (u.attn.flags.get x.port).toNat ++ be2 (u.attn.enables.get x.port).toNat ++
        be1 (priorityNumber (u.attn.flags.get x.port) (u.attn.enables.get x.port))))) ∧
  (∀ (x : Exch) (mask : Half) (s u : State), s.enter x = some u → u.Serves .attnClear x 0 →
    ((∃ n, causeCount x.port ≤ n ∧ mask.getLsbD n = true) →
      exec (.attnClear x mask) s = .next (u.replied .attnClear x .badField [])) ∧
    ((∀ n, causeCount x.port ≤ n → mask.getLsbD n = false) →
      let f := u.attn.flags.get x.port &&& ~~~mask
      let w := { u with attn := { u.attn with flags := u.attn.flags.set x.port f } }
      exec (.attnClear x mask) s = .next (w.replied .attnClear x .ok (be2 f.toNat)) ∧
        (w.attnLow x.port = true ↔ f &&& u.attn.enables.get x.port ≠ 0))) ∧
  ∀ (x : Exch) (mask : Half) (s u : State), s.enter x = some u → u.Serves .attnEnable x 0 →
    ((∃ n, causeCount x.port ≤ n ∧ mask.getLsbD n = true) →
      exec (.attnEnable x mask) s = .next (u.replied .attnEnable x .badField [])) ∧
    ((∀ n, causeCount x.port ≤ n → mask.getLsbD n = false) →
      let w := { u with attn := { u.attn with enables := u.attn.enables.set x.port mask } }
      exec (.attnEnable x mask) s =
          .next (w.replied .attnEnable x .ok
            (be2 mask.toNat ++ be2 (u.attn.flags.get x.port).toNat)) ∧
        (w.attnLow x.port = true ↔ u.attn.flags.get x.port &&& mask ≠ 0))

/-- PORT_RESET's share of the blocks beside channel, holds and causes: staging, mark and snapshot; the
TAKEN tender, timed out without TENDER_EXPIRED; the link with the assembly and the SENT records (R26, R107,
R119, R126, R155, R157, R179). -/
def Sys2Proof.Machine.ShareReset (k v : State) : Port → Prop
  | .console => v = { k with
      staging := ⟨StagingRecord.invalid, StagingRecord.invalid⟩
      uplink := { k.uplink with mark := none }
      totals := ⟨k.totals.live, none⟩ }
  | .tender =>
    ((∀ t ∈ k.ring.tenders, t.isTaken = false) → v = k) ∧
      ∀ pre t post g c, k.ring.tenders = pre ++ t :: post → (∀ d ∈ pre, d.isTaken = false) →
        t.phase = .taken g → k.check t.index = some c → TimedOut k v pre post t c false
  | .link => v.floor = ⟨.down, none⟩ ∧ v.pool.free = k.pool.free ++ k.assemblyRecords ∧
      RecordsReturned k v ∧
      v = { k with table := v.table, uplink := v.uplink, floor := v.floor, pool := v.pool }

/-- A port leaves the waiter list on which it stands (R71, R78). -/
def Sys2Proof.Machine.WaitLeft (v r : State) (p : Port) : Prop :=
  (v.holds.waits.get p = none → r = v) ∧
    ∀ i, v.holds.waits.get p = some i →
      r.check i = (v.check i).map (fun c =>
        { c with waiters := c.waiters.filter (fun q => q ≠ p) }) ∧
      OnlyEntry v r i ∧ r.holds = { v.holds with waits := v.holds.waits.set p none } ∧
      r = { v with table := r.table, holds := r.holds }

/-- The holds of a port on the entries of a list end one after another, each with its end-of-hold actions
before the next (R75, R78). -/
def Sys2Proof.Machine.HoldsEnded (p : Port) : List (Fin 64) → State → State → Prop
  | [], r, t => t = r
  | i :: rest, r, t =>
    (r.holderOf i ≠ some p → HoldsEnded p rest r t) ∧
      ∀ c, r.check i = some c → c.holder = some p → ∃ d : State,
        d.check i = some { c with hold := none } ∧ OnlyEntry r d i ∧
        d.holds = { r.holds with count := r.holds.count.set p (r.holds.count.get p - 1) } ∧
        d = { r with table := d.table, holds := d.holds } ∧
        HoldsEnded p rest (d.endOfHold i) t

/-- PORT_RESET on each port: its channel, its share of the blocks, its wait, its holds in ascending index
order, and last its flags and enables (R179, R26, R78, R107, R126, R155; that the end-of-hold actions
run delta scheduling whatever the port is the model's choice, log 27). -/
def Obligations.PortResetClearsItsShare : Prop :=
  ∀ (x : Exch) (s u : State), s.enter x = some u → u.Serves .portReset x 0 →
    let p := x.port
    ∃ k v r t w : State, exec (.portReset x) s = .next (w.replied .portReset x .ok []) ∧
      k.streams.get p = .idle ∧ ChannelLeft u k p ∧ ShareReset k v p ∧ WaitLeft v r p ∧
      HoldsEnded p (List.finRange 64) r t ∧
      w = { t with attn := ⟨t.attn.flags.set p 0, t.attn.enables.set p 0⟩ } ∧
      w.streams.get p = .idle ∧ w.attn.enables = u.attn.enables.set p 0 ∧
      (p = .console → w.staging = ⟨StagingRecord.invalid, StagingRecord.invalid⟩ ∧
        w.uplink.mark = none ∧ w.totals = ⟨u.totals.live, none⟩) ∧
      (p = .tender → (u.ring.tenders.filter Tender.isTaken).length ≤ 1 →
        w.ring.tenders.any Tender.isTaken = false) ∧
      (p = .link → w.floor.link = .down ∧ w.floor.assembly = none ∧
        w.uplink.records.any UplinkRecord.sent = false) ∧
      (p ≠ .console → w.staging = u.staging ∧ w.totals.snapshot = u.totals.snapshot) ∧
      (p ≠ .link → w.floor.link = u.floor.link) ∧
      (u.HoldsAgree → (∀ i, w.holderOf i ≠ some p) ∧ w.holds.waits.get p = none) ∧
      w.offline = u.offline ∧ w.modes = u.modes ∧ w.ports = u.ports

/-! ### Configuration, power, reset and wake -/

/-- CONFIG_1, CONFIG_2 and CONFIG_4, and CONFIG_3, in the sequence and reissued in READY, with their
refusals (R113, R152, R156, R181, R182). -/
def Obligations.ConfigRequestsSetValues : Prop :=
  (∀ (x : Exch) (s u : State), s.enter x = some u →
    (∀ tid pin : Byte, u.Serves .config1 x 0 →
      ¬ (1 ≤ tid.toNat ∧ tid.toNat ≤ 250 ∧ pin.toNat ≤ 32) →
      exec (.config1 x tid pin) s = .next (u.replied .config1 x .badField [])) ∧
    (∀ (tax timeout : Half) (lease : Byte), u.Serves .config2 x 0 → ∀ o, FailsFirst
        [(tax.toNat ≤ 2500 ∧ 5 ≤ lease.toNat ∧ lease.toNat ≤ 120 ∧ 30 ≤ timeout.toNat ∧
            timeout.toNat ≤ 300, .badField),
          (u.modes.step = .ready → ∀ i, u.check i = none, .busy)] o →
      exec (.config2 x tax lease timeout) s = .next (u.replied .config2 x o [])) ∧
    ∀ window wakes : Byte, u.Serves .config4 x 0 →
      ¬ (1 ≤ window.toNat ∧ window.toNat ≤ 8 ∧ wakes.toNat < 8) →
      exec (.config4 x window wakes) s = .next (u.replied .config4 x .badField [])) ∧
  (∀ (x : Exch) (tid pin : Byte) (s u : State), s.enter x = some u → u.Serves .config1 x 0 →
    1 ≤ tid.toNat → tid.toNat ≤ 250 → pin.toNat ≤ 32 →
    let vacant := (∀ i, u.check i = none) ∧ u.ring.tenders = [] ∧ u.uplink.records = [] ∧
      u.ring.late = []
    let table := { u.table with pinFloor := pin.toNat, cursor := pin.toNat }
    let modes := { u.modes with terminalId := some tid.toNat, step := .step2 }
    (u.modes.step ≠ .ready → exec (.config1 x tid pin) s =
      .next ({ u with table := table, modes := modes }.replied .config1 x .ok [tid, pin, 2])) ∧
    (u.modes.step = .ready → ¬ vacant →
      exec (.config1 x tid pin) s = .next (u.replied .config1 x .busy [])) ∧
    (u.modes.step = .ready → vacant → ∃ w : State,
      exec (.config1 x tid pin) s = .next (w.replied .config1 x .ok [tid, pin, 2]) ∧
      (∀ p, w.streams.get p = .idle) ∧
      (u.AssemblyStreams →
        w.floor.assembly = none ∧ w.pool.free = u.pool.free ++ u.assemblyRecords) ∧
      w.floor.link = u.floor.link ∧
      w = { u with
        table := table, modes := modes, streams := w.streams, floor := w.floor
        pool := w.pool })) ∧
  ((∀ (x : Exch) (tax timeout : Half) (lease : Byte) (s u : State), s.enter x = some u →
    u.Serves .config2 x 0 → tax.toNat ≤ 2500 → 5 ≤ lease.toNat → lease.toNat ≤ 120 →
    30 ≤ timeout.toNat → timeout.toNat ≤ 300 →
    (u.modes.step = .ready → ∀ i, u.check i = none) →
    let st := if u.modes.step = .ready then .ready else ConfigStep.step3
    exec (.config2 x tax lease timeout) s =
      .next ({ u with modes := { u.modes with
          taxRate := tax.toNat, leaseSecs := lease.toNat, tenderSecs := timeout.toNat,
          step := st } }.replied .config2 x .ok
        (be2 tax.toNat ++ [lease] ++ be2 timeout.toNat ++ be1 st.code))) ∧
  ∀ (x : Exch) (window wakes : Byte) (s u : State), s.enter x = some u →
    u.Serves .config4 x 0 → 1 ≤ window.toNat → window.toNat ≤ 8 → wakes.toNat < 8 →
    let raised := decide (u.uplink.window < window.toNat ∧ u.floor.link = .up ∧
      u.sentCount < window.toNat) && u.uplink.records.any (fun r => !r.sent)
    exec (.config4 x window wakes) s =
      .next ({ u with
          uplink := { u.uplink with window := window.toNat }
          modes := { u.modes with
            wakeEnable := ⟨wakes.getLsbD 0, wakes.getLsbD 1, wakes.getLsbD 2⟩, step := .ready }
          attn := { u.attn with flags := { u.attn.flags with
            link := withFlag u.attn.flags.link raised .uplinkReady .link } } }.replied
        .config4 x .ok [window, wakes, 5])) ∧
  ∀ (x : Exch) (single : Tri) (cap : Quad) (count : Byte) (s u : State), s.enter x = some u →
    u.Serves .config3 x 0 →
    let st := if u.modes.step = .ready then .ready else ConfigStep.step4
    let inForce := be3 u.offline.singleLimit ++ be4 u.offline.exposureCap ++
      be1 u.offline.countCap ++ be1 u.modes.step.code
    let inRange := single.toNat ≤ 9999999 ∧ cap.toNat ≤ 99999999 ∧ count.toNat ≤ 250
    let above := u.offline.exposure ≤ cap.toNat ∧ u.offline.count ≤ count.toNat
    (¬ inRange → exec (.config3 x single cap count) s =
      .next (u.replied .config3 x .badField inForce)) ∧
    (inRange → ¬ above → exec (.config3 x single cap count) s =
      .next (u.replied .config3 x .limit inForce)) ∧
    (inRange → above → exec (.config3 x single cap count) s =
      .next ({ u with
          offline := { u.offline with
            singleLimit := single.toNat, exposureCap := cap.toNat, countCap := count.toNat }
          modes := { u.modes with step := st } }.replied .config3 x .ok
        (be3 single.toNat ++ be4 cap.toNat ++ [count] ++ be1 st.code)))

/-- POWER DOZE and POWER SLEEP (R184, R185). -/
def Obligations.PowerChangesMode : Prop :=
  (∀ (x : Exch) (mode : Byte) (s u : State), s.enter x = some u → u.Serves .power x 0 →
    (mode = 1 → exec (.powerDoze x mode) s =
      .next ({ u with modes := { u.modes with mode := .doze } }.replied .power x .ok [])) ∧
    (mode ≠ 1 → exec (.powerDoze x mode) s = .next (u.replied .power x .badField []))) ∧
  ∀ (x : Exch) (s u : State), s.enter x = some u → u.Serves .power x 0 →
    let busy := (∃ i, (u.holderOf i).isSome = true) ∨ u.ring.tenders.any Tender.isTaken = true ∨
      (∃ p, (u.streams.get p).isActive = true) ∨ u.floor.assembly.isSome = true
    (busy → exec (.powerSleep x) s = .next (u.replied .power x .busy [])) ∧
    (¬ busy → exec (.powerSleep x) s =
      .next ({ u with modes := { u.modes with mode := .sleep } }.replied .power x .ok []))

/-- COLD_RESET and RESET_RELEASE, and what is closed while RESET is held (R180). The queue and the
level of WAKE are kept: the model's choice, log 11. -/
def Obligations.ColdResetInitializesEveryBlock : Prop :=
  let initial (s : State) (held : Bool) : State :=
    { State.reset with
      pending := s.pending
      modes := { State.reset.modes with resetHeld := held, wakeLine := s.modes.wakeLine } }
  ∀ s : State,
    exec (.coldReset .powerUp) s = .next (initial s s.modes.resetHeld) ∧
    (∀ micros, 10 ≤ micros → exec (.coldReset (.asserted micros)) s = .next (initial s true)) ∧
    (∀ micros, micros < 10 → exec (.coldReset (.asserted micros)) s = .next s) ∧
    (s.modes.resetHeld = true → exec .resetRelease s = .next (initial s false)) ∧
    (s.modes.resetHeld = false → exec .resetRelease s = .next s) ∧
    (s.modes.resetHeld = true → (∀ x, s.enter x = none) ∧ (∀ p, s.attnLow p = false) ∧
      s.lampLit = false)

/-- The wake sources, the WAKE line and the start of a chip-select period, and the wake timer, whose expiry
ends the wake (R184, R186; how they reach the queue is the model's choice, logs 3, 12). -/
def Obligations.WakeSourcesAndTimer : Prop :=
  (∀ s : State,
    let high : State := { s with modes := { s.modes with wakeLine := true } }
    exec .wakeLineFall s = .next { s with modes := { s.modes with wakeLine := false } } ∧
    (s.modes.wakeLine = true ∨ s.modes.resetHeld = true ∨ s.modes.mode = .active →
      exec .wakeAssert s = .next high) ∧
    (s.modes.wakeLine = false → s.modes.resetHeld = false → s.modes.mode = .doze →
      exec .wakeAssert s = .next (State.relamp
        { s with
          modes := { s.modes with wakeLine := true, mode := .active }
          attn := { s.attn with flags := { s.attn.flags with
            console := s.attn.flags.console ||| Cause.wake.bit .console } } })) ∧
    (s.modes.wakeLine = false → s.modes.resetHeld = false → s.modes.mode = .sleep →
      exec .wakeAssert s = .next { s with modes := { s.modes with
        wakeLine := true
        wakeTimer := if s.modes.wakeTimer.isSome then s.modes.wakeTimer else some 2 } }) ∧
    ∀ p : Port,
      (s.modes.resetHeld = false ∧ s.modes.mode = .sleep ∧ s.modes.wakeTimer = none ∧
        s.modes.wakeEnable.get p = true →
        exec (.wakeByChipSelect p) s =
          .next { s with modes := { s.modes with wakeTimer := some 2 } }) ∧
      (¬ (s.modes.resetHeld = false ∧ s.modes.mode = .sleep ∧ s.modes.wakeTimer = none ∧
        s.modes.wakeEnable.get p = true) → exec (.wakeByChipSelect p) s = .next s)) ∧
  ∀ (s : State) (elapsed n : Nat), s.modes.resetHeld = false → s.modes.mode = .sleep →
    s.modes.wakeTimer = some n →
    (n ≤ elapsed → exec (.wakeTimerExpiry elapsed) s = .next (State.relamp
      { s with
        modes := { s.modes with mode := .active, wakeTimer := none }
        attn := { s.attn with flags := { s.attn.flags with
          console := s.attn.flags.console ||| Cause.wake.bit .console } } })) ∧
    (elapsed < n → exec (.wakeTimerExpiry elapsed) s =
      .next { s with modes := { s.modes with wakeTimer := some (n - elapsed) } })

/-! ### Finding checks -/

/-- PROBE (R11, R12, R27), and CHECK_INFO, which reads an entry or a share and changes nothing (R13, R14,
R24). -/
def Obligations.ProbeAndCheckInfo : Prop :=
  (∀ (x : Exch) (key : Half) (any : Byte) (s u : State), s.enter x = some u →
    u.Serves .probe x 0 →
    let k := Key.ofWire key
    let hit (i : Fin 64) : Bool := match u.check i with
      | some c => if any = 1 then decide (c.key.table = k.table) else decide (c.key = k)
      | none => false
    let count := (allIdx.filter hit).length
    let loaded (i : Option (Fin 64)) : State :=
      if x.port = .console then
        { u with staging := { u.staging with primary := { u.staging.primary with probe := i } } }
      else u
    (k.table = 0 ∨ 1 < any.toNat →
      exec (.probe x key any) s = .next (u.replied .probe x .badField [])) ∧
    (k.table ≠ 0 → any.toNat ≤ 1 → (∀ i, hit i = false) →
      exec (.probe x key any) s =
        .next ((loaded none).replied .probe x .noMatch [255, 0, 0, 0, 0])) ∧
    ∀ (i : Fin 64) (c : Check), k.table ≠ 0 → any.toNat ≤ 1 → hit i = true →
      u.check i = some c → (∀ j, j < i → hit j = false) →
      (any = 0 → u.KeysDistinct → count = 1) ∧
        exec (.probe x key any) s = .next ((loaded (some i)).replied .probe x .ok
          (be1 i.val ++ be1 count ++ be1 c.state.entry.code ++ be2 c.revision))) ∧
  ∀ (x : Exch) (index share : Byte) (s u : State), s.enter x = some u →
    u.Serves .checkInfo x 0 →
    (64 ≤ index.toNat ∨ 8 < share.toNat →
      exec (.checkInfo x index share) s = .next (u.replied .checkInfo x .badField [])) ∧
    ∀ i : Fin 64, index.toNat = i.val →
      (share = 0 → ∀ c, u.check i = some c →
        exec (.checkInfo x index share) s = .next (u.replied .checkInfo x .ok (c.wire i))) ∧
      (share = 0 → u.check i = none → exec (.checkInfo x index share) s =
        .next (u.replied .checkInfo x .ok
          ([index] ++ List.replicate 15 0 ++ [0, 1] ++ List.replicate 24 0 ++ [255, 255, 255] ++
            [0, 0]))) ∧
      (∀ c p sh, 1 ≤ share.toNat → share.toNat ≤ 8 → u.check i = some c → c.plan = some p →
        p.shares[share.toNat - 1]? = some sh → exec (.checkInfo x index share) s =
          .next (u.replied .checkInfo x .ok (sh.wire i share.toNat c p))) ∧
      (1 ≤ share.toNat → share.toNat ≤ 8 →
        (∀ c ∈ u.check i, ∀ p ∈ c.plan, p.shares.length < share.toNat) →
        exec (.checkInfo x index share) s = .next (u.replied .checkInfo x .noMatch []))

/-- Allocation: the entries that may be evicted; the lowest FREE entry, or the first evictable one from the
replacement cursor, which is evicted, or none (R15 to R18). -/
def Obligations.AllocationEvictsFromCursor : Prop :=
  (∀ (u : State) (i : Fin 64), u.evictable i = true ↔
    ∃ c, u.check i = some c ∧ u.table.pinFloor ≤ i.val ∧ c.scope = .foreign ∧ c.state = .opened ∧
      c.approved = 0 ∧ c.reserved = 0 ∧ c.pendingUplink = 0 ∧ c.hold = none ∧ c.waiters = [] ∧
      c.image = none) ∧
  ∀ u : State,
    (∀ i : Fin 64, u.check i = none → (∀ j, j < i → u.check j ≠ none) →
      u.allocate = some (i, u)) ∧
    ((∀ i, u.check i ≠ none) → (∀ i : Fin 64, u.table.pinFloor ≤ i.val → u.evictable i = false) →
      u.allocate = none) ∧
    ∀ (i : Fin 64) (c : Check), (∀ j, u.check j ≠ none) → u.check i = some c →
      u.evictable i = true → u.table.pinFloor ≤ u.table.cursor →
      (u.table.cursor ≤ i.val → ∀ j : Fin 64, u.table.cursor ≤ j.val → j < i →
        u.evictable j = false) →
      (i.val < u.table.cursor → ∀ j : Fin 64,
        u.table.cursor ≤ j.val ∨ (u.table.pinFloor ≤ j.val ∧ j < i) → u.evictable j = false) →
      ∃ v : State, u.allocate = some (i, v) ∧ v.check i = none ∧
        (∀ j, j ≠ i → v.check j = u.check j) ∧
        v.table.cursor = (if i.val = 63 then u.table.pinFloor else i.val + 1) ∧
        v.table.pinFloor = u.table.pinFloor ∧
        v.pool.free = u.pool.free ++ c.items.map Item.record ∧
        (∀ p, v.streams.get p = (u.streams.get p).abortedOn .itemsRead i .gone) ∧
        (∀ p, v.attn.flags.get p = withFlag (withFlag (u.attn.flags.get p)
          ((u.streams.get p).streamOn .itemsRead i).isSome .streamEnd p)
          (decide (p = .console)) .eviction p) ∧
        v.attn.enables = u.attn.enables ∧
        v = { u with table := v.table, pool := v.pool, streams := v.streams, attn := v.attn }

/-! ### Closing and resolving -/

/-- The flags after a hold of the Console Port ends with none of the end-of-hold actions: WAIT_ENDED at
each waiter, STREAM_END at the Console Port where its write stream was aborted, UPLINK_READY where a
record was appended with the link UP (R21, R77, R80, R152). -/
abbrev Sys2Proof.Machine.QuietEndFlags (u w : State) (i : Fin 64) (c : Check) (appended : Bool) :
    Prop :=
  w.attn.enables = u.attn.enables ∧ ∀ p, w.attn.flags.get p =
    withFlag (withFlag (withFlag (u.attn.flags.get p)
      (appended && decide (u.floor.link = .up ∧ p = .link)) .uplinkReady p)
      (decide (p = .console) && (u.streams.console.streamOn .itemsWrite i).isSome) .streamEnd p)
      (c.waiters.contains p) .waitEnded p

/-- A hold of the Console Port ends with none of the end-of-hold actions (R21, R77, R80). -/
abbrev Sys2Proof.Machine.QuietEnd (u w : State) (i : Fin 64) (c : Check) : Prop :=
  w.holds.count = u.holds.count.set .console (u.holds.count.console - 1) ∧
    (∀ p, w.holds.waits.get p = if p ∈ c.waiters then none else u.holds.waits.get p) ∧
    w.streams = u.streams.set .console
      (u.streams.console.abortedOn .itemsWrite i (.refused .notHolder))

/-- CHECK_CLOSE converts the QUEUED DELTA record or appends a CLOSE record, and the check is CLOSING
(R20, R21). -/
def Obligations.CheckCloseMovesToClosing : Prop :=
  ∀ (x : Exch) (index : Byte) (key : Half) (s u : State) (i : Fin 64) (c : Check),
    s.enter x = some u → u.Serves .checkClose x 0 → u.Names index key i c →
    let closable := c.state = .settled ∨ (c.state = .opened ∧ c.due = 0)
    (∀ o, FailsFirst
        [(c.holder = some .console, .notHolder), (c.scope = .owned, .notOwner),
          (closable, .state)] o →
      exec (.checkClose x index key) s = .next (u.replied .checkClose x o [])) ∧
    (c.holder = some .console → c.scope = .owned → closable →
      (∀ r, u.uplink.records.find? (fun r => r.queuedDelta i) = some r → ∃ w : State,
        exec (.checkClose x index key) s = .next (w.replied .checkClose x .ok (be2 r.seq)) ∧
        w.check i = some { c with
          uplinked := c.revision, state := .closing, hold := none, waiters := [] } ∧
        OnlyEntry u w i ∧ QuietEnd u w i c ∧ QuietEndFlags u w i c false ∧
        w.uplink = { u.uplink with records := u.uplink.records.map (fun q =>
          if q.queuedDelta i then { q with key := c.key, body := .close c.revision } else q) } ∧
        w = { u with
          table := w.table, holds := w.holds, streams := w.streams, attn := w.attn
          uplink := w.uplink }) ∧
      (u.uplink.records.find? (fun r => r.queuedDelta i) = none → u.commitments + 1 ≤ 48 →
        ∃ w : State,
        exec (.checkClose x index key) s =
          .next (w.replied .checkClose x .ok (be2 u.uplink.nextSeq)) ∧
        w.check i = some { c with
          uplinked := c.revision, state := .closing, hold := none, waiters := [],
          pendingUplink := c.pendingUplink + 1 } ∧
        OnlyEntry u w i ∧ QuietEnd u w i c ∧ QuietEndFlags u w i c true ∧
        w.uplink = { u.uplink with
          records := u.uplink.records ++
            [⟨u.uplink.nextSeq, false, some i, c.key, .close c.revision⟩]
          nextSeq := nextNumber u.uplink.nextSeq } ∧
        w = { u with
          table := w.table, holds := w.holds, streams := w.streams, attn := w.attn
          uplink := w.uplink }) ∧
      (u.uplink.records.find? (fun r => r.queuedDelta i) = none → 48 < u.commitments + 1 →
        exec (.checkClose x index key) s = .next (u.replied .checkClose x .uplinkFull [])))

/-- RESOLVE KEEP leaves CONFLICT with the payments as they stand; RESOLVE CLOSE gives the check up (R139
to R141; the bytes of its OK reply are the model's choice, log 19). -/
def Obligations.ResolveSettlesConflict : Prop :=
  ∀ (x : Exch) (index : Byte) (key : Half) (s u : State) (i : Fin 64) (c : Check),
    s.enter x = some u → u.Serves .resolve x 0 → u.Names index key i c →
    let tests (kind : ConflictKind) : List (Prop × ReplyOutcome) :=
      [(c.holder = some .console, .notHolder), (∃ k, c.state = .conflict k, .state),
        (c.state = .conflict kind, .badField), (c.reserved = 0, .state),
        (u.commitments + 1 ≤ 48, .uplinkFull)]
    let appended (r : Resolution) : UplinkQueue := { u.uplink with
      records := u.uplink.records ++
        [⟨u.uplink.nextSeq, false, some i, c.key, .resolve r (c.approved - c.due)⟩]
      nextSeq := nextNumber u.uplink.nextSeq }
    (∀ o, FailsFirst (tests .dueBelowPaid) o →
      exec (.resolveKeep x index key 1) s = .next (u.replied .resolve x o [])) ∧
    (∀ o, FailsFirst (tests .retired) o →
      exec (.resolveClose x index key) s = .next (u.replied .resolve x o [])) ∧
    (c.holder = some .console → c.reserved = 0 → u.commitments + 1 ≤ 48 →
      (c.state = .conflict .dueBelowPaid → ∃ w : State,
        let dropped := c.plan.any (fun p => p.shares.any (fun sh => decide (sh.target < sh.approved)))
        exec (.resolveKeep x index key 1) s = .next (w.replied .resolve x .ok
          (be1 (stateOf 0 c.due c.approved).entry.code ++ be4 (c.approved - c.due) ++
            be2 u.uplink.nextSeq)) ∧
        w.check i = some { c with
          state := stateOf 0 c.due c.approved, overpaid := decide (c.due < c.approved)
          plan := if dropped then none else c.plan
          revision := if dropped then (c.revision + 1) % 65536 else c.revision
          hold := some ⟨.console, u.modes.leaseSecs * 1000⟩
          pendingUplink := c.pendingUplink + 1 } ∧
        OnlyEntry u w i ∧ w.uplink = appended .keep ∧
        (∀ p, w.streams.get p =
          if dropped then (u.streams.get p).abortedOn .itemsRead i (.refused .stale)
          else u.streams.get p) ∧
        (∀ p, w.attn.flags.get p = withFlag (withFlag (u.attn.flags.get p)
          (dropped && ((u.streams.get p).streamOn .itemsRead i).isSome) .streamEnd p)
          (decide (u.floor.link = .up ∧ p = .link)) .uplinkReady p) ∧
        w.attn.enables = u.attn.enables ∧
        w = { u with table := w.table, streams := w.streams, attn := w.attn, uplink := w.uplink }) ∧
      (c.state = .conflict .retired → ∃ w : State,
        exec (.resolveClose x index key) s = .next (w.replied .resolve x .ok
          (be1 4 ++ be4 (c.approved - c.due) ++ be2 u.uplink.nextSeq)) ∧
        w.check i = some { c with
          uplinked := c.revision, state := .closing, overpaid := decide (c.due < c.approved)
          hold := none, waiters := [], pendingUplink := c.pendingUplink + 1 } ∧
        OnlyEntry u w i ∧ QuietEnd u w i c ∧ QuietEndFlags u w i c true ∧
        w.uplink = appended .close ∧
        w = { u with
          table := w.table, holds := w.holds, streams := w.streams, attn := w.attn
          uplink := w.uplink }))

/-! ### Staging -/

/-- STAGE_SET (R29). -/
def Obligations.StageSetWritesSelected : Prop :=
  (∀ p, Req.stageSet.permitted p = true ↔ p = .console) ∧
  ∀ (x : Exch) (selection : Byte) (key : Half) (covers seats : Byte) (s u : State),
    s.enter x = some u → u.Serves .stageSet x 0 →
    let k := Key.ofWire key
    let old : StagingRecord := if u.staging.primary.valid then u.staging.primary else
      { valid := true, target := none, probe := u.staging.primary.probe, origKey := none
        captured := 0, key := none, covers := 0, seats := 0, scopeCopy := none
        stateCopy := none }
    let r : StagingRecord := { old with
      key := if selection.getLsbD 0 then some k else old.key
      covers := if selection.getLsbD 1 then covers.toNat else old.covers
      seats := if selection.getLsbD 2 then seats.toNat else old.seats }
    (selection = 0 ∨ 7 < selection.toNat ∨ (selection.getLsbD 0 = true ∧ k.table = 0) →
      exec (.stageSet x selection key covers seats) s =
        .next (u.replied .stageSet x .badField [])) ∧
    (1 ≤ selection.toNat → selection.toNat ≤ 7 →
      (selection.getLsbD 0 = true → k.table ≠ 0) →
      exec (.stageSet x selection key covers seats) s =
        .next ({ u with staging := { u.staging with primary := r } }.replied .stageSet x .ok
          r.wire))

/-- READ (R28), STAGE_GET (R30) and EXCHANGE (R31). -/
def Obligations.StagingReadGetExchange : Prop :=
  (∀ q ∈ [Req.read, .stageGet, .exchange], ∀ p, q.permitted p = true ↔ p = .console) ∧
  (∀ (x : Exch) (index : Byte) (s u : State), s.enter x = some u → u.Serves .read x 0 →
    let chosen : Option (Fin 64) :=
      if index = 0xFE then u.staging.primary.probe else idx? index
    (64 ≤ index.toNat → index ≠ 0xFE →
      exec (.read x index) s = .next (u.replied .read x .badField [])) ∧
    (index.toNat < 64 ∨ index = 0xFE →
      (∀ i, chosen = some i → u.check i = none) →
      exec (.read x index) s = .next (u.replied .read x .noMatch [])) ∧
    ∀ i c, chosen = some i → u.check i = some c →
      let r : StagingRecord :=
        { valid := true, target := some i, probe := u.staging.primary.probe
          origKey := some c.key, captured := c.revision, key := some c.key, covers := c.covers
          seats := c.seats, scopeCopy := some c.scope, stateCopy := some c.state.entry }
      exec (.read x index) s =
        .next ({ u with staging := { u.staging with primary := r } }.replied .read x .ok r.wire)) ∧
  (∀ (x : Exch) (selector : Byte) (s u : State), s.enter x = some u → u.Serves .stageGet x 0 →
    (selector = 0 → exec (.stageGet x selector) s =
      .next (u.replied .stageGet x .ok u.staging.primary.wire)) ∧
    (selector = 1 → exec (.stageGet x selector) s =
      .next (u.replied .stageGet x .ok u.staging.alternate.wire)) ∧
    (1 < selector.toNat → exec (.stageGet x selector) s =
      .next (u.replied .stageGet x .badField []))) ∧
  (∀ (x : Exch) (s u : State), s.enter x = some u → u.Serves .exchange x 0 →
    exec (.exchange x) s =
      .next ({ u with staging :=
          { primary := u.staging.alternate, alternate := u.staging.primary } }.replied
        .exchange x .ok u.staging.alternate.wire)) ∧
  ∀ (x y : Exch) (s u t v w : State), s.enter x = some u → u.Serves .exchange x 0 →
    exec (.exchange x) s = .next t → t.enter y = some v → v.Serves .exchange y 0 →
    exec (.exchange y) t = .next w → w.staging = s.staging

/-- COMMIT (R32, R33, R36, R37). -/
def Obligations.CommitWritesHeader : Prop :=
  ∀ (x : Exch) (s u : State), s.enter x = some u → u.Serves .commit x 0 →
    let r := u.staging.primary
    let refuses (o : ReplyOutcome) : Prop := exec (.commit x) s = .next (u.replied .commit x o [])
    (r.valid = false ∨ r.target = none → refuses .noStage) ∧
    ∀ i : Fin 64, r.valid = true → r.target = some i →
      (u.check i = none → refuses .stale) ∧
      ∀ c, u.check i = some c →
        (∀ o, FailsFirst
          [(r.origKey = some c.key ∧ c.revision = r.captured, .stale),
            (c.holder = some .console, .notHolder), (c.scope = .owned, .notOwner),
            (c.state.Live ∧ (r.key = some c.key ∨ (c.reserved = 0 ∧ c.image = none)), .state),
            (∀ j, j ≠ i → ∀ d ∈ u.check j, r.key ≠ some d.key, .duplicateKey),
            (r.key.isSome = true ∧ 1 ≤ r.covers ∧ r.covers ≤ 99 ∧ 1 ≤ r.seats ∧ r.seats ≤ 15 ∧
              (∀ it ∈ c.items, it.status = .live → it.seat ≤ r.seats), .badField)] o →
          refuses o) ∧
        ∀ k : Key, r.origKey = some c.key → c.revision = r.captured →
          c.holder = some .console → c.scope = .owned → c.state.Live → r.key = some k →
          (k ≠ c.key → c.reserved = 0 ∧ c.image = none) →
          (∀ j, j ≠ i → ∀ d ∈ u.check j, d.key ≠ k) →
          1 ≤ r.covers → r.covers ≤ 99 → 1 ≤ r.seats → r.seats ≤ 15 →
          (∀ it ∈ c.items, it.status = .live → it.seat ≤ r.seats) →
          let same := k = c.key ∧ r.covers = c.covers ∧ r.seats = c.seats
          ∃ (w : State) (revision : Nat),
            (same → revision = c.revision ∧ w.streams = u.streams ∧ w.attn = u.attn) ∧
            (¬ same → revision = (c.revision + 1) % 65536 ∧
              ReadsAborted u w i (.refused .stale)) ∧
            exec (.commit x) s = .next (w.replied .commit x .ok
              ([BitVec.ofNat 8 i.val] ++ be2 k.wire.toNat ++ be2 revision)) ∧
            w.check i = some { c with
              key := k, covers := r.covers, seats := r.seats, revision := revision
              hold := some ⟨.console, u.modes.leaseSecs * 1000⟩ } ∧
            OnlyEntry u w i ∧
            w.staging = { u.staging with primary := { r with
              origKey := some k, captured := revision, scopeCopy := some .owned
              stateCopy := some c.state.entry } } ∧
            w = { u with
              table := w.table, staging := w.staging, streams := w.streams, attn := w.attn }

/-- COMMIT_NEW places a new OWNED check in the entry that allocation gives (R38, R39). -/
def Obligations.CommitNewPlacesCheck : Prop :=
  ∀ (x : Exch) (s u : State), s.enter x = some u → u.Serves .commitNew x 0 →
    let r := u.staging.primary
    (∀ o, FailsFirst
        [(r.valid = true, .noStage), (∀ j, ∀ d ∈ u.check j, r.key ≠ some d.key, .duplicateKey),
          (r.key.isSome = true ∧ 1 ≤ r.covers ∧ r.covers ≤ 99 ∧ 1 ≤ r.seats ∧ r.seats ≤ 15,
            .badField),
          (u.holds.count.console < 4, .holdLimit)] o →
      exec (.commitNew x) s = .next (u.replied .commitNew x o [])) ∧
    ∀ k : Key, r.valid = true → r.key = some k → (∀ j, ∀ d ∈ u.check j, d.key ≠ k) →
    1 ≤ r.covers → r.covers ≤ 99 → 1 ≤ r.seats → r.seats ≤ 15 → u.holds.count.console < 4 →
    (u.allocate = none →
      exec (.commitNew x) s = .next (u.replied .commitNew x .tableFull [])) ∧
    ∀ (i : Fin 64) (v : State), u.allocate = some (i, v) → ∃ w : State,
      exec (.commitNew x) s = .next (w.replied .commitNew x .ok
        ([BitVec.ofNat 8 i.val] ++ be2 k.wire.toNat ++ be2 1)) ∧
      w.check i = some
        { state := .opened, key := k, scope := .owned, owner := u.modes.terminalId.getD 0
          revision := 1, uplinked := 0, server := none, covers := r.covers, seats := r.seats
          items := [], nextSerial := 1, subtotal := 0, tax := 0, due := 0, approved := 0
          reserved := 0, tips := 0, overpaid := false, plan := none
          hold := some ⟨.console, u.modes.leaseSecs * 1000⟩, waiters := [], image := none
          pendingUplink := 0 } ∧
      OnlyEntry v w i ∧
      w.holds = { u.holds with count := u.holds.count.set .console (u.holds.count.console + 1) } ∧
      w.staging = { u.staging with primary := { r with
        target := some i, origKey := some k, captured := 1, scopeCopy := some .owned
        stateCopy := some .opened } } ∧
      w = { v with table := w.table, holds := w.holds, staging := w.staging }

/-! ### Items and split plans -/

/-- ITEM_ADD, and its refusals in the order of its tests (R50, R51; that R48's bound may fail after it on a
check that was OVERPAID is marked in log 31). -/
def Obligations.ItemAddAppendsItem : Prop :=
  ∀ (x : Exch) (index : Byte) (key : Half) (item : ItemWire) (s u : State) (i : Fin 64)
    (c : Check), s.enter x = some u → u.Serves .itemAdd x 0 → u.Names index key i c →
    (CanAdd u c item → ∃ (w : State) (d : Check),
      exec (.itemAdd x index key item) s = .next (w.replied .itemAdd x .ok
        (be1 c.nextSerial ++ be2 d.revision ++ be3 d.subtotal ++ be3 d.tax ++ be3 d.due ++
          be1 d.state.entry.code)) ∧
      w.check i = some d ∧ ItemAdded u w i c item) ∧
    (∀ o, FailsFirst (addTests u c item) o →
      exec (.itemAdd x index key item) s = .next (u.replied .itemAdd x o [])) ∧
    (¬ CanAdd u c item → ∃ o, o ≠ .ok ∧ FailsFirst (addTests u c item) o ∧
      exec (.itemAdd x index key item) s = .next (u.replied .itemAdd x o []))

/-- ITEM_VOID, and its refusals in the order of its tests (R53, R54). -/
def Obligations.ItemVoidMarksItem : Prop :=
  ∀ (x : Exch) (index : Byte) (key : Half) (serial : Byte) (s u : State) (i : Fin 64)
    (c : Check), s.enter x = some u → u.Serves .itemVoid x 0 → u.Names index key i c →
    let d := edited u c (c.items.map (fun it =>
      if it.serial = serial.toNat then { it with status := .voided } else it))
    (∀ o, FailsFirst
        [(serial ≠ 0, .badField), (c.holder = some .console, .notHolder),
          (c.scope = .owned, .notOwner), (c.state = .opened, .state),
          (∃ it ∈ c.items, it.serial = serial.toNat, .noMatch),
          (∃ it ∈ c.items, it.serial = serial.toNat ∧ it.status = .live, .badField),
          (∀ p ∈ c.plan, p.basis ≠ .fixed, .splitFixed), (c.approved ≤ d.due, .overTender),
          (NoUnderrun d.plan, .shareUnderrun)] o →
      exec (.itemVoid x index key serial) s = .next (u.replied .itemVoid x o [])) ∧
    (serial ≠ 0 → c.holder = some .console → c.scope = .owned → c.state = .opened → (∃ it ∈ c.items, it.serial = serial.toNat ∧ it.status = .live) →
      (∀ p ∈ c.plan, p.basis ≠ .fixed) → c.approved ≤ d.due → NoUnderrun d.plan → ∃ w : State,
      exec (.itemVoid x index key serial) s = .next (w.replied .itemVoid x .ok
        ([serial] ++ be2 d.revision ++ be3 d.subtotal ++ be3 d.tax ++ be3 d.due ++
          be1 d.state.entry.code)) ∧
      w.check i = some d ∧ OnlyEntry u w i ∧ ReadsAborted u w i (.refused .stale) ∧
      w = { u with table := w.table, streams := w.streams, attn := w.attn })

/-- SPLIT_SET with each basis, and SPLIT_CLEAR, and their refusals in the order of their tests (R56 to
R61). -/
def Obligations.SplitPlansPlacedAndCleared : Prop :=
  ∀ (x : Exch) (index : Byte) (key : Half) (s u : State) (i : Fin 64) (c : Check),
    s.enter x = some u → u.Names index key i c →
    let editable := c.holder = some .console ∧ c.scope = .owned ∧ c.state.Live ∧ c.reserved = 0
    let placed (w : State) (plan : Option SplitPlan) : Prop :=
      w.check i = some { c with
        plan := plan, revision := (c.revision + 1) % 65536, hold := u.freshHold .console } ∧
      OnlyEntry u w i ∧ ReadsAborted u w i (.refused .stale) ∧
      w = { u with table := w.table, streams := w.streams, attn := w.attn }
    let sets (basis count : Byte) (elems : List Tri) (p : SplitPlan) : Prop :=
      ∃ w : State, exec (.splitSet x index key basis count elems) s =
        .next (w.replied .splitSet x .ok ([count] ++ p.shares.flatMap (fun sh => be3 sh.target))) ∧
      placed w (some p)
    (∀ (basis count : Byte) (elems : List Tri),
      u.Serves .splitSet x (count.toNat * splitBytes basis) →
      let masks := elems.map (fun e => e.setWidth 16)
      ∀ o, FailsFirst
          [(c.holder = some .console, .notHolder), (c.scope = .owned, .notOwner),
            (c.state.Live ∧ c.reserved = 0 ∧ c.approved = 0, .state),
            (2 ≤ count.toNat ∧ count.toNat ≤ 8 ∧
              (basis = 1 ∨
                (basis = 2 ∧ elems.length = count.toNat ∧ (∀ m ∈ masks, m.getLsbD 0 = false) ∧
                  ∀ n, n < 16 → (masks.filter (fun m => m.getLsbD n)).length ≤ 1) ∨
                (basis = 3 ∧ elems.length = count.toNat ∧ (∀ e ∈ elems, e.toNat ≤ 12499998) ∧
                  (elems.map BitVec.toNat).sum = c.due)), .badField)] o →
        exec (.splitSet x index key basis count elems) s = .next (u.replied .splitSet x o [])) ∧
    (editable → c.approved = 0 → ∀ count : Byte, 2 ≤ count.toNat → count.toNat ≤ 8 →
      (u.Serves .splitSet x 0 →
        let q := c.due / count.toNat
        sets 1 count [] ⟨.even, ⟨c.due - (count.toNat - 1) * q, 0, 0, 0, 0⟩ ::
          List.replicate (count.toNat - 1) ⟨q, 0, 0, 0, 0⟩⟩) ∧
      (∀ elems : List Tri, u.Serves .splitSet x (count.toNat * 2) → elems.length = count.toNat →
        let masks := elems.map (fun e => e.setWidth 16)
        (∀ m ∈ masks, m.getLsbD 0 = false) →
        (∀ n, n < 16 → (masks.filter (fun m => m.getLsbD n)).length ≤ 1) →
        sets 2 count elems ⟨.bySeat, List.zipWith (fun t m => ⟨t, m, 0, 0, 0⟩)
          (seatTargets u.modes.taxRate c.due c.items masks) masks⟩) ∧
      ∀ elems : List Tri, u.Serves .splitSet x (count.toNat * 3) → elems.length = count.toNat →
        (∀ e ∈ elems, e.toNat ≤ 12499998) → (elems.map BitVec.toNat).sum = c.due →
        sets 3 count elems ⟨.fixed, elems.map (fun e => ⟨e.toNat, 0, 0, 0, 0⟩)⟩) ∧
    (u.Serves .splitClear x 0 →
      (∀ o, FailsFirst
          [(c.holder = some .console, .notHolder), (c.scope = .owned, .notOwner),
            (c.state.Live ∧ c.reserved = 0, .state), (c.plan.isSome = true, .noMatch)] o →
        exec (.splitClear x index key) s = .next (u.replied .splitClear x o [])) ∧
      (editable → c.plan.isSome = true → ∃ w : State,
        exec (.splitClear x index key) s = .next (w.replied .splitClear x .ok []) ∧
        placed w none))

/-- The targets of EVEN and BY_SEAT: each share's part, the remainder and the residual to share 1, and
the sum is the due (R55, R56, R57). -/
def Obligations.TargetsSumToDue : Prop :=
  (∀ due n : Nat, 0 < n →
    (evenParts due n).length = n ∧ (evenParts due n).sum = due ∧
      ∀ k, 0 < k → k < n → (evenParts due n)[k]? = some (due / n)) ∧
  ∀ (rate : Nat) (items : List Item) (masks : List Half), masks ≠ [] →
    (∀ n, n < 16 → (masks.filter (fun m => m.getLsbD n)).length ≤ 1) →
    let lines (m : Half) : Nat := liveSum (items.filter (fun it =>
      decide (it.seat ≠ 0) && m.getLsbD it.seat))
    let sub := liveSum items
    let due := sub + sub * rate / 10000
    let common := sub - (masks.map lines).sum
    let targets := seatTargets rate due items masks
    targets.length = masks.length ∧ targets.sum = due ∧
      ∀ k m, 0 < k → masks[k]? = some m →
        let part := lines m + common / masks.length
        targets[k]? = some (part + part * rate / 10000)

/-! ### Holds -/

/-- HOLD by who holds the entry (R66, R67, R68; that the OK to the holder carries the body that 10.3
gives an OK of HOLD is deduced, log 19). -/
def Obligations.HoldDecidedByHolder : Prop :=
  ∀ (x : Exch) (index : Byte) (key : Half) (s u : State) (i : Fin 64) (c : Check),
    s.enter x = some u → u.Serves .hold x 0 → u.Names index key i c →
    let body := be1 i.val ++ be2 c.key.wire.toNat ++ be1 c.state.entry.code ++ be2 c.revision
    let count := u.holds.count.get x.port
    (c.holder = some x.port → ∃ w : State,
      exec (.hold x index key) s = .next (w.replied .hold x .ok body) ∧
      w.check i = some { c with hold := u.freshHold x.port } ∧ OnlyEntry u w i ∧
      w = { u with table := w.table }) ∧
    (c.holder ≠ some x.port → x.port ∈ c.waiters →
      exec (.hold x index key) s = .next (u.replied .hold x .queued [])) ∧
    (c.holder = none → x.port ∉ c.waiters → 4 ≤ count →
      exec (.hold x index key) s = .next (u.replied .hold x .holdLimit [])) ∧
    (c.holder = none → x.port ∉ c.waiters → count < 4 → ∃ w : State,
      exec (.hold x index key) s = .next (w.replied .hold x .ok body) ∧
      w.check i = some { c with hold := u.freshHold x.port } ∧ OnlyEntry u w i ∧
      w.holds = { u.holds with count := u.holds.count.set x.port (count + 1) } ∧
      w = { u with table := w.table, holds := w.holds }) ∧
    ∀ q, c.holder = some q → q ≠ x.port → x.port ∉ c.waiters →
      (u.holds.waits.get x.port ≠ none →
        exec (.hold x index key) s = .next (u.replied .hold x .waitBusy [])) ∧
      (u.holds.waits.get x.port = none → 4 ≤ count →
        exec (.hold x index key) s = .next (u.replied .hold x .holdLimit [])) ∧
      (u.holds.waits.get x.port = none → count < 4 → ∃ w : State,
        exec (.hold x index key) s = .next (w.replied .hold x .queued []) ∧
        w.check i = some { c with waiters := c.waiters ++ [x.port] } ∧ OnlyEntry u w i ∧
        w.holds = { u.holds with waits := u.holds.waits.set x.port (some i) } ∧
        w = { u with table := w.table, holds := w.holds })

/-- RENEW (R69). -/
def Obligations.RenewRestartsLease : Prop :=
  (∀ p, Req.renew.permitted p = true) ∧
  ∀ (x : Exch) (index : Byte) (key : Half) (s u : State), s.enter x = some u →
    u.Serves .renew x 0 →
    let k := Key.ofWire key
    (64 ≤ index.toNat ∨ k.table = 0 →
      exec (.renew x index key) s = .next (u.replied .renew x .badField [])) ∧
    ∀ i : Fin 64, index.toNat = i.val → k.table ≠ 0 →
      ((∀ c ∈ u.check i, c.key ≠ k) →
        exec (.renew x index key) s = .next (u.replied .renew x .noMatch [])) ∧
      ∀ c, u.check i = some c → c.key = k →
        (c.holder ≠ some x.port →
          exec (.renew x index key) s = .next (u.replied .renew x .notHolder [])) ∧
        (c.holder = some x.port → ∃ w : State,
          exec (.renew x index key) s = .next (w.replied .renew x .ok []) ∧
          w.check i = some { c with hold := u.freshHold x.port } ∧ OnlyEntry u w i ∧
          w = { u with table := w.table })

/-- The hold of a port has ended on an entry, before the end-of-hold actions; `lost` where LEASE_LOST is
set for it (R70, R73, R80). -/
abbrev Sys2Proof.Machine.HoldDropped (u v : State) (p : Port) (i : Fin 64) (c : Check)
    (lost : Bool) : Prop :=
  v.check i = some { c with hold := none } ∧ OnlyEntry u v i ∧
    v.holds = { u.holds with count := u.holds.count.set p (u.holds.count.get p - 1) } ∧
    v.streams =
      u.streams.set p ((u.streams.get p).abortedOn .itemsWrite i (.refused .notHolder)) ∧
    v.attn = { u.attn with
      flags := u.attn.flags.set p (withFlag (withFlag (u.attn.flags.get p)
        ((u.streams.get p).streamOn .itemsWrite i).isSome .streamEnd p) lost .leaseLost p) } ∧
    v = { u with table := v.table, holds := v.holds, streams := v.streams, attn := v.attn }

/-- A state in which a timer of the timebase has just expired: DOZE ends, and the lamp is re-evaluated
(R184, R158). -/
def Sys2Proof.Machine.State.woken (z : State) (mode : Mode) : State :=
  if mode = .doze then
    State.relamp { z with
      modes := { z.modes with mode := .active }
      attn := { z.attn with flags := { z.attn.flags with
        console := z.attn.flags.console ||| Cause.wake.bit .console } } }
  else z.relamp

/-- RELEASE, and the expiry of a lease (R70, R71, R73, R80, R184; the time the expiry carries is the
model's choice, log 3). -/
def Obligations.HoldsEndByReleaseOrExpiry : Prop :=
  (∀ (x : Exch) (index : Byte) (key : Half) (s u : State), s.enter x = some u →
    u.Serves .release x 0 →
    let k := Key.ofWire key
    (64 ≤ index.toNat →
      exec (.release x index key) s = .next (u.replied .release x .badField [])) ∧
    ∀ i : Fin 64, index.toNat = i.val →
      (k.table ≠ 0 → (∀ c ∈ u.check i, c.key ≠ k) →
        exec (.release x index key) s = .next (u.replied .release x .noMatch [])) ∧
      (k.table = 0 → u.check i = none →
        exec (.release x index key) s = .next (u.replied .release x .notHolder [])) ∧
      ∀ c, u.check i = some c → k.table = 0 ∨ c.key = k →
        (c.holder = some x.port → ∃ v : State,
          exec (.release x index key) s = .next ((v.endOfHold i).replied .release x .ok []) ∧
          HoldDropped u v x.port i c false) ∧
        (c.holder ≠ some x.port → x.port ∈ c.waiters → ∃ w : State,
          exec (.release x index key) s = .next (w.replied .release x .ok []) ∧
          w.check i = some { c with waiters := c.waiters.filter (fun q => q ≠ x.port) } ∧
          OnlyEntry u w i ∧
          w.holds = { u.holds with waits := u.holds.waits.set x.port none } ∧
          w = { u with table := w.table, holds := w.holds }) ∧
        (c.holder ≠ some x.port → x.port ∉ c.waiters →
          exec (.release x index key) s = .next (u.replied .release x .notHolder []))) ∧
  ∀ (i : Fin 64) (elapsed : Nat) (s : State),
    let u := s.advance elapsed
    (∀ p c, s.modes.resetHeld = false → s.modes.mode ≠ .sleep → u.check i = some c →
      c.hold = some ⟨p, 0⟩ → ∃ v : State,
      exec (.leaseExpiry i elapsed) s = .next ((v.endOfHold i).woken s.modes.mode) ∧
      HoldDropped u v p i c true) ∧
    (s.modes.resetHeld = true ∨ s.modes.mode = .sleep ∨
        (∀ c ∈ u.check i, ∀ h ∈ c.hold, h.lease ≠ 0) →
      exec (.leaseExpiry i elapsed) s = .next u)

/-- The end-of-hold actions after the pending image has been tried: the grant to the oldest waiter with
fewer than 4 holds, or delta scheduling (R75, R76). -/
def Obligations.EndOfHoldPassesToWaiter : Prop :=
  ∀ (v : State) (i : Fin 64),
    let t := v.tryPending i
    (t.check i = none → v.endOfHold i = t) ∧
    ∀ c, t.check i = some c → c.hold = none →
      ((∀ p ∈ c.waiters, 4 ≤ t.holds.count.get p) → ∃ z : State,
        v.endOfHold i = z.scheduleDeltas ∧
        z.check i = some { c with waiters := [] } ∧ OnlyEntry t z i ∧
        z.holds.count = t.holds.count ∧
        (∀ p, z.holds.waits.get p = if p ∈ c.waiters then none else t.holds.waits.get p) ∧
        (∀ p, z.attn.flags.get p =
          withFlag (t.attn.flags.get p) (c.waiters.contains p) .waitEnded p) ∧
        z.attn.enables = t.attn.enables ∧
        z = { t with table := z.table, holds := z.holds, attn := z.attn }) ∧
      ∀ pre q post, c.waiters = pre ++ q :: post → (∀ p ∈ pre, 4 ≤ t.holds.count.get p) →
        t.holds.count.get q < 4 →
        let z := v.endOfHold i
        z.check i = some { c with hold := t.freshHold q, waiters := post } ∧ OnlyEntry t z i ∧
        z.holds.count = t.holds.count.set q (t.holds.count.get q + 1) ∧
        (∀ p, z.holds.waits.get p = if p = q ∨ p ∈ pre then none else t.holds.waits.get p) ∧
        (∀ p, z.attn.flags.get p = withFlag (withFlag (t.attn.flags.get p)
          (pre.contains p) .waitEnded p) (decide (p = q)) .holdGranted p) ∧
        z.attn.enables = t.attn.enables ∧
        z = { t with table := z.table, holds := z.holds, attn := z.attn }

/-- Delta scheduling (R149): a DELTA record for each eligible entry in ascending order while U is below
48, and nothing else. -/
def Obligations.SchedulingPlacesDeltas : Prop :=
  ∀ u : State,
    let eligible (i : Fin 64) (c : Check) : Prop :=
      c.state ≠ .closing ∧ c.scope = .owned ∧ c.hold = none ∧ c.revision ≠ c.uplinked ∧
        ∀ r ∈ u.uplink.records, r.sent = false → r.index = some i → r.body.code ≠ 1 ∧ r.body.code ≠ 3
    ∀ el : List (Fin 64), el.Pairwise (· < ·) →
      (∀ i, i ∈ el ↔ ∃ c ∈ u.check i, eligible i c) →
      let placed := el.take (48 - u.commitments)
      let w := u.scheduleDeltas
      (∀ i, w.check i = (u.check i).map (fun c =>
        if i ∈ placed then
          { c with uplinked := c.revision, pendingUplink := c.pendingUplink + 1 } else c)) ∧
      (∃ new : List UplinkRecord, w.uplink.records = u.uplink.records ++ new ∧
        new.map UplinkRecord.index = placed.map some ∧
        (∀ r ∈ new, r.sent = false ∧ ∃ i c, r.index = some i ∧ u.check i = some c ∧
          r.key = c.key ∧ r.body = .delta c.revision) ∧
        (∀ k r, new[k]? = some r → r.seq = Nat.repeat nextNumber k u.uplink.nextSeq) ∧
        w.uplink = { u.uplink with
          records := w.uplink.records
          nextSeq := Nat.repeat nextNumber new.length u.uplink.nextSeq }) ∧
      w.attn = { u.attn with
        flags := u.attn.flags.set .link (withFlag u.attn.flags.link
          (decide (u.floor.link = .up) && !placed.isEmpty) .uplinkReady .link) } ∧
      w.table.cursor = u.table.cursor ∧ w.table.pinFloor = u.table.pinFloor ∧
      w = { u with table := w.table, uplink := w.uplink, attn := w.attn }

/-! ### Streams -/

/-- STREAM_OPEN with targets ITEMS_READ and ITEMS_WRITE, and its refusals in the order of its tests (R161,
R162, R164). -/
def Obligations.StreamOpenSetsUpStream : Prop :=
  (∀ (x : Exch) (index : Byte) (key : Half) (dir start count : Byte) (s u : State),
    s.enter x = some u → u.Serves .streamOpen x 0 →
    let fields := index.toNat < 64 ∧ (Key.ofWire key).table ≠ 0 ∧ 1 ≤ count.toNat ∧ count.toNat ≤ 48
    let idle := (u.streams.get x.port).isActive = false
    (∀ target o, FailsFirst
        [(target = 1 ∧ fields ∧ dir.toNat ≤ 1 ∧ (start.toNat ≤ 47 ∨ (start = 255 ∧ dir = 1)),
            .badField),
          (idle, .streamBusy), (∃ i c, u.Names index key i c, .noMatch)] o →
      exec (.streamOpenItemsRead x target index key dir start count) s =
        .next (u.replied .streamOpen x o [])) ∧
    ∀ o, FailsFirst
        [(fields, .badField), (x.port = .console, .wrongPort), (idle, .streamBusy),
          (∃ i c, u.Names index key i c, .noMatch),
          (∀ i c, u.Names index key i c → c.holder = some .console, .notHolder),
          (∀ i c, u.Names index key i c → c.scope = .owned, .notOwner),
          (∀ i c, u.Names index key i c → c.state.Live, .state)] o →
      exec (.streamOpenItemsWrite x index key dir start count) s =
        .next (u.replied .streamOpen x o [])) ∧
  ∀ (x : Exch) (index : Byte) (key : Half) (dir start count : Byte) (s u : State) (i : Fin 64)
    (c : Check), s.enter x = some u → u.Serves .streamOpen x 0 → u.Names index key i c →
    1 ≤ count.toNat → count.toNat ≤ 48 →
    (dir.toNat ≤ 1 → start.toNat ≤ 47 ∨ (start = 255 ∧ dir = 1) →
      let len := c.items.length
      let available := if start = 255 then len
        else if dir = 0 then len - start.toNat
        else if start.toNat < len then start.toNat + 1 else 0
      let n := min count.toNat available
      let st : Stream := { target := .itemsRead, index := some i, key := c.key
                           captured := some c.revision
                           dir := if dir = 0 then .forward else .backward
                           cursor := if start = 255 then len - 1 else start.toNat
                           remaining := n }
      ((u.streams.get x.port).isActive = true →
        exec (.streamOpenItemsRead x 1 index key dir start count) s =
          .next (u.replied .streamOpen x .streamBusy [])) ∧
      ((u.streams.get x.port).isActive = false → ∃ w : State,
        exec (.streamOpenItemsRead x 1 index key dir start count) s =
          .next (w.replied .streamOpen x .ok (be1 n ++ be2 c.revision ++ be1 len)) ∧
        w.streams.get x.port = (if n = 0 then .done { st with cursor := 0 } else .active st) ∧
        ChannelLeft u w x.port)) ∧
    (x.port ≠ .console →
      exec (.streamOpenItemsWrite x index key dir start count) s =
        .next (u.replied .streamOpen x .wrongPort [])) ∧
    (x.port = .console → (u.streams.get x.port).isActive = false → c.holder = some .console →
      c.scope = .owned → c.state.Live → ∃ w : State,
      exec (.streamOpenItemsWrite x index key dir start count) s =
        .next (w.replied .streamOpen x .ok ([count] ++ be2 0 ++ be1 0)) ∧
      w.streams.get x.port = .active
        { target := .itemsWrite, index := some i, key := c.key, captured := some c.revision
          dir := .forward, cursor := 0, remaining := count.toNat } ∧
      ChannelLeft u w x.port)

/-- STREAM_NEXT in every state of the channel, and STREAM_CLOSE (R163, R166, R167; the empty body with
STATE on an ACTIVE stream of another target is the model's choice, log 28). -/
def Obligations.StreamNextAndCloseByChannel : Prop :=
  ∀ (x : Exch) (s u : State), s.enter x = some u →
    let p := x.port
    (u.Serves .streamNext x 0 →
      (u.streams.get p = .idle →
        exec (.streamNext x) s = .next (u.replied .streamNext x .streamIdle [])) ∧
      (∀ st, u.streams.get p = .done st →
        exec (.streamNext x) s = .next (u.replied .streamNext x .empty [0, 0])) ∧
      (∀ st r, u.streams.get p = .aborted st r →
        exec (.streamNext x) s = .next (u.replied .streamNext x .state (be1 r.code))) ∧
      (∀ st, u.streams.get p = .active st → st.target ≠ .itemsRead →
        exec (.streamNext x) s = .next (u.replied .streamNext x .state [])) ∧
      ∀ st i c, u.streams.get p = .active st → st.target = .itemsRead → st.index = some i →
        u.check i = some c →
        let place (n : Nat) : Nat :=
          if st.dir = .forward then st.cursor + n else st.cursor - n
        let k := min 2 st.remaining
        let left := st.remaining - k
        let out := (List.range k).filterMap (fun n => c.items[place n]?)
        let st' : Stream :=
          { st with remaining := left, cursor := if left = 0 then place (k - 1) else place k }
        ∃ w : State, exec (.streamNext x) s = .next (w.replied .streamNext x .ok
            (be1 out.length ++ be1 left ++ be2 (st.captured.getD 0) ++ out.flatMap Item.wire)) ∧
          w.streams = u.streams.set p (if left = 0 then .done st' else .active st') ∧
          w.attn = { u.attn with
            flags := u.attn.flags.set p
              (withFlag (u.attn.flags.get p) (decide (left = 0)) .streamEnd p) } ∧
          w.check i = some { c with
            hold := if c.holder = some p then u.freshHold p else c.hold } ∧
          OnlyEntry u w i ∧
          w = { u with streams := w.streams, attn := w.attn, table := w.table }) ∧
    (u.Serves .streamClose x 0 →
      (u.streams.get p = .idle →
        exec (.streamClose x) s = .next (u.replied .streamClose x .streamIdle [])) ∧
      ∀ st r, (u.streams.get p = .active st ∧ r = 0) ∨ (u.streams.get p = .done st ∧ r = 0) ∨
          (∃ a : AbortReason, u.streams.get p = .aborted st a ∧ r = a.code) → ∃ w : State,
        exec (.streamClose x) s = .next (w.replied .streamClose x .ok
          (be1 (u.streams.get p).code ++ be1 st.target.code ++ be1 st.remaining ++ be1 r ++
            beIndex st.index ++ beKey (some st.key))) ∧
        w.streams.get p = .idle ∧ ChannelLeft u w p)

/-- A stream goes on after an item, or is DONE with STREAM_END (R165, R167). -/
abbrev Sys2Proof.Machine.StreamGoesOn (v w : State) (p : Port) (st : Stream) : Prop :=
  w = { v with
    streams := v.streams.set p (if st.remaining = 0 then .done st else .active st)
    attn := { v.attn with
      flags := v.attn.flags.set p
        (withFlag (v.attn.flags.get p) (decide (st.remaining = 0)) .streamEnd p) } }

/-- One item of a STREAM_PUT is added to the check of a write stream, under a serial (R52, R165). -/
def Sys2Proof.Machine.WriteAdds (u w : State) (p : Port) (item : ItemWire) (serial : Nat) : Prop :=
  ∃ (st : Stream) (i : Fin 64) (c d : Check) (v : State),
    u.streams.get p = .active st ∧ st.target = .itemsWrite ∧ st.index = some i ∧
    u.check i = some c ∧ CanAdd u c item ∧ serial = c.nextSerial ∧
    ItemAdded u v i c item ∧ v.check i = some d ∧
    StreamGoesOn v w p { st with captured := some d.revision, remaining := st.remaining - 1 }

/-- The tests of R49, with their outcomes. -/
def Sys2Proof.Machine.joinTests (u : State) (a : Assembly) (item : ItemWire) :
    List (Prop × ReplyOutcome) :=
  [(InRange item a.seats ∧ 1 ≤ item.serial.toNat ∧ (∀ it ∈ a.items, it.serial < item.serial.toNat),
      .badField),
    (item.marks.getLsbD 4 = false → liveSum a.items +
      item.quantity.toNat * (item.price.toNat + (item.mods.map Modifier.delta).sum) ≤ 9999999,
      .amountRange),
    (u.pool.free ≠ [], .poolFull)]

/-- Tests of R49 pass for an item of the image assembly. -/
abbrev Sys2Proof.Machine.CanJoin (u : State) (a : Assembly) (item : ItemWire) : Prop :=
  InRange item a.seats ∧ 1 ≤ item.serial.toNat ∧
    (∀ it ∈ a.items, it.serial < item.serial.toNat) ∧
    (item.marks.getLsbD 4 = false → liveSum a.items +
      item.quantity.toNat * (item.price.toNat + (item.mods.map Modifier.delta).sum) ≤ 9999999) ∧
    u.pool.free ≠ []

/-- One item of a STREAM_PUT joins the image assembly (R49, R124). -/
def Sys2Proof.Machine.ImageAdds (u w : State) (p : Port) (item : ItemWire) (serial : Nat) : Prop :=
  ∃ (st : Stream) (a : Assembly),
    u.streams.get p = .active st ∧ st.target = .image ∧ u.floor.assembly = some a ∧
    CanJoin u a item ∧ serial = item.serial.toNat ∧
    let it := itemOf item (u.pool.free.headD 0) item.serial.toNat
      (if item.marks.getLsbD 4 then .voided else .live) .floor
    StreamGoesOn
      { u with
        pool := ⟨u.pool.free.tail⟩
        floor := { u.floor with assembly := some { a with items := a.items ++ [it] } } }
      w p { st with remaining := st.remaining - 1 }

/-- The first test that an item of a STREAM_PUT fails has this outcome: those of R50 on a write stream,
those of R49 on the image stream (R52, R124). -/
def Sys2Proof.Machine.PutFails (u : State) (st : Stream) (item : ItemWire) (o : ReplyOutcome) : Prop :=
  if st.target = .image then
    ∃ a, u.floor.assembly = some a ∧ FailsFirst (joinTests u a item) o
  else
    ∃ i c, st.index = some i ∧ u.check i = some c ∧ FailsFirst (addTests u c item) o

/-- An item of a STREAM_PUT is refused: its stream is ABORTED with the refusal, which is that of the
first test the item fails, as its reason, and an image assembly is discarded with it (R52, R124, R126,
R165, R168). -/
def Sys2Proof.Machine.PutRefused (u w : State) (p : Port) (item : ItemWire) : Prop :=
  ∃ st o, u.streams.get p = .active st ∧ PutFails u st item o ∧
    w.streams = u.streams.set p (.aborted st (.refused o)) ∧
    w.attn = { u.attn with
      flags := u.attn.flags.set p (u.attn.flags.get p ||| Cause.streamEnd.bit p) } ∧
    w.floor = { u.floor with
      assembly := if st.target = .image then none else u.floor.assembly } ∧
    w.pool.free = u.pool.free ++ (if st.target = .image then u.assemblyRecords else []) ∧
    w = { u with streams := w.streams, attn := w.attn, floor := w.floor, pool := w.pool }

/-- STREAM_PUT's OK body: items added, remaining count and, on a write stream, the captured revision
and the serials given. -/
def Sys2Proof.Machine.putReply (w : State) (p : Port) (serials : List Nat) : List Byte :=
  match w.streams.get p with
  | .active st | .done st | .aborted st _ =>
    be1 serials.length ++ be1 st.remaining ++
      (if st.target = .image then [0, 0, 0, 0]
       else be2 (st.captured.getD 0) ++ be1 (serials.getD 0 0) ++ be1 (serials.getD 1 0))
  | .idle => []

/-- STREAM_PUT: each item in turn while the stream is ACTIVE and none is refused (R49, R52, R124,
R165; the empty body with STATE on an ACTIVE read stream is the model's choice, log 28, and so is the
captured revision with OK on a DONE read stream, log 29). -/
def Obligations.StreamPutTakesItemsInTurn : Prop :=
  ∀ (x : Exch) (count : Byte) (items : List ItemWire) (s u : State), s.enter x = some u →
    u.Serves .streamPut x (count.toNat * 27) →
    let p := x.port
    let adds (v w : State) (item : ItemWire) (serial : Nat) : Prop :=
      WriteAdds v w p item serial ∨ ImageAdds v w p item serial
    let ready (v : State) : Prop := ∃ st, v.streams.get p = .active st ∧
      ((st.target = .image ∧ v.floor.assembly.isSome = true) ∨
        (st.target = .itemsWrite ∧ ∃ i, st.index = some i ∧ (v.check i).isSome = true))
    let answers (w : State) (serials : List Nat) : Prop :=
      exec (.streamPut x count items) s =
        .next (w.replied .streamPut x .ok (putReply w p serials))
    (count ≠ 1 → count ≠ 2 →
      exec (.streamPut x count items) s = .next (u.replied .streamPut x .badField [])) ∧
    (count = 1 ∨ count = 2 →
      (u.streams.get p = .idle →
        exec (.streamPut x count items) s = .next (u.replied .streamPut x .streamIdle [])) ∧
      (∀ st, u.streams.get p = .done st → answers u []) ∧
      (∀ st r, u.streams.get p = .aborted st r →
        exec (.streamPut x count items) s = .next (u.replied .streamPut x .state (be1 r.code))) ∧
      (∀ st, u.streams.get p = .active st → st.target = .itemsRead →
        exec (.streamPut x count items) s = .next (u.replied .streamPut x .state []))) ∧
    (∀ a rest, items = a :: rest → rest.length + 1 = count.toNat → count.toNat ≤ 2 → ready u →
      ((∀ v n, ¬ adds u v a n) → ∃ w, PutRefused u w p a ∧ answers w []) ∧
      ∀ v n, adds u v a n →
        (rest = [] ∨ (v.streams.get p).isActive = false → answers v [n]) ∧
        ∀ b, rest = [b] → (v.streams.get p).isActive = true →
          ((∀ w m, ¬ adds v w b m) → ∃ w, PutRefused v w p b ∧ answers w [n]) ∧
          ∀ w m, adds v w b m → answers w [n, m])

/-! ### Tenders -/

/-- The tests of R85 once the entry is found, with their outcomes; `fields` is the rest of test 1. -/
def Sys2Proof.Machine.postTests (u : State) (c : Check) (share base : Nat) (fields : Prop) :
    List (Prop × ReplyOutcome) :=
  [(fields, .badField), (c.holder = some .console, .notHolder), (c.state.Live, .state),
    ((c.plan = none → share = 0) ∧
      (∀ p ∈ c.plan, 1 ≤ share ∧ share ≤ p.shares.length), .badField),
    (c.approved + c.reserved + base ≤ c.due ∧
      (∀ p ∈ c.plan, ∀ sh, p.shares[share - 1]? = some sh →
        sh.approved + sh.reserved + base ≤ sh.target), .overTender),
    (u.ring.tenders.length < 16, .ringFull), (u.commitments + 1 ≤ 48, .uplinkFull)]

/-- The check may be charged this base on this share (R85 tests 3 to 6, R86). -/
abbrev Sys2Proof.Machine.MayCharge (c : Check) (share base : Nat) : Prop :=
  c.holder = some .console ∧ c.state.Live ∧ c.approved + c.reserved + base ≤ c.due ∧
    match c.plan with
    | none => share = 0
    | some p => ∃ sh, 1 ≤ share ∧ p.shares[share - 1]? = some sh ∧
        sh.approved + sh.reserved + base ≤ sh.target

/-- TENDER_POST of class CARD and of class CASH, and its refusals in the order of its tests (R85, R87, R88,
R115; the UPLINK_READY of its append is deduced, log 21). -/
def Obligations.TenderPostReservesOrSettles : Prop :=
  (∀ (x : Exch) (index : Byte) (key : Half) (post : PostWire) (s u : State) (i : Fin 64)
    (c : Check), s.enter x = some u → u.Serves .tenderPost x 0 → u.Names index key i c →
    (∀ cls o, FailsFirst (postTests u c post.share.toNat post.base.toNat
        (cls = 1 ∧ ∃ m, PostInRange post m)) o →
      exec (.tenderPostCard x index key cls post) s = .next (u.replied .tenderPost x o [])) ∧
    ∀ o, FailsFirst (postTests u c post.share.toNat post.base.toNat
        (∃ m, PostInRange post m ∧ m ≠ .prompt)) o →
      exec (.tenderPostCash x index key post) s = .next (u.replied .tenderPost x o [])) ∧
  ∀ (x : Exch) (index : Byte) (key : Half) (post : PostWire) (s u : State) (i : Fin 64)
    (c : Check) (m : TipMode), s.enter x = some u → u.Serves .tenderPost x 0 →
    u.Names index key i c → PostInRange post m → MayCharge c post.share.toNat post.base.toNat →
    let base := post.base.toNat
    let share := post.share.toNat
    let slot := (u.ring.retireIdx + u.ring.tenders.length) % 16
    let posted (cls : TenderClass) (phase : TenderPhase) : TenderRing := { u.ring with
      tenders := u.ring.tenders ++
        [{ serial := u.ring.nextSerial, cls := cls, index := i, key := c.key, share := share
           base := base, tipMode := m, cancelRequested := false, phase := phase }]
      nextSerial := nextNumber u.ring.nextSerial }
    (16 ≤ u.ring.tenders.length →
      exec (.tenderPostCard x index key 1 post) s =
        .next (u.replied .tenderPost x .ringFull [])) ∧
    (u.ring.tenders.length < 16 → 48 < u.commitments + 1 →
      exec (.tenderPostCard x index key 1 post) s =
        .next (u.replied .tenderPost x .uplinkFull [])) ∧
    (u.ring.tenders.length < 16 → u.commitments + 1 ≤ 48 → ∃ w : State,
      exec (.tenderPostCard x index key 1 post) s = .next (w.replied .tenderPost x .ok
        (be2 u.ring.nextSerial ++ be1 slot ++ [2] ++ [0, 0])) ∧
      w.ring = posted .card .posted ∧
      w.check i = some { c with
        reserved := c.reserved + base, state := .tendering, overpaid := false
        plan := onShare c.plan share (fun sh => { sh with reserved := sh.reserved + base })
        hold := u.freshHold .console } ∧
      OnlyEntry u w i ∧
      w.attn = { u.attn with
        flags := u.attn.flags.set .tender
          (u.attn.flags.tender ||| Cause.tenderPosted.bit .tender) } ∧
      w = { u with table := w.table, ring := w.ring, attn := w.attn }) ∧
    (m = .prompt → exec (.tenderPostCash x index key post) s =
      .next (u.replied .tenderPost x .badField [])) ∧
    (m ≠ .prompt → 16 ≤ u.ring.tenders.length →
      exec (.tenderPostCash x index key post) s =
        .next (u.replied .tenderPost x .ringFull [])) ∧
    (m ≠ .prompt → u.ring.tenders.length < 16 → 48 < u.commitments + 1 →
      exec (.tenderPostCash x index key post) s =
        .next (u.replied .tenderPost x .uplinkFull [])) ∧
    (m ≠ .prompt → u.ring.tenders.length < 16 → u.commitments + 1 ≤ 48 → ∃ w : State,
      let tip := m.fixedTip
      let approved := addApproved c.approved base
      let st := stateOf c.reserved c.due approved
      exec (.tenderPostCash x index key post) s = .next (w.replied .tenderPost x .ok
        (be2 u.ring.nextSerial ++ be1 slot ++ be1 st.entry.code ++ be2 u.uplink.nextSeq)) ∧
      w.ring = posted .cash (.finished (.approved ⟨base, tip, none, false, false⟩)) ∧
      w.check i = some { c with
        approved := approved, tips := min 4294967295 (c.tips + tip), state := st
        overpaid := decide (c.due < approved)
        plan := onShare c.plan share (fun sh => { sh with
          approved := addApproved sh.approved base, tips := min 4294967295 (sh.tips + tip) })
        pendingUplink := c.pendingUplink + 1, hold := u.freshHold .console } ∧
      OnlyEntry u w i ∧
      w.uplink = { u.uplink with
        records := u.uplink.records ++ [⟨u.uplink.nextSeq, false, some i, c.key,
          .settlement ⟨.cash, u.ring.nextSerial, base, tip, none, false, false, false⟩⟩]
        nextSeq := nextNumber u.uplink.nextSeq } ∧
      w.totals = { u.totals with
        live := { u.totals.live with
          cash := min 4294967295 (u.totals.live.cash + base)
          tip := min 4294967295 (u.totals.live.tip + tip)
          approvals := min 65535 (u.totals.live.approvals + 1) } } ∧
      w.attn = { u.attn with
        flags := u.attn.flags.set .link (withFlag u.attn.flags.link
          (decide (u.floor.link = .up)) .uplinkReady .link) } ∧
      w = { u with
        table := w.table, ring := w.ring, uplink := w.uplink, totals := w.totals
        attn := w.attn })

/-- TENDER_TAKE (R89) and TENDER_PROGRESS (R91). -/
def Obligations.TenderTakeAndProgress : Prop :=
  (∀ q ∈ [Req.tenderTake, .tenderProgress], ∀ p, q.permitted p = true ↔ p = .tender) ∧
  ∀ (x : Exch) (s u : State), s.enter x = some u →
    (u.Serves .tenderTake x 0 →
      ((∃ t ∈ u.ring.tenders, t.isTaken = true) →
        exec (.tenderTake x) s = .next (u.replied .tenderTake x .busy [])) ∧
      ((∀ t ∈ u.ring.tenders, t.isTaken = false) →
        (∀ t ∈ u.ring.tenders.drop u.ring.passed, t.phase ≠ .posted) →
        exec (.tenderTake x) s =
          .next ({ u with ring := { u.ring with passed := u.ring.tenders.length } }.replied
            .tenderTake x .empty [])) ∧
      ∀ pre t post, (∀ d ∈ u.ring.tenders, d.isTaken = false) →
        u.ring.tenders = pre ++ t :: post → u.ring.passed ≤ pre.length →
        (∀ d ∈ pre.drop u.ring.passed, d.phase ≠ .posted) → t.phase = .posted →
        exec (.tenderTake x) s =
          .next ({ u with ring := { u.ring with
              tenders := pre ++ { t with phase := .taken .none } :: post
              passed := pre.length + 1
              timer := some (u.modes.tenderSecs * 1000) } }.replied
            .tenderTake x .ok t.headWire)) ∧
    ∀ (serial : Half) (stage : Byte), u.Serves .tenderProgress x 0 →
      (serial = 0 ∨ stage = 0 ∨ 3 < stage.toNat →
        exec (.tenderProgress x serial stage) s =
          .next (u.replied .tenderProgress x .badField [])) ∧
      (serial ≠ 0 → 1 ≤ stage.toNat → stage.toNat ≤ 3 →
        ((∀ t ∈ u.ring.tenders, t.isTaken = true → t.serial ≠ serial.toNat) →
          exec (.tenderProgress x serial stage) s =
            .next (u.replied .tenderProgress x .unknownTender [])) ∧
        ∀ pre t post g, u.ring.tenders = pre ++ t :: post → (∀ d ∈ pre, d.isTaken = false) →
          t.phase = .taken g → t.serial = serial.toNat →
          let told : Stage := if stage = 1 then .cardRead else if stage = 2 then .pinEntry
            else .authorizing
          exec (.tenderProgress x serial stage) s =
            .next ({ u with ring := { u.ring with
                tenders := pre ++ { t with phase := .taken told } :: post
                timer := some (u.modes.tenderSecs * 1000) } }.replied
              .tenderProgress x .ok (beFlag t.cancelRequested)))

/-- TENDER_PEEK (R90). -/
def Obligations.TenderPeekFindsPosted : Prop :=
  ∀ (x : Exch) (s u : State), s.enter x = some u →
    (x.port ≠ .tender → exec (.tenderPeek x) s =
      .next (u.replied .tenderPeek x .wrongPort [])) ∧
    (u.Serves .tenderPeek x 0 →
      ((∀ t ∈ u.ring.tenders.drop u.ring.passed, t.phase ≠ .posted) →
        exec (.tenderPeek x) s = .next (u.replied .tenderPeek x .empty [])) ∧
      ∀ pre t post, u.ring.tenders = pre ++ t :: post → u.ring.passed ≤ pre.length →
        (∀ d ∈ pre.drop u.ring.passed, d.phase ≠ .posted) → t.phase = .posted →
        exec (.tenderPeek x) s = .next (u.replied .tenderPeek x .ok t.headWire))

/-- The fields of a TENDER_RESULT beside its outcome are in range (R92 test 1). -/
abbrev Sys2Proof.Machine.ResultInRange (serial : Half) (r : ResultWire) : Prop :=
  serial ≠ 0 ∧ r.cardClass.toNat ≤ 15 ∧ r.tail.toNat ≤ 9999 ∧ r.offline.toNat ≤ 1 ∧
    ∀ b ∈ refBytes r.ref,
      (0x30 ≤ b.toNat ∧ b.toNat ≤ 0x39) ∨ (0x41 ≤ b.toNat ∧ b.toNat ≤ 0x5A)

/-- The amounts of an APPROVED result are those a base and a tip mode admit (R92 test 3). -/
abbrev Sys2Proof.Machine.ResultAmounts (r : ResultWire) (base : Nat) (m : TipMode) : Prop :=
  1 ≤ r.amount.toNat ∧ r.amount.toNat ≤ base ∧
    match m with
    | .none => r.tip.toNat = 0
    | .fixed t => r.tip.toNat = t
    | .prompt => r.tip.toNat ≤ 9999999

/-- The Offline Limit Unit admits the amount of a result (R112). -/
abbrev Sys2Proof.Machine.OfflineAdmits (u : State) (r : ResultWire) : Prop :=
  r.offline = 1 → r.amount.toNat ≤ u.offline.singleLimit ∧
    u.offline.exposure + r.amount.toNat ≤ u.offline.exposureCap ∧
    u.offline.count + 1 ≤ u.offline.countCap

/-- What an APPROVED result does but to its descriptor or window entry and to its check: the SETTLEMENT
record, the Shift Totals, the offline figures (R93 steps 3 and 4, R102 steps 2 and 3, R110, R115). -/
abbrev Sys2Proof.Machine.ApprovalRecorded (u w : State) (r : ResultWire) (serial : Nat)
    (index : Option (Fin 64)) (key : Key) (late orphan : Bool) : Prop :=
  let amount := r.amount.toNat
  let tip := r.tip.toNat
  let off := decide (r.offline = 1)
  let l := u.totals.live
  w.uplink = { u.uplink with
    records := u.uplink.records ++ [⟨u.uplink.nextSeq, false, index, key,
      .settlement ⟨.card, serial, amount, tip, some ⟨r.ref, r.cardClass.toNat, r.tail.toNat⟩, off,
        late, orphan⟩⟩]
    nextSeq := nextNumber u.uplink.nextSeq } ∧
  w.totals = { u.totals with
    live := { l with
      card := min 4294967295 (l.card + amount)
      offline := if off then min 4294967295 (l.offline + amount) else l.offline
      tip := min 4294967295 (l.tip + tip)
      approvals := min 65535 (l.approvals + 1)
      lateApprovals := if late then min 65535 (l.lateApprovals + 1) else l.lateApprovals } } ∧
  w.offline = (if off then
    { u.offline with exposure := u.offline.exposure + amount, count := u.offline.count + 1 }
    else u.offline)

/-- TENDER_RESULT refused for its fields or its serial, and for the TAKEN descriptor: refused for its
amounts or LIMIT, APPROVED, and DECLINED (R92 to R94, R112; the UPLINK_READY of its append is deduced,
log 21). -/
def Obligations.ResultFinishesTakenTender : Prop :=
  (∀ (x : Exch) (serial : Half) (outcome : Byte) (r : ResultWire) (s u : State),
    s.enter x = some u → u.Serves .tenderResult x 0 →
    (∀ o, FailsFirst
        [(ResultInRange serial r ∧ outcome = 1, .badField),
          ((∃ t ∈ u.ring.tenders, t.isTaken = true ∧ t.serial = serial.toNat) ∨
            ∃ e ∈ u.ring.late, e.serial = serial.toNat, .unknownTender)] o →
      exec (.tenderResultApproved x serial outcome r) s =
        .next (u.replied .tenderResult x o [])) ∧
    ∀ o, FailsFirst
        [(ResultInRange serial r, .badField),
          ((∃ t ∈ u.ring.tenders, t.isTaken = true ∧ t.serial = serial.toNat) ∨
            ∃ e ∈ u.ring.late, e.serial = serial.toNat, .unknownTender)] o →
      exec (.tenderResultDeclined x serial r) s = .next (u.replied .tenderResult x o [])) ∧
  ∀ (x : Exch) (serial : Half) (r : ResultWire) (s u : State) (pre post : List Tender)
    (t : Tender) (g : Stage) (c : Check), s.enter x = some u → u.Serves .tenderResult x 0 →
    ResultInRange serial r → u.ring.tenders = pre ++ t :: post →
    (∀ d ∈ pre, d.isTaken = false) → t.phase = .taken g → t.serial = serial.toNat →
    u.check t.index = some c →
    let finished (e : TenderEnd) : TenderRing := { u.ring with
      tenders := pre ++ { t with phase := .finished e } :: post, timer := none }
    let released : Check := { c with
      reserved := c.reserved - t.base
      plan := onShare c.plan t.share (fun sh => { sh with reserved := sh.reserved - t.base }) }
    (¬ ResultAmounts r t.base t.tipMode →
      exec (.tenderResultApproved x serial 1 r) s =
        .next (u.replied .tenderResult x .badField [])) ∧
    (¬ (r.amount.toNat = 0 ∧ r.tip.toNat = 0) →
      exec (.tenderResultDeclined x serial r) s =
        .next (u.replied .tenderResult x .badField [])) ∧
    (ResultAmounts r t.base t.tipMode → ¬ OfflineAdmits u r →
      exec (.tenderResultApproved x serial 1 r) s =
        .next (u.replied .tenderResult x .limit [])) ∧
    (ResultAmounts r t.base t.tipMode → OfflineAdmits u r → ∃ w : State,
      exec (.tenderResultApproved x serial 1 r) s =
        .next (w.replied .tenderResult x .ok (be2 serial.toNat ++ be2 u.uplink.nextSeq)) ∧
      w.ring = finished (.approved ⟨r.amount.toNat, r.tip.toNat,
        some ⟨r.ref, r.cardClass.toNat, r.tail.toNat⟩, decide (r.offline = 1),
        t.cancelRequested⟩) ∧
      w.check t.index = some (Check.reevaluated { released with
        approved := addApproved c.approved r.amount.toNat
        tips := min 4294967295 (c.tips + r.tip.toNat)
        plan := onShare released.plan t.share (fun sh => { sh with
          approved := addApproved sh.approved r.amount.toNat
          tips := min 4294967295 (sh.tips + r.tip.toNat) })
        pendingUplink := c.pendingUplink + 1 }) ∧
      OnlyEntry u w t.index ∧
      ApprovalRecorded u w r t.serial (some t.index) t.key false false ∧
      w.attn = { u.attn with
        flags := ⟨u.attn.flags.console ||| Cause.tenderFinished.bit .console, u.attn.flags.tender,
          withFlag u.attn.flags.link (decide (u.floor.link = .up)) .uplinkReady .link⟩ } ∧
      w = { u with
        table := w.table, ring := w.ring, uplink := w.uplink, totals := w.totals
        offline := w.offline, attn := w.attn }) ∧
    (r.amount.toNat = 0 → r.tip.toNat = 0 → ∃ w : State,
      exec (.tenderResultDeclined x serial r) s =
        .next (w.replied .tenderResult x .ok (be2 serial.toNat ++ [0, 0])) ∧
      w.ring = finished .declined ∧
      w.check t.index = some released.reevaluated ∧ OnlyEntry u w t.index ∧
      w.totals = { u.totals with
        live := { u.totals.live with
          declines := min 65535 (u.totals.live.declines + 1) } } ∧
      w.attn = { u.attn with
        flags := { u.attn.flags with
          console := u.attn.flags.console ||| Cause.tenderFinished.bit .console } } ∧
      w = { u with table := w.table, ring := w.ring, totals := w.totals, attn := w.attn })

/-- Entry into CONFLICT (R137): the state and kind, OVERPAID clear, the POSTED descriptors naming the
entry CANCELLED_BY_FLOOR with their reservations released, and the CONFLICT cause. -/
def Obligations.ConflictCancelsPosted : Prop :=
  ∀ (u : State) (i : Fin 64) (kind : ConflictKind) (c : Check), u.check i = some c →
    let hit (t : Tender) : Bool := decide (t.phase = .posted ∧ t.index = i)
    let bases (share : Nat) : Nat := ((u.ring.tenders.filter (fun t =>
      hit t && decide (t.share = share))).map Tender.base).sum
    let w := u.enterConflict i kind
    w.check i = some { c with
      state := .conflict kind, overpaid := false
      reserved := c.reserved - ((u.ring.tenders.filter hit).map Tender.base).sum
      plan := c.plan.map (fun p => { p with
        shares := p.shares.mapIdx (fun k sh =>
          { sh with reserved := sh.reserved - bases (k + 1) }) }) } ∧
    OnlyEntry u w i ∧
    w.ring = { u.ring with
      tenders := u.ring.tenders.map (fun t =>
        if hit t then { t with phase := .finished .cancelledByFloor } else t) } ∧
    w.attn = { u.attn with
      flags := { u.attn.flags with
        console := u.attn.flags.console ||| Cause.conflict.bit .console } } ∧
    w = { u with table := w.table, ring := w.ring, attn := w.attn }

/-- Late results, refused for their amounts or LIMIT, applied to their check or recorded as orphans, and
LATE_CLEAR (R92, R102 to R106, R112; that of two entries with one serial the older is meant is the
model's choice, log 26; the UPLINK_READY of their append is deduced, log 21). -/
def Obligations.LateResultsRecorded : Prop :=
  (∀ (x : Exch) (serial : Half) (r : ResultWire) (s u : State) (pre post : List LateEntry)
    (e : LateEntry), s.enter x = some u → u.Serves .tenderResult x 0 → ResultInRange serial r →
    (∀ t ∈ u.ring.tenders, t.isTaken = true → t.serial ≠ serial.toNat) →
    u.ring.late = pre ++ e :: post → (∀ d ∈ pre, d.serial ≠ serial.toNat) →
    e.serial = serial.toNat →
    let dropped : TenderRing := { u.ring with late := pre ++ post }
    let attended (v : State) : Prop := v.attn = { u.attn with
      flags := { u.attn.flags with
        link := withFlag u.attn.flags.link (decide (u.floor.link = .up)) .uplinkReady .link } }
    let answers (w : State) : Prop := exec (.tenderResultApproved x serial 1 r) s =
      .next ({ w with attn := { w.attn with flags := { w.attn.flags with
          console := w.attn.flags.console ||| Cause.lateApproval.bit .console } } }.replied
        .tenderResult x .ok (be2 serial.toNat ++ be2 u.uplink.nextSeq))
    (¬ ResultAmounts r e.base e.tipMode →
      exec (.tenderResultApproved x serial 1 r) s =
        .next (u.replied .tenderResult x .badField [])) ∧
    (¬ (r.amount.toNat = 0 ∧ r.tip.toNat = 0) →
      exec (.tenderResultDeclined x serial r) s =
        .next (u.replied .tenderResult x .badField [])) ∧
    (ResultAmounts r e.base e.tipMode → ¬ OfflineAdmits u r →
      exec (.tenderResultApproved x serial 1 r) s =
        .next (u.replied .tenderResult x .limit [])) ∧
    (ResultAmounts r e.base e.tipMode → OfflineAdmits u r →
      (∀ c, u.check e.index = some c → c.key = e.key → ∃ v : State,
        let d : Check := { c with
          approved := addApproved c.approved r.amount.toNat
          tips := min 4294967295 (c.tips + r.tip.toNat)
          pendingUplink := c.pendingUplink + 1 }
        let conflict := c.state = .tendering ∧ d.approved ≤ d.due ∧ d.due < d.approved + d.reserved
        v.ring = dropped ∧
        v.check e.index = some (if conflict then d else d.reevaluated) ∧
        OnlyEntry u v e.index ∧ attended v ∧
        ApprovalRecorded u v r e.serial (some e.index) e.key true false ∧
        v = { u with
          table := v.table, ring := v.ring, uplink := v.uplink, totals := v.totals
          offline := v.offline, attn := v.attn } ∧
        (conflict → answers (v.enterConflict e.index .dueBelowPaid)) ∧
        (¬ conflict → answers v)) ∧
      ((∀ c ∈ u.check e.index, c.key ≠ e.key) → ∃ v : State,
        v.ring = dropped ∧ attended v ∧
        ApprovalRecorded u v r e.serial none e.key true true ∧
        v = { u with
          ring := v.ring, uplink := v.uplink, totals := v.totals, offline := v.offline
          attn := v.attn } ∧
        answers v)) ∧
    (r.amount.toNat = 0 → r.tip.toNat = 0 →
      exec (.tenderResultDeclined x serial r) s =
        .next ({ u with ring := dropped }.replied .tenderResult x .ok
          (be2 serial.toNat ++ [0, 0])))) ∧
  ∀ (x : Exch) (s u : State), s.enter x = some u → u.Serves .lateClear x 0 →
    exec (.lateClear x) s =
      .next ({ u with ring := { u.ring with late := [] } }.replied .lateClear x .ok
        (be1 u.ring.late.length))

/-- TENDER_CANCEL by the descriptor's state, TENDER_REAP and TENDER_STATUS (R95 to R99; two bytes of the
reply for a Late Window entry are the model's choice, log 18, and so is which of two entries with one
serial is meant, log 26). -/
def Obligations.TenderCancelReapStatus : Prop :=
  ∀ (x : Exch) (s u : State), s.enter x = some u →
    (u.Serves .tenderCancel x 0 →
      exec (.tenderCancel x 0) s = .next (u.replied .tenderCancel x .badField [])) ∧
    (∀ serial : Half, u.Serves .tenderCancel x 0 → serial ≠ 0 →
      ((∀ t ∈ u.ring.tenders, t.serial ≠ serial.toNat) → exec (.tenderCancel x serial) s =
        .next (u.replied .tenderCancel x .unknownTender [])) ∧
      ∀ pre t post, u.ring.tenders = pre ++ t :: post → t.serial = serial.toNat →
        (∀ d ∈ pre, d.serial ≠ serial.toNat) →
        (∀ c, t.phase = .posted → u.check t.index = some c →
          let d := Check.reevaluated { c with
            reserved := c.reserved - t.base
            plan := onShare c.plan t.share (fun sh =>
              { sh with reserved := sh.reserved - t.base }) }
          ∃ w : State, exec (.tenderCancel x serial) s =
              .next (w.replied .tenderCancel x .ok (be1 d.state.entry.code)) ∧
            w.check t.index = some d ∧ OnlyEntry u w t.index ∧
            w.ring = { u.ring with
              tenders := pre ++ { t with phase := .finished .cancelled } :: post } ∧
            w = { u with table := w.table, ring := w.ring }) ∧
        (∀ g, t.phase = .taken g → exec (.tenderCancel x serial) s =
          .next ({ u with
              ring := { u.ring with
                tenders := pre ++ { t with cancelRequested := true } :: post }
              attn := { u.attn with
                flags := { u.attn.flags with
                  tender := u.attn.flags.tender ||| Cause.cancelRequest.bit .tender } } }.replied
            .tenderCancel x .ok [])) ∧
        (∀ e, t.phase = .finished e → exec (.tenderCancel x serial) s =
          .next (u.replied .tenderCancel x .state []))) ∧
    (u.Serves .tenderReap x 0 →
      (∀ t rest, u.ring.tenders = t :: rest →
        (t.isFinished = true → exec (.tenderReap x) s =
          .next ({ u with
              ring := { u.ring with
                tenders := rest
                retireIdx := (u.ring.retireIdx + 1) % 16
                passed := u.ring.passed - 1 } }.replied .tenderReap x .ok
            (t.wire (u.ring.retireIdx % 16) false))) ∧
        (t.isFinished = false → exec (.tenderReap x) s =
          .next (u.replied .tenderReap x .empty []))) ∧
      (u.ring.tenders = [] → exec (.tenderReap x) s =
        .next (u.replied .tenderReap x .empty []))) ∧
    ∀ serial : Half, u.Serves .tenderStatus x 0 →
      let late := u.ring.late.any (fun e => decide (e.serial = serial.toNat))
      (serial = 0 → exec (.tenderStatus x serial) s =
        .next (u.replied .tenderStatus x .badField [])) ∧
      (serial ≠ 0 →
        (∀ pre t post, u.ring.tenders = pre ++ t :: post → t.serial = serial.toNat →
          (∀ d ∈ pre, d.serial ≠ serial.toNat) →
          exec (.tenderStatus x serial) s = .next (u.replied .tenderStatus x .ok
            (t.wire ((u.ring.retireIdx + pre.length) % 16) late))) ∧
        ((∀ t ∈ u.ring.tenders, t.serial ≠ serial.toNat) →
          (∀ pre e post, u.ring.late = pre ++ e :: post → e.serial = serial.toNat →
            (∀ d ∈ pre, d.serial ≠ serial.toNat) →
            exec (.tenderStatus x serial) s = .next (u.replied .tenderStatus x .ok e.wire)) ∧
          (late = false → exec (.tenderStatus x serial) s =
            .next (u.replied .tenderStatus x .unknownTender []))))

/-- The tender timer's expiry (R100, R101, R184; the time it carries is the model's choice, log 3). -/
def Obligations.TenderTimeoutEntersLateWindow : Prop :=
  ∀ (s : State) (elapsed : Nat),
    let u := s.advance elapsed
    (s.modes.resetHeld = true ∨ s.modes.mode = .sleep ∨ u.ring.timer ≠ some 0 →
      exec (.tenderTimeout elapsed) s = .next u) ∧
    ∀ pre t post g c, s.modes.resetHeld = false → s.modes.mode ≠ .sleep →
      u.ring.timer = some 0 → u.ring.tenders = pre ++ t :: post →
      (∀ d ∈ pre, d.isTaken = false) → t.phase = .taken g → u.check t.index = some c →
      ∃ w : State, exec (.tenderTimeout elapsed) s = .next (w.woken s.modes.mode) ∧
        TimedOut u w pre post t c true

/-! ### Shift Totals -/

/-- TOTALS_LATCH, TOTALS_READ and TOTALS_CLEAR (R116, R117, R118). -/
def Obligations.TotalsLatchReadClear : Prop :=
  ∀ (x : Exch) (s u : State), s.enter x = some u →
    let eight (t : Totals) : List Byte :=
      be4 t.card ++ be4 t.offline ++ be4 t.cash ++ be4 t.tip ++ be2 t.approvals ++
        be2 t.declines ++ be2 t.timeouts ++ be2 t.lateApprovals
    let hold (snapshot : Option Totals) : State :=
      { u with totals := ⟨u.totals.live, snapshot⟩ }
    (x.port ≠ .console →
      exec (.totalsLatch x) s = .next (u.replied .totalsLatch x .wrongPort []) ∧
      exec (.totalsRead x) s = .next (u.replied .totalsRead x .wrongPort []) ∧
      exec (.totalsClear x) s = .next (u.replied .totalsClear x .wrongPort [])) ∧
    (u.Serves .totalsLatch x 0 →
      (u.totals.snapshot = none → exec (.totalsLatch x) s =
        .next ((hold (some u.totals.live)).replied .totalsLatch x .ok [1])) ∧
      (u.totals.snapshot.isSome = true → exec (.totalsLatch x) s =
        .next (u.replied .totalsLatch x .ok [0]))) ∧
    (u.Serves .totalsRead x 0 →
      (u.totals.snapshot = none → exec (.totalsRead x) s =
        .next (u.replied .totalsRead x .ok ([0] ++ eight u.totals.live))) ∧
      ∀ t, u.totals.snapshot = some t → exec (.totalsRead x) s =
        .next ((hold none).replied .totalsRead x .ok ([1] ++ eight t))) ∧
    (u.Serves .totalsClear x 0 → exec (.totalsClear x) s =
      .next ({ u with totals := ⟨⟨0, 0, 0, 0, 0, 0, 0, 0⟩, none⟩ }.replied .totalsClear x .ok []))

/-! ### Link, images and retirements -/

/-- LINK_STATE UP, IMAGE_BEGIN and IMAGE_ABORT (R120, R123, R126). -/
def Obligations.LinkUpAndImageAssembly : Prop :=
  ∀ (x : Exch) (s u : State), s.enter x = some u →
    (∀ value : Byte, u.Serves .linkState x 0 →
      (value ≠ 1 → exec (.linkStateUp x value) s =
        .next (u.replied .linkState x .badField [])) ∧
      (value = 1 → u.floor.link = .up → exec (.linkStateUp x value) s =
        .next (u.replied .linkState x .ok [1])) ∧
      (value = 1 → u.floor.link = .down → exec (.linkStateUp x value) s =
        .next ({ u with
            floor := { u.floor with link := .up }
            attn := { u.attn with
              flags := u.attn.flags.set .link (withFlag u.attn.flags.link
                (u.uplink.records.any (fun r => !r.sent)) .uplinkReady .link) } }.replied
          .linkState x .ok [1]))) ∧
    (∀ (key server : Half) (owner covers seats count : Byte), u.Serves .imageBegin x 0 →
      let fields := (Key.ofWire key).table ≠ 0 ∧ owner.toNat ≤ 250 ∧ 1 ≤ covers.toNat ∧
        covers.toNat ≤ 99 ∧ 1 ≤ seats.toNat ∧ seats.toNat ≤ 15 ∧ count.toNat ≤ 48
      let answers (o : ReplyOutcome) (w : State) : Prop :=
        exec (.imageBegin x key server owner covers seats count) s =
          .next (w.replied .imageBegin x o [])
      let st : Stream := { target := .image, index := none, key := Key.ofWire key
                           captured := none, dir := .forward, cursor := 0
                           remaining := count.toNat }
      (¬ fields → answers .badField u) ∧
      (fields → u.floor.link = .down → answers .linkDown u) ∧
      (fields → u.floor.link = .up → u.floor.assembly.isSome = true → answers .busy u) ∧
      (fields → u.floor.link = .up → u.floor.assembly = none →
        u.streams.link.isActive = true → answers .streamBusy u) ∧
      (fields → u.floor.link = .up → u.floor.assembly = none →
        u.streams.link.isActive = false → answers .ok
        { u with
          floor := { u.floor with
            assembly := some ⟨Key.ofWire key, server.toNat, owner.toNat, covers.toNat,
              seats.toNat, count.toNat, []⟩ }
          streams := u.streams.set .link (if count = 0 then .done st else .active st) })) ∧
    (u.Serves .imageAbort x 0 →
      (u.floor.assembly = none → exec (.imageAbort x) s =
        .next (u.replied .imageAbort x .state [])) ∧
      (u.floor.assembly.isSome = true → exec (.imageAbort x) s =
        .next ({ u with
            floor := { u.floor with assembly := none }
            pool := ⟨u.pool.free ++ u.assemblyRecords⟩
            streams := u.streams.set .link .idle }.replied .imageAbort x .ok [])))

/-- LINK_STATE DOWN: the SENT records return to QUEUED, the superseded DELTA records leave with the mark
passed on, and the assembly is discarded with its stream (R120, R121, R155). -/
def Obligations.LinkDownReturnsSent : Prop :=
  ∀ (x : Exch) (s u : State), s.enter x = some u → u.Serves .linkState x 0 →
    (u.floor.link = .down → exec (.linkStateDown x) s =
      .next (u.replied .linkState x .ok [0])) ∧
    (u.floor.link = .up → ∃ w : State,
      exec (.linkStateDown x) s = .next (w.replied .linkState x .ok [0]) ∧
      w.floor = ⟨.down, none⟩ ∧ w.pool.free = u.pool.free ++ u.assemblyRecords ∧
      RecordsReturned u w ∧
      w.streams = u.streams.set .link (match u.streams.link.running with
        | some st => if st.target = .image then .aborted st (.refused .linkDown)
            else u.streams.link
        | none => u.streams.link) ∧
      w.attn = { u.attn with
        flags := u.attn.flags.set .link (withFlag u.attn.flags.link
          u.streams.link.carriesImage .streamEnd .link) } ∧
      w = { u with
        table := w.table, uplink := w.uplink, floor := w.floor, pool := w.pool
        streams := w.streams, attn := w.attn })

/-- A pending image leaves an entry where its server revision is below S, its chain at the tail of the
free list (R130, R132, R135, R136). -/
abbrev Sys2Proof.Machine.olderGone (c : Check) (server : Nat) : Option PendingImage × List Nat :=
  match c.image with
  | some g => if g.server < server then (none, g.chain.map Item.record) else (some g, [])
  | none => (none, [])

/-- An image applied to an entry (R132, R133), and a retirement: CONFLICT, CLOSING or FREE, with FLOOR_CHANGE
(R136). -/
def Obligations.FloorChangesApplied : Prop :=
  (∀ (u : State) (i : Fin 64) (c : Check) (server owner covers seats : Nat) (items : List Item),
    u.check i = some c →
    let w := u.applyImage i server owner covers seats items
    let sub := liveSum items
    let due := sub + sub * u.modes.taxRate / 10000
    let revision := (c.revision + 1) % 65536
    let d : Check := { c with
      items := items
      nextSerial := (items.map Item.serial).foldl max 0 + 1
      image := (olderGone c server).1
      owner := owner, covers := covers, seats := seats, server := some server
      scope := if u.modes.terminalId = some owner then .owned else .foreign
      revision := revision, uplinked := revision
      subtotal := sub, tax := sub * u.modes.taxRate / 10000, due := due
      plan := (c.plan.filter (fun p => decide (p.basis ≠ .fixed))).map
        (fun p => p.retarget u.modes.taxRate due items) }
    let short := due < c.approved + c.reserved ∨ ¬ NoUnderrun d.plan
    ∃ v : State, v.check i = some d ∧ OnlyEntry u v i ∧
      v.pool.free = u.pool.free ++ c.items.map Item.record ++ (olderGone c server).2 ∧
      (∀ p, v.streams.get p = (u.streams.get p).abortedOn .itemsRead i (.refused .stale)) ∧
      (∀ p, v.attn.flags.get p = withFlag (withFlag (u.attn.flags.get p)
        ((u.streams.get p).streamOn .itemsRead i).isSome .streamEnd p)
        (decide (p = .console)) .floorChange p) ∧
      v.attn.enables = u.attn.enables ∧
      v = { u with table := v.table, pool := v.pool, streams := v.streams, attn := v.attn } ∧
      (short → w = v.enterConflict i .dueBelowPaid) ∧
      (¬ short → w.check i = some d.reevaluated ∧ OnlyEntry v w i ∧
        w = { v with table := w.table })) ∧
  ∀ (u : State) (i : Fin 64) (c : Check) (server : Nat), u.check i = some c →
    let w := u.applyRetire i server
    let d : Check := { c with server := some server, image := (olderGone c server).1 }
    let changed (z : State) : State := { z with
      attn := { z.attn with
        flags := { z.attn.flags with
          console := z.attn.flags.console ||| Cause.floorChange.bit .console } } }
    ∃ v : State, v.check i = some d ∧ OnlyEntry u v i ∧
      v.pool.free = u.pool.free ++ (olderGone c server).2 ∧
      v = { u with table := v.table, pool := v.pool } ∧
      (0 < c.reserved → w = changed (v.enterConflict i .retired)) ∧
      (c.reserved = 0 → 0 < c.pendingUplink → ∃ z : State,
        w = changed z ∧ z.check i = some { d with state := .closing } ∧ OnlyEntry v z i ∧
        z = { v with table := z.table }) ∧
      (c.reserved = 0 → c.pendingUplink = 0 → w = changed (v.freeEntry i))

/-- An entry becomes FREE (R23): its hold ends with LEASE_LOST, its waiters are dismissed, its chains
return to the pool, and its streams end with GONE. -/
def Obligations.FreedEntryReleasesAll : Prop :=
  ∀ (u : State) (i : Fin 64) (c : Check), u.check i = some c →
    let w := u.freeEntry i
    w.check i = none ∧ OnlyEntry u w i ∧
      w.pool.free = u.pool.free ++ c.items.map Item.record ++
        (match c.image with
         | some g => g.chain.map Item.record
         | none => []) ∧
      (∀ p, w.holds.count.get p =
        u.holds.count.get p - (if c.holder = some p then 1 else 0)) ∧
      (∀ p, w.holds.waits.get p = if p ∈ c.waiters then none else u.holds.waits.get p) ∧
      (∀ p, w.streams.get p =
        (if c.holder = some p then (u.streams.get p).abortedOn .itemsWrite i .gone
          else u.streams.get p).abortedOn .itemsRead i .gone) ∧
      (∀ p, w.attn.flags.get p =
        withFlag (withFlag (withFlag (u.attn.flags.get p)
          (decide (c.holder = some p)) .leaseLost p)
          ((decide (c.holder = some p) && ((u.streams.get p).streamOn .itemsWrite i).isSome) ||
            ((u.streams.get p).streamOn .itemsRead i).isSome) .streamEnd p)
          (c.waiters.contains p) .waitEnded p) ∧
      w.attn.enables = u.attn.enables ∧
      w = { u with
        table := w.table, pool := w.pool, holds := w.holds, streams := w.streams
        attn := w.attn }

/-- The entry keeps an image or retirement waiting: it is in CONFLICT, or the Console Port or the Tender
Port holds it (R127 rule 4, R135 test 6). -/
abbrev Sys2Proof.Machine.MustWait (c : Check) : Prop :=
  (∃ k, c.state = .conflict k) ∨ c.holder = some .console ∨ c.holder = some .tender

/-- A transfer out of an OWNED check must wait: the check owes a delta, or a DELTA or CLOSE record names
it (R131). -/
abbrev Sys2Proof.Machine.TransferWaits (u : State) (i : Fin 64) (c : Check) : Prop :=
  c.revision ≠ c.uplinked ∨
    ∃ r ∈ u.uplink.records, (r.body.code = 1 ∨ r.body.code = 3) ∧ r.index = some i

/-- A server revision is not above the entry's own or its pending image's (R127 rule 2, R135 test 4). -/
abbrev Sys2Proof.Machine.NoNewer (c : Check) (server : Nat) : Prop :=
  (∃ r, c.server = some r ∧ server ≤ r) ∨ ∃ g, c.image = some g ∧ server ≤ g.server

/-- The assembly is no more, and its records are at the tail of the free list (R126). -/
abbrev Sys2Proof.Machine.State.withoutAssembly (u : State) : State :=
  { u with
    floor := { u.floor with assembly := none }
    pool := ⟨u.pool.free ++ u.assemblyRecords⟩ }

/-- The assembly is no more; its chain has gone elsewhere. -/
abbrev Sys2Proof.Machine.State.assemblyMoved (u : State) : State :=
  { u with floor := { u.floor with assembly := none } }

/-- An image or retirement becomes the entry's pending one, an older one's chain returning to the pool
(R129). -/
abbrev Sys2Proof.Machine.Deferred (u w : State) (i : Fin 64) (c : Check) (g : PendingImage) : Prop :=
  w.check i = some { c with image := some g } ∧ OnlyEntry u w i ∧
    w.pool.free = u.pool.free ++
      (match c.image with
       | some old => old.chain.map Item.record
       | none => []) ∧
    w = { u with table := w.table, pool := w.pool }

/-- IMAGE_END by the apply rules (R125, R127 to R132). -/
def Obligations.ImageEndAppliesRules : Prop :=
  ∀ (x : Exch) (s u : State), s.enter x = some u → u.Serves .imageEnd x 0 →
    let answers (o : ReplyOutcome) (body : List Byte) (w : State) : Prop :=
      exec (.imageEnd x) s = .next
        ({ w with streams := w.streams.set .link .idle }.replied .imageEnd x o body)
    let applied (i : Fin 64) (w : State) : Prop :=
      answers .ok (be1 i.val ++ be1 (w.entryState i).code ++
        be2 (((w.check i).map Check.revision).getD 0)) w
    (u.floor.assembly = none ∨ u.streams.link.isActive = true →
      exec (.imageEnd x) s = .next (u.replied .imageEnd x .state [])) ∧
    ∀ a, u.floor.assembly = some a → u.streams.link.isActive = false →
      ((∀ i, ∀ c ∈ u.check i, c.key ≠ a.key) →
        (u.allocate = none → answers .tableFull [255, 0, 0, 0] u.withoutAssembly) ∧
        ∀ i v, u.allocate = some (i, v) → ∃ w : State,
          let sub := liveSum a.items
          let tax := sub * u.modes.taxRate / 10000
          answers .ok (be1 i.val ++ [1] ++ be2 1) w ∧
          w.check i = some
            { state := .opened, key := a.key
              scope := if u.modes.terminalId = some a.owner then .owned else .foreign
              owner := a.owner, revision := 1, uplinked := 1, server := some a.server
              covers := a.covers, seats := a.seats, items := a.items
              nextSerial := (a.items.map Item.serial).foldl max 0 + 1
              subtotal := sub, tax := tax, due := sub + tax, approved := 0, reserved := 0
              tips := 0, overpaid := false, plan := none, hold := none, waiters := []
              image := none, pendingUplink := 0 } ∧
          OnlyEntry v w i ∧
          w.attn = { v.attn with
            flags := { v.attn.flags with
              console := v.attn.flags.console ||| Cause.floorChange.bit .console } } ∧
          w = { v.assemblyMoved with table := w.table, attn := w.attn }) ∧
      ∀ i c, u.check i = some c → c.key = a.key →
        (∀ j, j < i → ∀ d ∈ u.check j, d.key ≠ a.key) →
        (NoNewer c a.server → answers .stale ([BitVec.ofNat 8 i.val] ++ [0, 0, 0])
          u.withoutAssembly) ∧
        (¬ NoNewer c a.server →
          (c.state = .closing → answers .state ([BitVec.ofNat 8 i.val] ++ [0, 0, 0])
            u.withoutAssembly) ∧
          (c.state ≠ .closing → MustWait c → ∃ w : State,
            answers .deferred ([BitVec.ofNat 8 i.val] ++ [0, 0, 0]) w ∧
            Deferred u.assemblyMoved w i c
              ⟨a.server, .image a.owner a.covers a.seats a.items⟩) ∧
          (c.state ≠ .closing → ¬ MustWait c →
            (c.scope = .owned → u.modes.terminalId = some a.owner → ∃ w : State,
              applied i w ∧
              w.check i = some { c with
                server := some a.server, image := (olderGone c a.server).1 } ∧
              OnlyEntry u w i ∧
              w.pool.free = u.pool.free ++ (olderGone c a.server).2 ++ u.assemblyRecords ∧
              w = { u.assemblyMoved with table := w.table, pool := w.pool }) ∧
            (c.scope = .owned → u.modes.terminalId ≠ some a.owner → TransferWaits u i c →
              ∃ w : State, answers .deferred ([BitVec.ofNat 8 i.val] ++ [0, 0, 0]) w ∧
              Deferred u.assemblyMoved w i c
                ⟨a.server, .image a.owner a.covers a.seats a.items⟩) ∧
            (c.scope = .foreign ∨
                (u.modes.terminalId ≠ some a.owner ∧ ¬ TransferWaits u i c) →
              applied i (u.assemblyMoved.applyImage i a.server a.owner a.covers a.seats
                a.items))))

/-- RETIRE by its tests (R135, R136). -/
def Obligations.RetireByTests : Prop :=
  ∀ (x : Exch) (key server : Half) (s u : State), s.enter x = some u → u.Serves .retire x 0 →
    let k := Key.ofWire key
    let answers (o : ReplyOutcome) (body : List Byte) (w : State) : Prop :=
      exec (.retire x key server) s = .next (w.replied .retire x o body)
    (k.table = 0 → answers .badField [] u) ∧
    (k.table ≠ 0 → u.floor.link = .down → answers .linkDown [] u) ∧
    (k.table ≠ 0 → u.floor.link = .up → (∀ i, ∀ c ∈ u.check i, c.key ≠ k) →
      answers .noMatch [] u) ∧
    ∀ i c, k.table ≠ 0 → u.floor.link = .up → u.check i = some c → c.key = k →
      (∀ j, j < i → ∀ d ∈ u.check j, d.key ≠ k) →
      (NoNewer c server.toNat → answers .stale (be1 i.val ++ [0]) u) ∧
      (¬ NoNewer c server.toNat →
        (c.state = .closing → ∃ w : State, answers .ok (be1 i.val ++ [4]) w ∧
          w.check i = some { c with
            server := some server.toNat, image := (olderGone c server.toNat).1 } ∧
          OnlyEntry u w i ∧ w.pool.free = u.pool.free ++ (olderGone c server.toNat).2 ∧
          w = { u with table := w.table, pool := w.pool }) ∧
        (c.state ≠ .closing → MustWait c → ∃ w : State,
          answers .deferred (be1 i.val ++ [0]) w ∧ Deferred u w i c ⟨server.toNat, .retire⟩) ∧
        (c.state ≠ .closing → ¬ MustWait c →
          let w := u.applyRetire i server.toNat
          answers .ok (be1 i.val ++ be1 (w.entryState i).code) w))

/-- A pending image or retirement is tried again (R134). -/
def Obligations.PendingImageRetried : Prop :=
  ∀ (u : State) (i : Fin 64) (c : Check), u.check i = some c →
    let w := u.tryPending i
    (c.image = none → w = u) ∧
    ∀ g, c.image = some g →
      let reached := ∃ r, c.server = some r ∧ g.server ≤ r
      let gone (d : Check) : Prop :=
        w.check i = some { d with image := none } ∧ OnlyEntry u w i ∧
          w.pool.free = u.pool.free ++ g.chain.map Item.record ∧
          w = { u with table := w.table, pool := w.pool }
      let taken (v : State) : Prop :=
        v.check i = some { c with image := none } ∧ OnlyEntry u v i ∧
          v = { u with table := v.table }
      (reached → gone c) ∧
      (¬ reached → ∀ owner covers seats items, g.body = .image owner covers seats items →
        (c.state = .closing → gone c) ∧
        (c.state ≠ .closing → MustWait c → w = u) ∧
        (c.state ≠ .closing → ¬ MustWait c →
          (c.scope = .owned → u.modes.terminalId = some owner →
            gone { c with server := some g.server }) ∧
          (c.scope = .owned → u.modes.terminalId ≠ some owner → TransferWaits u i c → w = u) ∧
          (c.scope = .foreign ∨ (u.modes.terminalId ≠ some owner ∧ ¬ TransferWaits u i c) →
            ∃ v, taken v ∧ w = v.applyImage i g.server owner covers seats items))) ∧
      (¬ reached → g.body = .retire →
        (c.state = .closing → gone { c with server := some g.server }) ∧
        (c.state ≠ .closing → MustWait c → w = u) ∧
        (c.state ≠ .closing → ¬ MustWait c → ∃ v, taken v ∧ w = v.applyRetire i g.server))

/-! ### The Uplink Queue -/

/-- UPLINK_NEXT and MARK (R151, R157; the record's reply shows it SENT: the model's choice, log 17). -/
def Obligations.UplinkNextAndMark : Prop :=
  ∀ (x : Exch) (s u : State), s.enter x = some u →
    (u.Serves .uplinkNext x 0 →
      (u.floor.link = .down → exec (.uplinkNext x) s =
        .next (u.replied .uplinkNext x .linkDown [])) ∧
      (u.floor.link = .up → u.uplink.window ≤ u.sentCount → exec (.uplinkNext x) s =
        .next (u.replied .uplinkNext x .windowFull [])) ∧
      (u.floor.link = .up → u.sentCount < u.uplink.window →
        (∀ r ∈ u.uplink.records, r.sent = true) → exec (.uplinkNext x) s =
        .next (u.replied .uplinkNext x .empty [])) ∧
      ∀ pre r post, u.floor.link = .up → u.sentCount < u.uplink.window →
        u.uplink.records = pre ++ r :: post → (∀ q ∈ pre, q.sent = true) → r.sent = false →
        let sent : UplinkRecord := { r with sent := true }
        exec (.uplinkNext x) s =
          .next ((State.scheduleDeltas { u with
              uplink := { u.uplink with records := pre ++ sent :: post } }).replied
            .uplinkNext x .ok sent.wire)) ∧
    (u.Serves .mark x 0 →
      (∀ older r, u.uplink.records = older ++ [r] → exec (.mark x) s =
        .next ({ u with uplink := { u.uplink with mark := some r.seq } }.replied .mark x .ok
          (be2 r.seq))) ∧
      (u.uplink.records = [] → exec (.mark x) s =
        .next ({ u with
            uplink := { u.uplink with mark := none }
            attn := { u.attn with
              flags := { u.attn.flags with
                console := u.attn.flags.console ||| Cause.delivered.bit .console } } }.replied
          .mark x .ok [0, 0])))

/-- What the removal of records by an acknowledgement settles: the queue is without them, the pending
uplink counts of the entries they name and the offline figures are lower by them, and nothing else is
changed (R111, R153). -/
abbrev Sys2Proof.Machine.RecordsSettled (u t : State) (gone kept : List UplinkRecord) : Prop :=
  (∀ i, t.check i = (u.check i).map (fun c =>
      { c with pendingUplink := c.pendingUplink -
          (gone.filter (fun q => q.index == some i)).length })) ∧
    t.table.cursor = u.table.cursor ∧ t.table.pinFloor = u.table.pinFloor ∧
    t.uplink = { u.uplink with records := kept } ∧
    t.offline = { u.offline with
      exposure := u.offline.exposure - (gone.filterMap UplinkRecord.offlineAmount).sum
      count := u.offline.count - (gone.filterMap UplinkRecord.offlineAmount).length } ∧
    t = { u with table := t.table, uplink := t.uplink, offline := t.offline }

/-- UPLINK_ACK: the records removed and the figures lowered (R111, R153), and what follows, in the order
of R154: CLOSING checks with no record left become FREE, the pending images of the entries named are
tried again, delta scheduling runs, the mark's record is DELIVERED, and UPLINK_READY is set where a
record waits and the window has room. -/
def Obligations.UplinkAckRemovesRecords : Prop :=
  ∀ (x : Exch) (seq : Half) (s u : State), s.enter x = some u → u.Serves .uplinkAck x 0 →
    (seq = 0 → exec (.uplinkAck x seq) s = .next (u.replied .uplinkAck x .badField [])) ∧
    (seq ≠ 0 → (∀ r ∈ u.uplink.records, r.sent = true → r.seq ≠ seq.toNat) →
      exec (.uplinkAck x seq) s = .next (u.replied .uplinkAck x .unknownSeq [])) ∧
    ∀ pre r post, seq ≠ 0 → u.uplink.records = pre ++ r :: post →
      (∀ q ∈ pre, q.sent = true ∧ q.seq ≠ seq.toNat) → r.sent = true → r.seq = seq.toNat →
      let gone := pre ++ [r]
      let named (i : Fin 64) : Bool := gone.any (fun q => q.index == some i)
      ∃ t : State, RecordsSettled u t gone post ∧
        let done (i : Fin 64) : Bool :=
          (t.check i).any (fun c => decide (c.state = .closing ∧ c.pendingUplink = 0))
        let freed := (allIdx.filter done).foldl State.freeEntry t
        let retried := (allIdx.filter named).foldl State.tryPending freed
        let z := retried.scheduleDeltas
        let delivered := gone.any (fun q => decide (u.uplink.mark = some q.seq))
        let waits := z.uplink.records.any (fun q => !q.sent) &&
          decide (z.sentCount < u.uplink.window)
        exec (.uplinkAck x seq) s = .next (State.replied
          { z with
            uplink := { z.uplink with mark := if delivered then none else u.uplink.mark }
            attn := { z.attn with flags :=
              ⟨withFlag z.attn.flags.console delivered .delivered .console, z.attn.flags.tender,
                withFlag z.attn.flags.link waits .uplinkReady .link⟩ } }
          .uplinkAck x .ok (be1 gone.length)) ∧
        (∀ i, freed.check i = if done i then none else t.check i) ∧
        ∃ deltas : List UplinkRecord, z.uplink.records = post ++ deltas ∧
          (∀ q ∈ deltas, q.sent = false ∧ q.body.code = 1) ∧
          (∀ i, freed.check i = none → z.check i = none) ∧
          ∀ i c, freed.check i = some c → c.image = none →
            z.check i = some (if deltas.any (fun q => q.index == some i) then
              { c with uplinked := c.revision, pendingUplink := c.pendingUplink + 1 } else c)

/-! ### What every step keeps -/

/-- At most 8 SENT records, at the head of the queue (R146), and a send window of 1 to 8; U at most 48
(R147); offline exposure and count those of the queue, within their caps (R110). -/
def Obligations.StepsKeepUplinkFigures : Prop :=
  (∀ s s' : State, s.SentFirst → step s = .next s' → s'.SentFirst) ∧
  (∀ s s' : State, s.CommitmentsBounded → step s = .next s' → s'.CommitmentsBounded) ∧
  ∀ s s' : State, s.ExposureAgrees → step s = .next s' → s'.ExposureAgrees

/-- No two entries share a key (R1); scope is OWNED exactly when the owner is this terminal (R2), with no
check before the terminal has an id (R181); the replacement cursor stays from the pin floor to 63
(R17, R19). -/
def Obligations.StepsKeepKeysDistinct : Prop :=
  (∀ s s' : State, s.KeysDistinct → step s = .next s' → s'.KeysDistinct) ∧
  (∀ s s' : State, s.ScopesAgree → step s = .next s' → s'.ScopesAgree) ∧
  ∀ s s' : State, s.CursorInRange → step s = .next s' → s'.CursorInRange

/-- Every one of the 512 item records is on exactly one chain (R41); the serials of every chain rise, below
the check's next item serial (R44, R46). -/
def Obligations.StepsKeepPoolPartition : Prop :=
  (∀ s s' : State, s.PoolPartitioned → step s = .next s' → s'.PoolPartitioned) ∧
  ∀ s s' : State, s.SerialsRise → step s = .next s' → s'.SerialsRise

/-- Counts of holds, waited entries and waiter lists agree (R64). -/
def Obligations.StepsKeepHolds : Prop :=
  ∀ s s' : State, s.HoldsAgree → step s = .next s' → s'.HoldsAgree

/-- The ring's order, its one TAKEN descriptor and its timer (R83, R89, R100). -/
def Obligations.StepsKeepRingOrder : Prop :=
  ∀ s s' : State, s.RingOrdered → step s = .next s' → s'.RingOrdered

/-- What is attached to an entry agrees with the queue and the ring, and every check is evaluated (R4,
R7, R8, R9, R10, R23). -/
def Obligations.StepsKeepAttachments : Prop :=
  ∀ s s' : State, s.EntriesAttached → step s = .next s' → s'.EntriesAttached

/-- An assembly exists exactly while the Link Port's stream stands ACTIVE or DONE on target IMAGE (R126);
the lamp's pattern, which is that of R158's table, a new pattern starting with its lit period; the masks of the ports, what SLEEP excludes, and an invalid staging record's form
(R158, R176, R185, R186, R25). -/
def Obligations.StepsKeepAssemblyLampSleep : Prop :=
  (∀ s s' : State, s.AssemblyStreams → step s = .next s' → s'.AssemblyStreams) ∧
  (∀ s : State, (s.LampAgrees ↔ s.uplink.lamp.pattern = s.tablePattern) ∧
    s.relamp = { s with
      uplink := { s.uplink with
        lamp := if s.uplink.lamp.pattern = s.tablePattern then s.uplink.lamp
          else ⟨s.tablePattern, 0⟩ } }) ∧
  ∀ s s' : State, step s = .next s' →
    (s.LampAgrees → s'.LampAgrees) ∧ (s.MasksInRange → s'.MasksInRange) ∧
      (s.SleepQuiet → s'.SleepQuiet) ∧ (s.StagingForm → s'.StagingForm)

end
end

