-- ==== Sys2Proof/Laws/State.lean ====
section
/-!
SUPPORT. Each block after each setter, the thing of each port after a change, and an entry after a
change of the table: what a later proof cites in place of unfolding a record update.
-/

namespace Sys2Proof.Machine

/-! ### The things of the ports -/

@[simp] theorem PerPort.get_set {α : Type} (v : PerPort α) (p q : Port) (a : α) :
    (v.set p a).get q = if q = p then a else v.get q := by
  cases p <;> cases q <;> rfl

@[simp] theorem PerPort.get_all {α : Type} (a : α) (p : Port) : (PerPort.all a).get p = a := by
  cases p <;> rfl

/-! ### The blocks of the state -/

@[simp] theorem State.setPending_pending (s : State) (v : List Instr) :
    (s.setPending v).pending = v := rfl
@[simp] theorem State.setPending_ports (s : State) (v : List Instr) :
    (s.setPending v).ports = s.ports := rfl
@[simp] theorem State.setPending_attn (s : State) (v : List Instr) :
    (s.setPending v).attn = s.attn := rfl
@[simp] theorem State.setPending_table (s : State) (v : List Instr) :
    (s.setPending v).table = s.table := rfl
@[simp] theorem State.setPending_staging (s : State) (v : List Instr) :
    (s.setPending v).staging = s.staging := rfl
@[simp] theorem State.setPending_pool (s : State) (v : List Instr) :
    (s.setPending v).pool = s.pool := rfl
@[simp] theorem State.setPending_holds (s : State) (v : List Instr) :
    (s.setPending v).holds = s.holds := rfl
@[simp] theorem State.setPending_ring (s : State) (v : List Instr) :
    (s.setPending v).ring = s.ring := rfl
@[simp] theorem State.setPending_offline (s : State) (v : List Instr) :
    (s.setPending v).offline = s.offline := rfl
@[simp] theorem State.setPending_totals (s : State) (v : List Instr) :
    (s.setPending v).totals = s.totals := rfl
@[simp] theorem State.setPending_floor (s : State) (v : List Instr) :
    (s.setPending v).floor = s.floor := rfl
@[simp] theorem State.setPending_uplink (s : State) (v : List Instr) :
    (s.setPending v).uplink = s.uplink := rfl
@[simp] theorem State.setPending_streams (s : State) (v : List Instr) :
    (s.setPending v).streams = s.streams := rfl
@[simp] theorem State.setPending_modes (s : State) (v : List Instr) :
    (s.setPending v).modes = s.modes := rfl

@[simp] theorem State.setPorts_pending (s : State) (v : PortUnit) :
    (s.setPorts v).pending = s.pending := rfl
@[simp] theorem State.setPorts_ports (s : State) (v : PortUnit) :
    (s.setPorts v).ports = v := rfl
@[simp] theorem State.setPorts_attn (s : State) (v : PortUnit) :
    (s.setPorts v).attn = s.attn := rfl
@[simp] theorem State.setPorts_table (s : State) (v : PortUnit) :
    (s.setPorts v).table = s.table := rfl
@[simp] theorem State.setPorts_staging (s : State) (v : PortUnit) :
    (s.setPorts v).staging = s.staging := rfl
@[simp] theorem State.setPorts_pool (s : State) (v : PortUnit) :
    (s.setPorts v).pool = s.pool := rfl
@[simp] theorem State.setPorts_holds (s : State) (v : PortUnit) :
    (s.setPorts v).holds = s.holds := rfl
@[simp] theorem State.setPorts_ring (s : State) (v : PortUnit) :
    (s.setPorts v).ring = s.ring := rfl
@[simp] theorem State.setPorts_offline (s : State) (v : PortUnit) :
    (s.setPorts v).offline = s.offline := rfl
@[simp] theorem State.setPorts_totals (s : State) (v : PortUnit) :
    (s.setPorts v).totals = s.totals := rfl
@[simp] theorem State.setPorts_floor (s : State) (v : PortUnit) :
    (s.setPorts v).floor = s.floor := rfl
@[simp] theorem State.setPorts_uplink (s : State) (v : PortUnit) :
    (s.setPorts v).uplink = s.uplink := rfl
@[simp] theorem State.setPorts_streams (s : State) (v : PortUnit) :
    (s.setPorts v).streams = s.streams := rfl
@[simp] theorem State.setPorts_modes (s : State) (v : PortUnit) :
    (s.setPorts v).modes = s.modes := rfl

@[simp] theorem State.setAttn_pending (s : State) (v : AttnUnit) :
    (s.setAttn v).pending = s.pending := rfl
@[simp] theorem State.setAttn_ports (s : State) (v : AttnUnit) :
    (s.setAttn v).ports = s.ports := rfl
@[simp] theorem State.setAttn_attn (s : State) (v : AttnUnit) :
    (s.setAttn v).attn = v := rfl
@[simp] theorem State.setAttn_table (s : State) (v : AttnUnit) :
    (s.setAttn v).table = s.table := rfl
@[simp] theorem State.setAttn_staging (s : State) (v : AttnUnit) :
    (s.setAttn v).staging = s.staging := rfl
@[simp] theorem State.setAttn_pool (s : State) (v : AttnUnit) :
    (s.setAttn v).pool = s.pool := rfl
@[simp] theorem State.setAttn_holds (s : State) (v : AttnUnit) :
    (s.setAttn v).holds = s.holds := rfl
@[simp] theorem State.setAttn_ring (s : State) (v : AttnUnit) :
    (s.setAttn v).ring = s.ring := rfl
@[simp] theorem State.setAttn_offline (s : State) (v : AttnUnit) :
    (s.setAttn v).offline = s.offline := rfl
@[simp] theorem State.setAttn_totals (s : State) (v : AttnUnit) :
    (s.setAttn v).totals = s.totals := rfl
@[simp] theorem State.setAttn_floor (s : State) (v : AttnUnit) :
    (s.setAttn v).floor = s.floor := rfl
@[simp] theorem State.setAttn_uplink (s : State) (v : AttnUnit) :
    (s.setAttn v).uplink = s.uplink := rfl
@[simp] theorem State.setAttn_streams (s : State) (v : AttnUnit) :
    (s.setAttn v).streams = s.streams := rfl
@[simp] theorem State.setAttn_modes (s : State) (v : AttnUnit) :
    (s.setAttn v).modes = s.modes := rfl

@[simp] theorem State.setTable_pending (s : State) (v : CheckTable) :
    (s.setTable v).pending = s.pending := rfl
@[simp] theorem State.setTable_ports (s : State) (v : CheckTable) :
    (s.setTable v).ports = s.ports := rfl
@[simp] theorem State.setTable_attn (s : State) (v : CheckTable) :
    (s.setTable v).attn = s.attn := rfl
@[simp] theorem State.setTable_table (s : State) (v : CheckTable) :
    (s.setTable v).table = v := rfl
@[simp] theorem State.setTable_staging (s : State) (v : CheckTable) :
    (s.setTable v).staging = s.staging := rfl
@[simp] theorem State.setTable_pool (s : State) (v : CheckTable) :
    (s.setTable v).pool = s.pool := rfl
@[simp] theorem State.setTable_holds (s : State) (v : CheckTable) :
    (s.setTable v).holds = s.holds := rfl
@[simp] theorem State.setTable_ring (s : State) (v : CheckTable) :
    (s.setTable v).ring = s.ring := rfl
@[simp] theorem State.setTable_offline (s : State) (v : CheckTable) :
    (s.setTable v).offline = s.offline := rfl
@[simp] theorem State.setTable_totals (s : State) (v : CheckTable) :
    (s.setTable v).totals = s.totals := rfl
@[simp] theorem State.setTable_floor (s : State) (v : CheckTable) :
    (s.setTable v).floor = s.floor := rfl
@[simp] theorem State.setTable_uplink (s : State) (v : CheckTable) :
    (s.setTable v).uplink = s.uplink := rfl
@[simp] theorem State.setTable_streams (s : State) (v : CheckTable) :
    (s.setTable v).streams = s.streams := rfl
@[simp] theorem State.setTable_modes (s : State) (v : CheckTable) :
    (s.setTable v).modes = s.modes := rfl

@[simp] theorem State.setStaging_pending (s : State) (v : StagingUnit) :
    (s.setStaging v).pending = s.pending := rfl
@[simp] theorem State.setStaging_ports (s : State) (v : StagingUnit) :
    (s.setStaging v).ports = s.ports := rfl
@[simp] theorem State.setStaging_attn (s : State) (v : StagingUnit) :
    (s.setStaging v).attn = s.attn := rfl
@[simp] theorem State.setStaging_table (s : State) (v : StagingUnit) :
    (s.setStaging v).table = s.table := rfl
@[simp] theorem State.setStaging_staging (s : State) (v : StagingUnit) :
    (s.setStaging v).staging = v := rfl
@[simp] theorem State.setStaging_pool (s : State) (v : StagingUnit) :
    (s.setStaging v).pool = s.pool := rfl
@[simp] theorem State.setStaging_holds (s : State) (v : StagingUnit) :
    (s.setStaging v).holds = s.holds := rfl
@[simp] theorem State.setStaging_ring (s : State) (v : StagingUnit) :
    (s.setStaging v).ring = s.ring := rfl
@[simp] theorem State.setStaging_offline (s : State) (v : StagingUnit) :
    (s.setStaging v).offline = s.offline := rfl
@[simp] theorem State.setStaging_totals (s : State) (v : StagingUnit) :
    (s.setStaging v).totals = s.totals := rfl
@[simp] theorem State.setStaging_floor (s : State) (v : StagingUnit) :
    (s.setStaging v).floor = s.floor := rfl
@[simp] theorem State.setStaging_uplink (s : State) (v : StagingUnit) :
    (s.setStaging v).uplink = s.uplink := rfl
@[simp] theorem State.setStaging_streams (s : State) (v : StagingUnit) :
    (s.setStaging v).streams = s.streams := rfl
@[simp] theorem State.setStaging_modes (s : State) (v : StagingUnit) :
    (s.setStaging v).modes = s.modes := rfl

@[simp] theorem State.setPool_pending (s : State) (v : ItemPool) :
    (s.setPool v).pending = s.pending := rfl
@[simp] theorem State.setPool_ports (s : State) (v : ItemPool) :
    (s.setPool v).ports = s.ports := rfl
@[simp] theorem State.setPool_attn (s : State) (v : ItemPool) :
    (s.setPool v).attn = s.attn := rfl
@[simp] theorem State.setPool_table (s : State) (v : ItemPool) :
    (s.setPool v).table = s.table := rfl
@[simp] theorem State.setPool_staging (s : State) (v : ItemPool) :
    (s.setPool v).staging = s.staging := rfl
@[simp] theorem State.setPool_pool (s : State) (v : ItemPool) :
    (s.setPool v).pool = v := rfl
@[simp] theorem State.setPool_holds (s : State) (v : ItemPool) :
    (s.setPool v).holds = s.holds := rfl
@[simp] theorem State.setPool_ring (s : State) (v : ItemPool) :
    (s.setPool v).ring = s.ring := rfl
@[simp] theorem State.setPool_offline (s : State) (v : ItemPool) :
    (s.setPool v).offline = s.offline := rfl
@[simp] theorem State.setPool_totals (s : State) (v : ItemPool) :
    (s.setPool v).totals = s.totals := rfl
@[simp] theorem State.setPool_floor (s : State) (v : ItemPool) :
    (s.setPool v).floor = s.floor := rfl
@[simp] theorem State.setPool_uplink (s : State) (v : ItemPool) :
    (s.setPool v).uplink = s.uplink := rfl
@[simp] theorem State.setPool_streams (s : State) (v : ItemPool) :
    (s.setPool v).streams = s.streams := rfl
@[simp] theorem State.setPool_modes (s : State) (v : ItemPool) :
    (s.setPool v).modes = s.modes := rfl

@[simp] theorem State.setHolds_pending (s : State) (v : HoldArbiter) :
    (s.setHolds v).pending = s.pending := rfl
@[simp] theorem State.setHolds_ports (s : State) (v : HoldArbiter) :
    (s.setHolds v).ports = s.ports := rfl
@[simp] theorem State.setHolds_attn (s : State) (v : HoldArbiter) :
    (s.setHolds v).attn = s.attn := rfl
@[simp] theorem State.setHolds_table (s : State) (v : HoldArbiter) :
    (s.setHolds v).table = s.table := rfl
@[simp] theorem State.setHolds_staging (s : State) (v : HoldArbiter) :
    (s.setHolds v).staging = s.staging := rfl
@[simp] theorem State.setHolds_pool (s : State) (v : HoldArbiter) :
    (s.setHolds v).pool = s.pool := rfl
@[simp] theorem State.setHolds_holds (s : State) (v : HoldArbiter) :
    (s.setHolds v).holds = v := rfl
@[simp] theorem State.setHolds_ring (s : State) (v : HoldArbiter) :
    (s.setHolds v).ring = s.ring := rfl
@[simp] theorem State.setHolds_offline (s : State) (v : HoldArbiter) :
    (s.setHolds v).offline = s.offline := rfl
@[simp] theorem State.setHolds_totals (s : State) (v : HoldArbiter) :
    (s.setHolds v).totals = s.totals := rfl
@[simp] theorem State.setHolds_floor (s : State) (v : HoldArbiter) :
    (s.setHolds v).floor = s.floor := rfl
@[simp] theorem State.setHolds_uplink (s : State) (v : HoldArbiter) :
    (s.setHolds v).uplink = s.uplink := rfl
@[simp] theorem State.setHolds_streams (s : State) (v : HoldArbiter) :
    (s.setHolds v).streams = s.streams := rfl
@[simp] theorem State.setHolds_modes (s : State) (v : HoldArbiter) :
    (s.setHolds v).modes = s.modes := rfl

@[simp] theorem State.setRing_pending (s : State) (v : TenderRing) :
    (s.setRing v).pending = s.pending := rfl
@[simp] theorem State.setRing_ports (s : State) (v : TenderRing) :
    (s.setRing v).ports = s.ports := rfl
@[simp] theorem State.setRing_attn (s : State) (v : TenderRing) :
    (s.setRing v).attn = s.attn := rfl
@[simp] theorem State.setRing_table (s : State) (v : TenderRing) :
    (s.setRing v).table = s.table := rfl
@[simp] theorem State.setRing_staging (s : State) (v : TenderRing) :
    (s.setRing v).staging = s.staging := rfl
@[simp] theorem State.setRing_pool (s : State) (v : TenderRing) :
    (s.setRing v).pool = s.pool := rfl
@[simp] theorem State.setRing_holds (s : State) (v : TenderRing) :
    (s.setRing v).holds = s.holds := rfl
@[simp] theorem State.setRing_ring (s : State) (v : TenderRing) :
    (s.setRing v).ring = v := rfl
@[simp] theorem State.setRing_offline (s : State) (v : TenderRing) :
    (s.setRing v).offline = s.offline := rfl
@[simp] theorem State.setRing_totals (s : State) (v : TenderRing) :
    (s.setRing v).totals = s.totals := rfl
@[simp] theorem State.setRing_floor (s : State) (v : TenderRing) :
    (s.setRing v).floor = s.floor := rfl
@[simp] theorem State.setRing_uplink (s : State) (v : TenderRing) :
    (s.setRing v).uplink = s.uplink := rfl
@[simp] theorem State.setRing_streams (s : State) (v : TenderRing) :
    (s.setRing v).streams = s.streams := rfl
@[simp] theorem State.setRing_modes (s : State) (v : TenderRing) :
    (s.setRing v).modes = s.modes := rfl

@[simp] theorem State.setOffline_pending (s : State) (v : OfflineUnit) :
    (s.setOffline v).pending = s.pending := rfl
@[simp] theorem State.setOffline_ports (s : State) (v : OfflineUnit) :
    (s.setOffline v).ports = s.ports := rfl
@[simp] theorem State.setOffline_attn (s : State) (v : OfflineUnit) :
    (s.setOffline v).attn = s.attn := rfl
@[simp] theorem State.setOffline_table (s : State) (v : OfflineUnit) :
    (s.setOffline v).table = s.table := rfl
@[simp] theorem State.setOffline_staging (s : State) (v : OfflineUnit) :
    (s.setOffline v).staging = s.staging := rfl
@[simp] theorem State.setOffline_pool (s : State) (v : OfflineUnit) :
    (s.setOffline v).pool = s.pool := rfl
@[simp] theorem State.setOffline_holds (s : State) (v : OfflineUnit) :
    (s.setOffline v).holds = s.holds := rfl
@[simp] theorem State.setOffline_ring (s : State) (v : OfflineUnit) :
    (s.setOffline v).ring = s.ring := rfl
@[simp] theorem State.setOffline_offline (s : State) (v : OfflineUnit) :
    (s.setOffline v).offline = v := rfl
@[simp] theorem State.setOffline_totals (s : State) (v : OfflineUnit) :
    (s.setOffline v).totals = s.totals := rfl
@[simp] theorem State.setOffline_floor (s : State) (v : OfflineUnit) :
    (s.setOffline v).floor = s.floor := rfl
@[simp] theorem State.setOffline_uplink (s : State) (v : OfflineUnit) :
    (s.setOffline v).uplink = s.uplink := rfl
@[simp] theorem State.setOffline_streams (s : State) (v : OfflineUnit) :
    (s.setOffline v).streams = s.streams := rfl
@[simp] theorem State.setOffline_modes (s : State) (v : OfflineUnit) :
    (s.setOffline v).modes = s.modes := rfl

@[simp] theorem State.setTotals_pending (s : State) (v : ShiftTotals) :
    (s.setTotals v).pending = s.pending := rfl
@[simp] theorem State.setTotals_ports (s : State) (v : ShiftTotals) :
    (s.setTotals v).ports = s.ports := rfl
@[simp] theorem State.setTotals_attn (s : State) (v : ShiftTotals) :
    (s.setTotals v).attn = s.attn := rfl
@[simp] theorem State.setTotals_table (s : State) (v : ShiftTotals) :
    (s.setTotals v).table = s.table := rfl
@[simp] theorem State.setTotals_staging (s : State) (v : ShiftTotals) :
    (s.setTotals v).staging = s.staging := rfl
@[simp] theorem State.setTotals_pool (s : State) (v : ShiftTotals) :
    (s.setTotals v).pool = s.pool := rfl
@[simp] theorem State.setTotals_holds (s : State) (v : ShiftTotals) :
    (s.setTotals v).holds = s.holds := rfl
@[simp] theorem State.setTotals_ring (s : State) (v : ShiftTotals) :
    (s.setTotals v).ring = s.ring := rfl
@[simp] theorem State.setTotals_offline (s : State) (v : ShiftTotals) :
    (s.setTotals v).offline = s.offline := rfl
@[simp] theorem State.setTotals_totals (s : State) (v : ShiftTotals) :
    (s.setTotals v).totals = v := rfl
@[simp] theorem State.setTotals_floor (s : State) (v : ShiftTotals) :
    (s.setTotals v).floor = s.floor := rfl
@[simp] theorem State.setTotals_uplink (s : State) (v : ShiftTotals) :
    (s.setTotals v).uplink = s.uplink := rfl
@[simp] theorem State.setTotals_streams (s : State) (v : ShiftTotals) :
    (s.setTotals v).streams = s.streams := rfl
@[simp] theorem State.setTotals_modes (s : State) (v : ShiftTotals) :
    (s.setTotals v).modes = s.modes := rfl

@[simp] theorem State.setFloor_pending (s : State) (v : FloorSync) :
    (s.setFloor v).pending = s.pending := rfl
@[simp] theorem State.setFloor_ports (s : State) (v : FloorSync) :
    (s.setFloor v).ports = s.ports := rfl
@[simp] theorem State.setFloor_attn (s : State) (v : FloorSync) :
    (s.setFloor v).attn = s.attn := rfl
@[simp] theorem State.setFloor_table (s : State) (v : FloorSync) :
    (s.setFloor v).table = s.table := rfl
@[simp] theorem State.setFloor_staging (s : State) (v : FloorSync) :
    (s.setFloor v).staging = s.staging := rfl
@[simp] theorem State.setFloor_pool (s : State) (v : FloorSync) :
    (s.setFloor v).pool = s.pool := rfl
@[simp] theorem State.setFloor_holds (s : State) (v : FloorSync) :
    (s.setFloor v).holds = s.holds := rfl
@[simp] theorem State.setFloor_ring (s : State) (v : FloorSync) :
    (s.setFloor v).ring = s.ring := rfl
@[simp] theorem State.setFloor_offline (s : State) (v : FloorSync) :
    (s.setFloor v).offline = s.offline := rfl
@[simp] theorem State.setFloor_totals (s : State) (v : FloorSync) :
    (s.setFloor v).totals = s.totals := rfl
@[simp] theorem State.setFloor_floor (s : State) (v : FloorSync) :
    (s.setFloor v).floor = v := rfl
@[simp] theorem State.setFloor_uplink (s : State) (v : FloorSync) :
    (s.setFloor v).uplink = s.uplink := rfl
@[simp] theorem State.setFloor_streams (s : State) (v : FloorSync) :
    (s.setFloor v).streams = s.streams := rfl
@[simp] theorem State.setFloor_modes (s : State) (v : FloorSync) :
    (s.setFloor v).modes = s.modes := rfl

@[simp] theorem State.setUplink_pending (s : State) (v : UplinkQueue) :
    (s.setUplink v).pending = s.pending := rfl
@[simp] theorem State.setUplink_ports (s : State) (v : UplinkQueue) :
    (s.setUplink v).ports = s.ports := rfl
@[simp] theorem State.setUplink_attn (s : State) (v : UplinkQueue) :
    (s.setUplink v).attn = s.attn := rfl
@[simp] theorem State.setUplink_table (s : State) (v : UplinkQueue) :
    (s.setUplink v).table = s.table := rfl
@[simp] theorem State.setUplink_staging (s : State) (v : UplinkQueue) :
    (s.setUplink v).staging = s.staging := rfl
@[simp] theorem State.setUplink_pool (s : State) (v : UplinkQueue) :
    (s.setUplink v).pool = s.pool := rfl
@[simp] theorem State.setUplink_holds (s : State) (v : UplinkQueue) :
    (s.setUplink v).holds = s.holds := rfl
@[simp] theorem State.setUplink_ring (s : State) (v : UplinkQueue) :
    (s.setUplink v).ring = s.ring := rfl
@[simp] theorem State.setUplink_offline (s : State) (v : UplinkQueue) :
    (s.setUplink v).offline = s.offline := rfl
@[simp] theorem State.setUplink_totals (s : State) (v : UplinkQueue) :
    (s.setUplink v).totals = s.totals := rfl
@[simp] theorem State.setUplink_floor (s : State) (v : UplinkQueue) :
    (s.setUplink v).floor = s.floor := rfl
@[simp] theorem State.setUplink_uplink (s : State) (v : UplinkQueue) :
    (s.setUplink v).uplink = v := rfl
@[simp] theorem State.setUplink_streams (s : State) (v : UplinkQueue) :
    (s.setUplink v).streams = s.streams := rfl
@[simp] theorem State.setUplink_modes (s : State) (v : UplinkQueue) :
    (s.setUplink v).modes = s.modes := rfl

@[simp] theorem State.setStreams_pending (s : State) (v : PerPort Channel) :
    (s.setStreams v).pending = s.pending := rfl
@[simp] theorem State.setStreams_ports (s : State) (v : PerPort Channel) :
    (s.setStreams v).ports = s.ports := rfl
@[simp] theorem State.setStreams_attn (s : State) (v : PerPort Channel) :
    (s.setStreams v).attn = s.attn := rfl
@[simp] theorem State.setStreams_table (s : State) (v : PerPort Channel) :
    (s.setStreams v).table = s.table := rfl
@[simp] theorem State.setStreams_staging (s : State) (v : PerPort Channel) :
    (s.setStreams v).staging = s.staging := rfl
@[simp] theorem State.setStreams_pool (s : State) (v : PerPort Channel) :
    (s.setStreams v).pool = s.pool := rfl
@[simp] theorem State.setStreams_holds (s : State) (v : PerPort Channel) :
    (s.setStreams v).holds = s.holds := rfl
@[simp] theorem State.setStreams_ring (s : State) (v : PerPort Channel) :
    (s.setStreams v).ring = s.ring := rfl
@[simp] theorem State.setStreams_offline (s : State) (v : PerPort Channel) :
    (s.setStreams v).offline = s.offline := rfl
@[simp] theorem State.setStreams_totals (s : State) (v : PerPort Channel) :
    (s.setStreams v).totals = s.totals := rfl
@[simp] theorem State.setStreams_floor (s : State) (v : PerPort Channel) :
    (s.setStreams v).floor = s.floor := rfl
@[simp] theorem State.setStreams_uplink (s : State) (v : PerPort Channel) :
    (s.setStreams v).uplink = s.uplink := rfl
@[simp] theorem State.setStreams_streams (s : State) (v : PerPort Channel) :
    (s.setStreams v).streams = v := rfl
@[simp] theorem State.setStreams_modes (s : State) (v : PerPort Channel) :
    (s.setStreams v).modes = s.modes := rfl

@[simp] theorem State.setModes_pending (s : State) (v : ModeController) :
    (s.setModes v).pending = s.pending := rfl
@[simp] theorem State.setModes_ports (s : State) (v : ModeController) :
    (s.setModes v).ports = s.ports := rfl
@[simp] theorem State.setModes_attn (s : State) (v : ModeController) :
    (s.setModes v).attn = s.attn := rfl
@[simp] theorem State.setModes_table (s : State) (v : ModeController) :
    (s.setModes v).table = s.table := rfl
@[simp] theorem State.setModes_staging (s : State) (v : ModeController) :
    (s.setModes v).staging = s.staging := rfl
@[simp] theorem State.setModes_pool (s : State) (v : ModeController) :
    (s.setModes v).pool = s.pool := rfl
@[simp] theorem State.setModes_holds (s : State) (v : ModeController) :
    (s.setModes v).holds = s.holds := rfl
@[simp] theorem State.setModes_ring (s : State) (v : ModeController) :
    (s.setModes v).ring = s.ring := rfl
@[simp] theorem State.setModes_offline (s : State) (v : ModeController) :
    (s.setModes v).offline = s.offline := rfl
@[simp] theorem State.setModes_totals (s : State) (v : ModeController) :
    (s.setModes v).totals = s.totals := rfl
@[simp] theorem State.setModes_floor (s : State) (v : ModeController) :
    (s.setModes v).floor = s.floor := rfl
@[simp] theorem State.setModes_uplink (s : State) (v : ModeController) :
    (s.setModes v).uplink = s.uplink := rfl
@[simp] theorem State.setModes_streams (s : State) (v : ModeController) :
    (s.setModes v).streams = s.streams := rfl
@[simp] theorem State.setModes_modes (s : State) (v : ModeController) :
    (s.setModes v).modes = v := rfl

/-! ### Entries -/

@[simp] theorem State.setPending_check (s : State) (v : List Instr) (i : Fin 64) :
    (s.setPending v).check i = s.check i := rfl
@[simp] theorem State.setPorts_check (s : State) (v : PortUnit) (i : Fin 64) :
    (s.setPorts v).check i = s.check i := rfl
@[simp] theorem State.setAttn_check (s : State) (v : AttnUnit) (i : Fin 64) :
    (s.setAttn v).check i = s.check i := rfl
@[simp] theorem State.setStaging_check (s : State) (v : StagingUnit) (i : Fin 64) :
    (s.setStaging v).check i = s.check i := rfl
@[simp] theorem State.setPool_check (s : State) (v : ItemPool) (i : Fin 64) :
    (s.setPool v).check i = s.check i := rfl
@[simp] theorem State.setHolds_check (s : State) (v : HoldArbiter) (i : Fin 64) :
    (s.setHolds v).check i = s.check i := rfl
@[simp] theorem State.setRing_check (s : State) (v : TenderRing) (i : Fin 64) :
    (s.setRing v).check i = s.check i := rfl
@[simp] theorem State.setOffline_check (s : State) (v : OfflineUnit) (i : Fin 64) :
    (s.setOffline v).check i = s.check i := rfl
@[simp] theorem State.setTotals_check (s : State) (v : ShiftTotals) (i : Fin 64) :
    (s.setTotals v).check i = s.check i := rfl
@[simp] theorem State.setFloor_check (s : State) (v : FloorSync) (i : Fin 64) :
    (s.setFloor v).check i = s.check i := rfl
@[simp] theorem State.setUplink_check (s : State) (v : UplinkQueue) (i : Fin 64) :
    (s.setUplink v).check i = s.check i := rfl
@[simp] theorem State.setStreams_check (s : State) (v : PerPort Channel) (i : Fin 64) :
    (s.setStreams v).check i = s.check i := rfl
@[simp] theorem State.setModes_check (s : State) (v : ModeController) (i : Fin 64) :
    (s.setModes v).check i = s.check i := rfl

/-- An entry after another is changed, or after it is. -/
@[simp] theorem State.check_putCheck (s : State) (i j : Fin 64) (c : Option Check) :
    (s.putCheck i c).check j = if j = i then c else s.check j := by
  simp only [State.check, State.putCheck, State.setTable_table, Vector.get_eq_getElem,
    Vector.getElem_set]
  by_cases h : j = i
  · simp [h]
  · have : (i : Nat) ≠ (j : Nat) := fun e => h (Fin.ext e.symm)
    simp [h, this]

/-- An entry after the check of one is changed, if it has one. -/
@[simp] theorem State.check_modCheck (s : State) (i j : Fin 64) (f : Check → Check) :
    (s.modCheck i f).check j = if j = i then (s.check i).map f else s.check j := by
  unfold State.modCheck
  split
  · next c h => simp [h]
  · next h => by_cases e : j = i <;> simp [e, h]

end Sys2Proof.Machine
end

