-- ==== Sys2Proof/Laws/Ops.lean ====
section
/-!
SUPPORT. What each shared operation of Machine/Ops.lean leaves unchanged, one lemma for each, and the
reading of a list of tests and of a named entry.
-/

namespace Sys2Proof.Machine

/-- What no step of a fold changes, the fold does not change. -/
theorem foldl_keeps {α β γ : Type} (f : β → α → β) (g : β → γ) (h : ∀ b a, g (f b a) = g b)
    (b : β) (l : List α) : g (l.foldl f b) = g b := by
  induction l generalizing b with
  | nil => rfl
  | cons a rest ih => rw [List.foldl_cons, ih, h]

/-- What each step of a fold keeps, the fold keeps. -/
theorem foldl_preserves {α β : Type} (f : β → α → β) (P : β → Prop) (h : ∀ b a, P b → P (f b a))
    (b : β) (l : List α) (hb : P b) : P (l.foldl f b) := by
  induction l generalizing b with
  | nil => exact hb
  | cons a rest ih => exact ih _ (h _ _ hb)

/-! ### Tests and names -/

/-- No test fails exactly when every test holds. -/
theorem firstFailure_eq_none_iff (tests : List (Bool × ReplyOutcome)) :
    firstFailure tests = none ↔ ∀ t ∈ tests, t.1 = true := by
  induction tests with
  | nil => simp [firstFailure]
  | cons t rest ih =>
    obtain ⟨b, o⟩ := t
    cases b <;> simp [firstFailure, ih]

@[simp] theorem firstFailure_nil : firstFailure [] = none := rfl

@[simp] theorem firstFailure_cons_true (o : ReplyOutcome) (rest : List (Bool × ReplyOutcome)) :
    firstFailure ((true, o) :: rest) = firstFailure rest := rfl

@[simp] theorem firstFailure_cons_false (o : ReplyOutcome) (rest : List (Bool × ReplyOutcome)) :
    firstFailure ((false, o) :: rest) = some o := rfl

/-- The entry a request names, exactly: index and key are in range, and the entry's key is the key. -/
theorem State.named_ok_iff (s : State) (index : Byte) (key : Half) (i : Fin 64) (c : Check) :
    s.named index key = .ok (i, c) ↔
      idx? index = some i ∧ keyNamed key = true ∧ s.check i = some c ∧ c.key = Key.ofWire key := by
  unfold State.named
  cases h : idx? index with
  | none => simp
  | some j =>
    by_cases hk : keyNamed key = true
    · cases hc : s.check j with
      | none =>
        constructor
        · simp [hk, hc]
        · rintro ⟨e, -, h', -⟩; simp_all
      | some d =>
        by_cases e : d.key = Key.ofWire key
        · simp only [hk, hc, e, if_true]
          constructor
          · intro h'; injection h' with h'; injection h' with a b; subst a; subst b; simp_all
          · rintro ⟨a, -, b, -⟩; injection a with a; subst a; rw [hc] at b; injection b with b; rw [b]
        · simp only [hk, hc, e, if_true, if_false]
          constructor
          · simp
          · rintro ⟨a, -, b, k⟩; injection a with a; subst a; rw [hc] at b; injection b with b
            subst b; exact absurd k e
    · simp [hk]

/-! ### What the operations leave unchanged -/

/-- `putCheck` changes no block but table. -/
@[simp] theorem State.putCheck_frame (s : State) (i : Fin 64) (c : Option Check) :
      (s.putCheck i c).pending = s.pending ∧ (s.putCheck i c).ports = s.ports ∧
      (s.putCheck i c).attn = s.attn ∧ (s.putCheck i c).staging = s.staging ∧
      (s.putCheck i c).pool = s.pool ∧ (s.putCheck i c).holds = s.holds ∧
      (s.putCheck i c).ring = s.ring ∧ (s.putCheck i c).offline = s.offline ∧
      (s.putCheck i c).totals = s.totals ∧ (s.putCheck i c).floor = s.floor ∧
      (s.putCheck i c).uplink = s.uplink ∧ (s.putCheck i c).streams = s.streams ∧
      (s.putCheck i c).modes = s.modes := by
  simp [State.putCheck]

/-- `modCheck` changes no block but table. -/
@[simp] theorem State.modCheck_frame (s : State) (i : Fin 64) (f : Check → Check) :
      (s.modCheck i f).pending = s.pending ∧ (s.modCheck i f).ports = s.ports ∧
      (s.modCheck i f).attn = s.attn ∧ (s.modCheck i f).staging = s.staging ∧
      (s.modCheck i f).pool = s.pool ∧ (s.modCheck i f).holds = s.holds ∧
      (s.modCheck i f).ring = s.ring ∧ (s.modCheck i f).offline = s.offline ∧
      (s.modCheck i f).totals = s.totals ∧ (s.modCheck i f).floor = s.floor ∧
      (s.modCheck i f).uplink = s.uplink ∧ (s.modCheck i f).streams = s.streams ∧
      (s.modCheck i f).modes = s.modes := by
  unfold State.modCheck
  (repeat' split) <;> simp

/-- `raise` changes no block but attn. -/
@[simp] theorem State.raise_frame (s : State) (p : Port) (c : Cause) :
      (s.raise p c).pending = s.pending ∧ (s.raise p c).ports = s.ports ∧
      (s.raise p c).table = s.table ∧ (s.raise p c).staging = s.staging ∧
      (s.raise p c).pool = s.pool ∧ (s.raise p c).holds = s.holds ∧ (s.raise p c).ring = s.ring ∧
      (s.raise p c).offline = s.offline ∧ (s.raise p c).totals = s.totals ∧
      (s.raise p c).floor = s.floor ∧ (s.raise p c).uplink = s.uplink ∧
      (s.raise p c).streams = s.streams ∧ (s.raise p c).modes = s.modes := by
  simp [State.raise]

/-- `lower` changes no block but attn. -/
@[simp] theorem State.lower_frame (s : State) (p : Port) (m : Half) :
      (s.lower p m).pending = s.pending ∧ (s.lower p m).ports = s.ports ∧
      (s.lower p m).table = s.table ∧ (s.lower p m).staging = s.staging ∧
      (s.lower p m).pool = s.pool ∧ (s.lower p m).holds = s.holds ∧ (s.lower p m).ring = s.ring ∧
      (s.lower p m).offline = s.offline ∧ (s.lower p m).totals = s.totals ∧
      (s.lower p m).floor = s.floor ∧ (s.lower p m).uplink = s.uplink ∧
      (s.lower p m).streams = s.streams ∧ (s.lower p m).modes = s.modes := by
  simp [State.lower]

/-- `freeItems` changes no block but pool. -/
@[simp] theorem State.freeItems_frame (s : State) (items : List Item) :
      (s.freeItems items).pending = s.pending ∧ (s.freeItems items).ports = s.ports ∧
      (s.freeItems items).attn = s.attn ∧ (s.freeItems items).table = s.table ∧
      (s.freeItems items).staging = s.staging ∧ (s.freeItems items).holds = s.holds ∧
      (s.freeItems items).ring = s.ring ∧ (s.freeItems items).offline = s.offline ∧
      (s.freeItems items).totals = s.totals ∧ (s.freeItems items).floor = s.floor ∧
      (s.freeItems items).uplink = s.uplink ∧ (s.freeItems items).streams = s.streams ∧
      (s.freeItems items).modes = s.modes := by
  simp [State.freeItems]

/-- `dropFree` changes no block but pool. -/
@[simp] theorem State.dropFree_frame (s : State) :
      (s.dropFree).pending = s.pending ∧ (s.dropFree).ports = s.ports ∧
      (s.dropFree).attn = s.attn ∧ (s.dropFree).table = s.table ∧
      (s.dropFree).staging = s.staging ∧ (s.dropFree).holds = s.holds ∧
      (s.dropFree).ring = s.ring ∧ (s.dropFree).offline = s.offline ∧
      (s.dropFree).totals = s.totals ∧ (s.dropFree).floor = s.floor ∧
      (s.dropFree).uplink = s.uplink ∧ (s.dropFree).streams = s.streams ∧
      (s.dropFree).modes = s.modes := by
  simp [State.dropFree]

/-- `discardImage` changes no block but table, pool. -/
@[simp] theorem State.discardImage_frame (s : State) (i : Fin 64) :
      (s.discardImage i).pending = s.pending ∧ (s.discardImage i).ports = s.ports ∧
      (s.discardImage i).attn = s.attn ∧ (s.discardImage i).staging = s.staging ∧
      (s.discardImage i).holds = s.holds ∧ (s.discardImage i).ring = s.ring ∧
      (s.discardImage i).offline = s.offline ∧ (s.discardImage i).totals = s.totals ∧
      (s.discardImage i).floor = s.floor ∧ (s.discardImage i).uplink = s.uplink ∧
      (s.discardImage i).streams = s.streams ∧ (s.discardImage i).modes = s.modes := by
  unfold State.discardImage
  (repeat' split) <;> simp

/-- `discardOlder` changes no block but table, pool. -/
@[simp] theorem State.discardOlder_frame (s : State) (i : Fin 64) (server : Nat) :
      (s.discardOlder i server).pending = s.pending ∧ (s.discardOlder i server).ports = s.ports ∧
      (s.discardOlder i server).attn = s.attn ∧ (s.discardOlder i server).staging = s.staging ∧
      (s.discardOlder i server).holds = s.holds ∧ (s.discardOlder i server).ring = s.ring ∧
      (s.discardOlder i server).offline = s.offline ∧
      (s.discardOlder i server).totals = s.totals ∧ (s.discardOlder i server).floor = s.floor ∧
      (s.discardOlder i server).uplink = s.uplink ∧
      (s.discardOlder i server).streams = s.streams ∧ (s.discardOlder i server).modes = s.modes := by
  unfold State.discardOlder
  (repeat' split) <;> simp

/-- `setChannel` changes no block but streams. -/
@[simp] theorem State.setChannel_frame (s : State) (p : Port) (c : Channel) :
      (s.setChannel p c).pending = s.pending ∧ (s.setChannel p c).ports = s.ports ∧
      (s.setChannel p c).attn = s.attn ∧ (s.setChannel p c).table = s.table ∧
      (s.setChannel p c).staging = s.staging ∧ (s.setChannel p c).pool = s.pool ∧
      (s.setChannel p c).holds = s.holds ∧ (s.setChannel p c).ring = s.ring ∧
      (s.setChannel p c).offline = s.offline ∧ (s.setChannel p c).totals = s.totals ∧
      (s.setChannel p c).floor = s.floor ∧ (s.setChannel p c).uplink = s.uplink ∧
      (s.setChannel p c).modes = s.modes := by
  simp [State.setChannel]

/-- `abortStream` changes no block but attn, streams. -/
@[simp] theorem State.abortStream_frame (s : State) (p : Port) (t : StreamTarget) (i : Fin 64) (r : AbortReason) :
      (s.abortStream p t i r).pending = s.pending ∧ (s.abortStream p t i r).ports = s.ports ∧
      (s.abortStream p t i r).table = s.table ∧ (s.abortStream p t i r).staging = s.staging ∧
      (s.abortStream p t i r).pool = s.pool ∧ (s.abortStream p t i r).holds = s.holds ∧
      (s.abortStream p t i r).ring = s.ring ∧ (s.abortStream p t i r).offline = s.offline ∧
      (s.abortStream p t i r).totals = s.totals ∧ (s.abortStream p t i r).floor = s.floor ∧
      (s.abortStream p t i r).uplink = s.uplink ∧ (s.abortStream p t i r).modes = s.modes := by
  unfold State.abortStream
  (repeat' split) <;> simp

/-- `abortReads` changes no block but attn, streams. -/
@[simp] theorem State.abortReads_frame (s : State) (i : Fin 64) (r : AbortReason) :
      (s.abortReads i r).pending = s.pending ∧ (s.abortReads i r).ports = s.ports ∧
      (s.abortReads i r).table = s.table ∧ (s.abortReads i r).staging = s.staging ∧
      (s.abortReads i r).pool = s.pool ∧ (s.abortReads i r).holds = s.holds ∧
      (s.abortReads i r).ring = s.ring ∧ (s.abortReads i r).offline = s.offline ∧
      (s.abortReads i r).totals = s.totals ∧ (s.abortReads i r).floor = s.floor ∧
      (s.abortReads i r).uplink = s.uplink ∧ (s.abortReads i r).modes = s.modes := by
  simp [State.abortReads]

/-- `abortWrite` changes no block but attn, streams. -/
@[simp] theorem State.abortWrite_frame (s : State) (p : Port) (i : Fin 64) (r : AbortReason) :
      (s.abortWrite p i r).pending = s.pending ∧ (s.abortWrite p i r).ports = s.ports ∧
      (s.abortWrite p i r).table = s.table ∧ (s.abortWrite p i r).staging = s.staging ∧
      (s.abortWrite p i r).pool = s.pool ∧ (s.abortWrite p i r).holds = s.holds ∧
      (s.abortWrite p i r).ring = s.ring ∧ (s.abortWrite p i r).offline = s.offline ∧
      (s.abortWrite p i r).totals = s.totals ∧ (s.abortWrite p i r).floor = s.floor ∧
      (s.abortWrite p i r).uplink = s.uplink ∧ (s.abortWrite p i r).modes = s.modes := by
  simp [State.abortWrite]

/-- `discardAssembly` changes no block but pool, floor. -/
@[simp] theorem State.discardAssembly_frame (s : State) :
      (s.discardAssembly).pending = s.pending ∧ (s.discardAssembly).ports = s.ports ∧
      (s.discardAssembly).attn = s.attn ∧ (s.discardAssembly).table = s.table ∧
      (s.discardAssembly).staging = s.staging ∧ (s.discardAssembly).holds = s.holds ∧
      (s.discardAssembly).ring = s.ring ∧ (s.discardAssembly).offline = s.offline ∧
      (s.discardAssembly).totals = s.totals ∧ (s.discardAssembly).uplink = s.uplink ∧
      (s.discardAssembly).streams = s.streams ∧ (s.discardAssembly).modes = s.modes := by
  unfold State.discardAssembly
  (repeat' split) <;> simp

/-- `closeChannel` changes no block but pool, floor, streams. -/
@[simp] theorem State.closeChannel_frame (s : State) (p : Port) :
      (s.closeChannel p).pending = s.pending ∧ (s.closeChannel p).ports = s.ports ∧
      (s.closeChannel p).attn = s.attn ∧ (s.closeChannel p).table = s.table ∧
      (s.closeChannel p).staging = s.staging ∧ (s.closeChannel p).holds = s.holds ∧
      (s.closeChannel p).ring = s.ring ∧ (s.closeChannel p).offline = s.offline ∧
      (s.closeChannel p).totals = s.totals ∧ (s.closeChannel p).uplink = s.uplink ∧
      (s.closeChannel p).modes = s.modes := by
  unfold State.closeChannel
  (repeat' split) <;> simp

/-- `appendRecord` changes no block but attn, table, uplink. -/
@[simp] theorem State.appendRecord_frame (s : State) (index : Option (Fin 64)) (key : Key) (body : RecordBody) :
      (s.appendRecord index key body).pending = s.pending ∧
      (s.appendRecord index key body).ports = s.ports ∧
      (s.appendRecord index key body).staging = s.staging ∧
      (s.appendRecord index key body).pool = s.pool ∧
      (s.appendRecord index key body).holds = s.holds ∧
      (s.appendRecord index key body).ring = s.ring ∧
      (s.appendRecord index key body).offline = s.offline ∧
      (s.appendRecord index key body).totals = s.totals ∧
      (s.appendRecord index key body).floor = s.floor ∧
      (s.appendRecord index key body).streams = s.streams ∧
      (s.appendRecord index key body).modes = s.modes := by
  unfold State.appendRecord
  (repeat' split) <;> simp

/-- `scheduleAt` changes no block but attn, table, uplink. -/
@[simp] theorem State.scheduleAt_frame (s : State) (i : Fin 64) :
      (s.scheduleAt i).pending = s.pending ∧ (s.scheduleAt i).ports = s.ports ∧
      (s.scheduleAt i).staging = s.staging ∧ (s.scheduleAt i).pool = s.pool ∧
      (s.scheduleAt i).holds = s.holds ∧ (s.scheduleAt i).ring = s.ring ∧
      (s.scheduleAt i).offline = s.offline ∧ (s.scheduleAt i).totals = s.totals ∧
      (s.scheduleAt i).floor = s.floor ∧ (s.scheduleAt i).streams = s.streams ∧
      (s.scheduleAt i).modes = s.modes := by
  unfold State.scheduleAt
  (repeat' split) <;> simp

/-- `scheduleDeltas` changes no block but attn, table, uplink. -/
@[simp] theorem State.scheduleDeltas_frame (s : State) :
      (s.scheduleDeltas).pending = s.pending ∧ (s.scheduleDeltas).ports = s.ports ∧
      (s.scheduleDeltas).staging = s.staging ∧ (s.scheduleDeltas).pool = s.pool ∧
      (s.scheduleDeltas).holds = s.holds ∧ (s.scheduleDeltas).ring = s.ring ∧
      (s.scheduleDeltas).offline = s.offline ∧ (s.scheduleDeltas).totals = s.totals ∧
      (s.scheduleDeltas).floor = s.floor ∧ (s.scheduleDeltas).streams = s.streams ∧
      (s.scheduleDeltas).modes = s.modes := by
  refine ⟨?_, ?_, ?_, ?_, ?_, ?_, ?_, ?_, ?_, ?_, ?_⟩ <;>
    exact foldl_keeps _ _ (fun t i => by simp) _ _

/-- `uncount` changes no block but table. -/
@[simp] theorem State.uncount_frame (s : State) (i : Fin 64) :
      (s.uncount i).pending = s.pending ∧ (s.uncount i).ports = s.ports ∧
      (s.uncount i).attn = s.attn ∧ (s.uncount i).staging = s.staging ∧
      (s.uncount i).pool = s.pool ∧ (s.uncount i).holds = s.holds ∧ (s.uncount i).ring = s.ring ∧
      (s.uncount i).offline = s.offline ∧ (s.uncount i).totals = s.totals ∧
      (s.uncount i).floor = s.floor ∧ (s.uncount i).uplink = s.uplink ∧
      (s.uncount i).streams = s.streams ∧ (s.uncount i).modes = s.modes := by
  simp [State.uncount]

/-- `unsend` changes no block but table, uplink. -/
@[simp] theorem State.unsend_frame (s : State) :
      (s.unsend).pending = s.pending ∧ (s.unsend).ports = s.ports ∧ (s.unsend).attn = s.attn ∧
      (s.unsend).staging = s.staging ∧ (s.unsend).pool = s.pool ∧ (s.unsend).holds = s.holds ∧
      (s.unsend).ring = s.ring ∧ (s.unsend).offline = s.offline ∧ (s.unsend).totals = s.totals ∧
      (s.unsend).floor = s.floor ∧ (s.unsend).streams = s.streams ∧ (s.unsend).modes = s.modes := by
  refine ⟨?_, ?_, ?_, ?_, ?_, ?_, ?_, ?_, ?_, ?_, ?_, ?_⟩ <;>
    exact (foldl_keeps _ _ (fun t i => by simp) _ _).trans (by simp)

/-- `loseLink` changes no block but table, floor, uplink. -/
@[simp] theorem State.loseLink_frame (s : State) :
      (s.loseLink).pending = s.pending ∧ (s.loseLink).ports = s.ports ∧
      (s.loseLink).attn = s.attn ∧ (s.loseLink).staging = s.staging ∧
      (s.loseLink).pool = s.pool ∧ (s.loseLink).holds = s.holds ∧ (s.loseLink).ring = s.ring ∧
      (s.loseLink).offline = s.offline ∧ (s.loseLink).totals = s.totals ∧
      (s.loseLink).streams = s.streams ∧ (s.loseLink).modes = s.modes := by
  simp [State.loseLink]

/-- `restartLease` changes no block but table. -/
@[simp] theorem State.restartLease_frame (s : State) (i : Fin 64) :
      (s.restartLease i).pending = s.pending ∧ (s.restartLease i).ports = s.ports ∧
      (s.restartLease i).attn = s.attn ∧ (s.restartLease i).staging = s.staging ∧
      (s.restartLease i).pool = s.pool ∧ (s.restartLease i).holds = s.holds ∧
      (s.restartLease i).ring = s.ring ∧ (s.restartLease i).offline = s.offline ∧
      (s.restartLease i).totals = s.totals ∧ (s.restartLease i).floor = s.floor ∧
      (s.restartLease i).uplink = s.uplink ∧ (s.restartLease i).streams = s.streams ∧
      (s.restartLease i).modes = s.modes := by
  simp [State.restartLease]

/-- `restartIfHolder` changes no block but table. -/
@[simp] theorem State.restartIfHolder_frame (s : State) (p : Port) (i : Fin 64) :
      (s.restartIfHolder p i).pending = s.pending ∧ (s.restartIfHolder p i).ports = s.ports ∧
      (s.restartIfHolder p i).attn = s.attn ∧ (s.restartIfHolder p i).staging = s.staging ∧
      (s.restartIfHolder p i).pool = s.pool ∧ (s.restartIfHolder p i).holds = s.holds ∧
      (s.restartIfHolder p i).ring = s.ring ∧ (s.restartIfHolder p i).offline = s.offline ∧
      (s.restartIfHolder p i).totals = s.totals ∧ (s.restartIfHolder p i).floor = s.floor ∧
      (s.restartIfHolder p i).uplink = s.uplink ∧ (s.restartIfHolder p i).streams = s.streams ∧
      (s.restartIfHolder p i).modes = s.modes := by
  unfold State.restartIfHolder
  (repeat' split) <;> simp

/-- `setCount` changes no block but holds. -/
@[simp] theorem State.setCount_frame (s : State) (p : Port) (n : Nat) :
      (s.setCount p n).pending = s.pending ∧ (s.setCount p n).ports = s.ports ∧
      (s.setCount p n).attn = s.attn ∧ (s.setCount p n).table = s.table ∧
      (s.setCount p n).staging = s.staging ∧ (s.setCount p n).pool = s.pool ∧
      (s.setCount p n).ring = s.ring ∧ (s.setCount p n).offline = s.offline ∧
      (s.setCount p n).totals = s.totals ∧ (s.setCount p n).floor = s.floor ∧
      (s.setCount p n).uplink = s.uplink ∧ (s.setCount p n).streams = s.streams ∧
      (s.setCount p n).modes = s.modes := by
  simp [State.setCount]

/-- `setWait` changes no block but holds. -/
@[simp] theorem State.setWait_frame (s : State) (p : Port) (i : Option (Fin 64)) :
      (s.setWait p i).pending = s.pending ∧ (s.setWait p i).ports = s.ports ∧
      (s.setWait p i).attn = s.attn ∧ (s.setWait p i).table = s.table ∧
      (s.setWait p i).staging = s.staging ∧ (s.setWait p i).pool = s.pool ∧
      (s.setWait p i).ring = s.ring ∧ (s.setWait p i).offline = s.offline ∧
      (s.setWait p i).totals = s.totals ∧ (s.setWait p i).floor = s.floor ∧
      (s.setWait p i).uplink = s.uplink ∧ (s.setWait p i).streams = s.streams ∧
      (s.setWait p i).modes = s.modes := by
  simp [State.setWait]

/-- `grantHold` changes no block but table, holds. -/
@[simp] theorem State.grantHold_frame (s : State) (p : Port) (i : Fin 64) :
      (s.grantHold p i).pending = s.pending ∧ (s.grantHold p i).ports = s.ports ∧
      (s.grantHold p i).attn = s.attn ∧ (s.grantHold p i).staging = s.staging ∧
      (s.grantHold p i).pool = s.pool ∧ (s.grantHold p i).ring = s.ring ∧
      (s.grantHold p i).offline = s.offline ∧ (s.grantHold p i).totals = s.totals ∧
      (s.grantHold p i).floor = s.floor ∧ (s.grantHold p i).uplink = s.uplink ∧
      (s.grantHold p i).streams = s.streams ∧ (s.grantHold p i).modes = s.modes := by
  simp [State.grantHold]

/-- `dropHold` changes no block but table, holds. -/
@[simp] theorem State.dropHold_frame (s : State) (i : Fin 64) :
      (s.dropHold i).pending = s.pending ∧ (s.dropHold i).ports = s.ports ∧
      (s.dropHold i).attn = s.attn ∧ (s.dropHold i).staging = s.staging ∧
      (s.dropHold i).pool = s.pool ∧ (s.dropHold i).ring = s.ring ∧
      (s.dropHold i).offline = s.offline ∧ (s.dropHold i).totals = s.totals ∧
      (s.dropHold i).floor = s.floor ∧ (s.dropHold i).uplink = s.uplink ∧
      (s.dropHold i).streams = s.streams ∧ (s.dropHold i).modes = s.modes := by
  unfold State.dropHold
  (repeat' split) <;> simp

/-- `endWait` changes no block but attn, holds. -/
@[simp] theorem State.endWait_frame (s : State) (p : Port) :
      (s.endWait p).pending = s.pending ∧ (s.endWait p).ports = s.ports ∧
      (s.endWait p).table = s.table ∧ (s.endWait p).staging = s.staging ∧
      (s.endWait p).pool = s.pool ∧ (s.endWait p).ring = s.ring ∧
      (s.endWait p).offline = s.offline ∧ (s.endWait p).totals = s.totals ∧
      (s.endWait p).floor = s.floor ∧ (s.endWait p).uplink = s.uplink ∧
      (s.endWait p).streams = s.streams ∧ (s.endWait p).modes = s.modes := by
  simp [State.endWait]

/-- `dismissWaiters` changes no block but attn, table, holds. -/
@[simp] theorem State.dismissWaiters_frame (s : State) (i : Fin 64) :
      (s.dismissWaiters i).pending = s.pending ∧ (s.dismissWaiters i).ports = s.ports ∧
      (s.dismissWaiters i).staging = s.staging ∧ (s.dismissWaiters i).pool = s.pool ∧
      (s.dismissWaiters i).ring = s.ring ∧ (s.dismissWaiters i).offline = s.offline ∧
      (s.dismissWaiters i).totals = s.totals ∧ (s.dismissWaiters i).floor = s.floor ∧
      (s.dismissWaiters i).uplink = s.uplink ∧ (s.dismissWaiters i).streams = s.streams ∧
      (s.dismissWaiters i).modes = s.modes := by
  unfold State.dismissWaiters
  split
  · simp only [State.modCheck_frame]
    refine ⟨?_, ?_, ?_, ?_, ?_, ?_, ?_, ?_, ?_, ?_, ?_⟩ <;>
      exact foldl_keeps _ _ (fun t p => by simp) _ _
  · simp

/-- `leaveList` changes no block but table, holds. -/
@[simp] theorem State.leaveList_frame (s : State) (p : Port) (i : Fin 64) :
      (s.leaveList p i).pending = s.pending ∧ (s.leaveList p i).ports = s.ports ∧
      (s.leaveList p i).attn = s.attn ∧ (s.leaveList p i).staging = s.staging ∧
      (s.leaveList p i).pool = s.pool ∧ (s.leaveList p i).ring = s.ring ∧
      (s.leaveList p i).offline = s.offline ∧ (s.leaveList p i).totals = s.totals ∧
      (s.leaveList p i).floor = s.floor ∧ (s.leaveList p i).uplink = s.uplink ∧
      (s.leaveList p i).streams = s.streams ∧ (s.leaveList p i).modes = s.modes := by
  simp [State.leaveList]

/-- `grantWaiters` changes no block but attn, table, holds. -/
@[simp] theorem State.grantWaiters_frame (i : Fin 64) (l : List Port) (s : State) :
      (State.grantWaiters i l s).pending = s.pending ∧
      (State.grantWaiters i l s).ports = s.ports ∧
      (State.grantWaiters i l s).staging = s.staging ∧
      (State.grantWaiters i l s).pool = s.pool ∧
      (State.grantWaiters i l s).ring = s.ring ∧
      (State.grantWaiters i l s).offline = s.offline ∧
      (State.grantWaiters i l s).totals = s.totals ∧
      (State.grantWaiters i l s).floor = s.floor ∧
      (State.grantWaiters i l s).uplink = s.uplink ∧
      (State.grantWaiters i l s).streams = s.streams ∧
      (State.grantWaiters i l s).modes = s.modes := by
  induction l generalizing s with
  | nil => simp [State.grantWaiters]
  | cons p rest ih =>
    unfold State.grantWaiters
    split <;> simp [ih]

/-- `freeEntry` changes no block but attn, table, pool, holds, streams. -/
@[simp] theorem State.freeEntry_frame (s : State) (i : Fin 64) :
      (s.freeEntry i).pending = s.pending ∧ (s.freeEntry i).ports = s.ports ∧
      (s.freeEntry i).staging = s.staging ∧ (s.freeEntry i).ring = s.ring ∧
      (s.freeEntry i).offline = s.offline ∧ (s.freeEntry i).totals = s.totals ∧
      (s.freeEntry i).floor = s.floor ∧ (s.freeEntry i).uplink = s.uplink ∧
      (s.freeEntry i).modes = s.modes := by
  unfold State.freeEntry
  (repeat' split) <;> simp

/-- `evict` changes no block but attn, table, pool, streams. -/
@[simp] theorem State.evict_frame (s : State) (i : Fin 64) :
      (s.evict i).pending = s.pending ∧ (s.evict i).ports = s.ports ∧
      (s.evict i).staging = s.staging ∧ (s.evict i).holds = s.holds ∧ (s.evict i).ring = s.ring ∧
      (s.evict i).offline = s.offline ∧ (s.evict i).totals = s.totals ∧
      (s.evict i).floor = s.floor ∧ (s.evict i).uplink = s.uplink ∧ (s.evict i).modes = s.modes := by
  unfold State.evict
  (repeat' split) <;> simp

/-- `cancelPosted` changes no block but table, ring. -/
@[simp] theorem State.cancelPosted_frame (s : State) (i : Fin 64) :
      (s.cancelPosted i).pending = s.pending ∧ (s.cancelPosted i).ports = s.ports ∧
      (s.cancelPosted i).attn = s.attn ∧ (s.cancelPosted i).staging = s.staging ∧
      (s.cancelPosted i).pool = s.pool ∧ (s.cancelPosted i).holds = s.holds ∧
      (s.cancelPosted i).offline = s.offline ∧ (s.cancelPosted i).totals = s.totals ∧
      (s.cancelPosted i).floor = s.floor ∧ (s.cancelPosted i).uplink = s.uplink ∧
      (s.cancelPosted i).streams = s.streams ∧ (s.cancelPosted i).modes = s.modes := by
  simp [State.cancelPosted]

/-- `enterConflict` changes no block but attn, table, ring. -/
@[simp] theorem State.enterConflict_frame (s : State) (i : Fin 64) (kind : ConflictKind) :
      (s.enterConflict i kind).pending = s.pending ∧ (s.enterConflict i kind).ports = s.ports ∧
      (s.enterConflict i kind).staging = s.staging ∧ (s.enterConflict i kind).pool = s.pool ∧
      (s.enterConflict i kind).holds = s.holds ∧ (s.enterConflict i kind).offline = s.offline ∧
      (s.enterConflict i kind).totals = s.totals ∧ (s.enterConflict i kind).floor = s.floor ∧
      (s.enterConflict i kind).uplink = s.uplink ∧ (s.enterConflict i kind).streams = s.streams ∧
      (s.enterConflict i kind).modes = s.modes := by
  simp [State.enterConflict]

/-- `settleImage` changes no block but attn, table, ring. -/
@[simp] theorem State.settleImage_frame (s : State) (i : Fin 64) :
      (s.settleImage i).pending = s.pending ∧ (s.settleImage i).ports = s.ports ∧
      (s.settleImage i).staging = s.staging ∧ (s.settleImage i).pool = s.pool ∧
      (s.settleImage i).holds = s.holds ∧ (s.settleImage i).offline = s.offline ∧
      (s.settleImage i).totals = s.totals ∧ (s.settleImage i).floor = s.floor ∧
      (s.settleImage i).uplink = s.uplink ∧ (s.settleImage i).streams = s.streams ∧
      (s.settleImage i).modes = s.modes := by
  unfold State.settleImage
  (repeat' split) <;> simp

/-- `applyImage` changes no block but attn, table, pool, ring, streams. -/
@[simp] theorem State.applyImage_frame (s : State) (i : Fin 64) (server owner covers seats : Nat) (items : List Item) :
      (s.applyImage i server owner covers seats items).pending = s.pending ∧
      (s.applyImage i server owner covers seats items).ports = s.ports ∧
      (s.applyImage i server owner covers seats items).staging = s.staging ∧
      (s.applyImage i server owner covers seats items).holds = s.holds ∧
      (s.applyImage i server owner covers seats items).offline = s.offline ∧
      (s.applyImage i server owner covers seats items).totals = s.totals ∧
      (s.applyImage i server owner covers seats items).floor = s.floor ∧
      (s.applyImage i server owner covers seats items).uplink = s.uplink ∧
      (s.applyImage i server owner covers seats items).modes = s.modes := by
  unfold State.applyImage
  (repeat' split) <;> simp

/-- `setServer` changes no block but table. -/
@[simp] theorem State.setServer_frame (s : State) (i : Fin 64) (server : Nat) :
      (s.setServer i server).pending = s.pending ∧ (s.setServer i server).ports = s.ports ∧
      (s.setServer i server).attn = s.attn ∧ (s.setServer i server).staging = s.staging ∧
      (s.setServer i server).pool = s.pool ∧ (s.setServer i server).holds = s.holds ∧
      (s.setServer i server).ring = s.ring ∧ (s.setServer i server).offline = s.offline ∧
      (s.setServer i server).totals = s.totals ∧ (s.setServer i server).floor = s.floor ∧
      (s.setServer i server).uplink = s.uplink ∧ (s.setServer i server).streams = s.streams ∧
      (s.setServer i server).modes = s.modes := by
  simp [State.setServer]

/-- `applyRetire` changes no block but attn, table, pool, holds, ring, streams. -/
@[simp] theorem State.applyRetire_frame (s : State) (i : Fin 64) (server : Nat) :
      (s.applyRetire i server).pending = s.pending ∧ (s.applyRetire i server).ports = s.ports ∧
      (s.applyRetire i server).staging = s.staging ∧
      (s.applyRetire i server).offline = s.offline ∧ (s.applyRetire i server).totals = s.totals ∧
      (s.applyRetire i server).floor = s.floor ∧ (s.applyRetire i server).uplink = s.uplink ∧
      (s.applyRetire i server).modes = s.modes := by
  unfold State.applyRetire
  dsimp only
  (repeat' split) <;> simp

/-- `deferImage` changes no block but table, pool. -/
@[simp] theorem State.deferImage_frame (s : State) (i : Fin 64) (g : PendingImage) :
      (s.deferImage i g).pending = s.pending ∧ (s.deferImage i g).ports = s.ports ∧
      (s.deferImage i g).attn = s.attn ∧ (s.deferImage i g).staging = s.staging ∧
      (s.deferImage i g).holds = s.holds ∧ (s.deferImage i g).ring = s.ring ∧
      (s.deferImage i g).offline = s.offline ∧ (s.deferImage i g).totals = s.totals ∧
      (s.deferImage i g).floor = s.floor ∧ (s.deferImage i g).uplink = s.uplink ∧
      (s.deferImage i g).streams = s.streams ∧ (s.deferImage i g).modes = s.modes := by
  simp [State.deferImage]

/-- `takePending` changes no block but table. -/
@[simp] theorem State.takePending_frame (s : State) (i : Fin 64) :
      (s.takePending i).pending = s.pending ∧ (s.takePending i).ports = s.ports ∧
      (s.takePending i).attn = s.attn ∧ (s.takePending i).staging = s.staging ∧
      (s.takePending i).pool = s.pool ∧ (s.takePending i).holds = s.holds ∧
      (s.takePending i).ring = s.ring ∧ (s.takePending i).offline = s.offline ∧
      (s.takePending i).totals = s.totals ∧ (s.takePending i).floor = s.floor ∧
      (s.takePending i).uplink = s.uplink ∧ (s.takePending i).streams = s.streams ∧
      (s.takePending i).modes = s.modes := by
  simp [State.takePending]

/-- `tryPending` changes no block but attn, table, pool, holds, ring, streams. -/
@[simp] theorem State.tryPending_frame (s : State) (i : Fin 64) :
      (s.tryPending i).pending = s.pending ∧ (s.tryPending i).ports = s.ports ∧
      (s.tryPending i).staging = s.staging ∧ (s.tryPending i).offline = s.offline ∧
      (s.tryPending i).totals = s.totals ∧ (s.tryPending i).floor = s.floor ∧
      (s.tryPending i).uplink = s.uplink ∧ (s.tryPending i).modes = s.modes := by
  unfold State.tryPending
  (repeat' split) <;> simp

/-- `endOfHold` changes no block but attn, table, pool, holds, ring, uplink, streams. -/
@[simp] theorem State.endOfHold_frame (s : State) (i : Fin 64) :
      (s.endOfHold i).pending = s.pending ∧ (s.endOfHold i).ports = s.ports ∧
      (s.endOfHold i).staging = s.staging ∧ (s.endOfHold i).offline = s.offline ∧
      (s.endOfHold i).totals = s.totals ∧ (s.endOfHold i).floor = s.floor ∧
      (s.endOfHold i).modes = s.modes := by
  unfold State.endOfHold
  dsimp only
  (repeat' split) <;> simp

/-- `setTender` changes no block but ring. -/
@[simp] theorem State.setTender_frame (s : State) (k : Nat) (t : Tender) :
      (s.setTender k t).pending = s.pending ∧ (s.setTender k t).ports = s.ports ∧
      (s.setTender k t).attn = s.attn ∧ (s.setTender k t).table = s.table ∧
      (s.setTender k t).staging = s.staging ∧ (s.setTender k t).pool = s.pool ∧
      (s.setTender k t).holds = s.holds ∧ (s.setTender k t).offline = s.offline ∧
      (s.setTender k t).totals = s.totals ∧ (s.setTender k t).floor = s.floor ∧
      (s.setTender k t).uplink = s.uplink ∧ (s.setTender k t).streams = s.streams ∧
      (s.setTender k t).modes = s.modes := by
  simp [State.setTender]

/-- `countTotals` changes no block but totals. -/
@[simp] theorem State.countTotals_frame (s : State) (f : Totals → Totals) :
      (s.countTotals f).pending = s.pending ∧ (s.countTotals f).ports = s.ports ∧
      (s.countTotals f).attn = s.attn ∧ (s.countTotals f).table = s.table ∧
      (s.countTotals f).staging = s.staging ∧ (s.countTotals f).pool = s.pool ∧
      (s.countTotals f).holds = s.holds ∧ (s.countTotals f).ring = s.ring ∧
      (s.countTotals f).offline = s.offline ∧ (s.countTotals f).floor = s.floor ∧
      (s.countTotals f).uplink = s.uplink ∧ (s.countTotals f).streams = s.streams ∧
      (s.countTotals f).modes = s.modes := by
  simp [State.countTotals]

/-- `timeOutTaken` changes no block but attn, table, ring, totals. -/
@[simp] theorem State.timeOutTaken_frame (s : State) (expired : Bool) :
      (s.timeOutTaken expired).pending = s.pending ∧ (s.timeOutTaken expired).ports = s.ports ∧
      (s.timeOutTaken expired).staging = s.staging ∧ (s.timeOutTaken expired).pool = s.pool ∧
      (s.timeOutTaken expired).holds = s.holds ∧ (s.timeOutTaken expired).offline = s.offline ∧
      (s.timeOutTaken expired).floor = s.floor ∧ (s.timeOutTaken expired).uplink = s.uplink ∧
      (s.timeOutTaken expired).streams = s.streams ∧ (s.timeOutTaken expired).modes = s.modes := by
  unfold State.timeOutTaken
  (repeat' split) <;> simp

/-- `advance` changes no block but table, ring, uplink, modes. -/
@[simp] theorem State.advance_frame (s : State) (dt : Nat) :
      (s.advance dt).pending = s.pending ∧ (s.advance dt).ports = s.ports ∧
      (s.advance dt).attn = s.attn ∧ (s.advance dt).staging = s.staging ∧
      (s.advance dt).pool = s.pool ∧ (s.advance dt).holds = s.holds ∧
      (s.advance dt).offline = s.offline ∧ (s.advance dt).totals = s.totals ∧
      (s.advance dt).floor = s.floor ∧ (s.advance dt).streams = s.streams := by
  unfold State.advance
  (repeat' split) <;> simp

end Sys2Proof.Machine
end

