-- ==== Sys2Proof/Laws/Exchange.lean ====
section
/-!
SUPPORT. The exchange: what taking one, placing its reply and the wake change, what a request answers,
and the principle by which a property that no block's rule breaks is kept by every request.
-/

namespace Sys2Proof.Machine

/-- `relamp` changes no block but uplink. -/
@[simp] theorem State.relamp_frame (s : State) :
      (s.relamp).pending = s.pending ∧ (s.relamp).ports = s.ports ∧ (s.relamp).attn = s.attn ∧
      (s.relamp).table = s.table ∧ (s.relamp).staging = s.staging ∧ (s.relamp).pool = s.pool ∧
      (s.relamp).holds = s.holds ∧ (s.relamp).ring = s.ring ∧ (s.relamp).offline = s.offline ∧
      (s.relamp).totals = s.totals ∧ (s.relamp).floor = s.floor ∧
      (s.relamp).streams = s.streams ∧ (s.relamp).modes = s.modes := by
  simp [State.relamp]

/-- `setMode` changes no block but modes. -/
@[simp] theorem State.setMode_frame (s : State) (m : Mode) :
      (s.setMode m).pending = s.pending ∧ (s.setMode m).ports = s.ports ∧
      (s.setMode m).attn = s.attn ∧ (s.setMode m).table = s.table ∧
      (s.setMode m).staging = s.staging ∧ (s.setMode m).pool = s.pool ∧
      (s.setMode m).holds = s.holds ∧ (s.setMode m).ring = s.ring ∧
      (s.setMode m).offline = s.offline ∧ (s.setMode m).totals = s.totals ∧
      (s.setMode m).floor = s.floor ∧ (s.setMode m).uplink = s.uplink ∧
      (s.setMode m).streams = s.streams := by
  simp [State.setMode]

/-- `wakeUp` changes no block but attn, modes. -/
@[simp] theorem State.wakeUp_frame (s : State) :
      (s.wakeUp).pending = s.pending ∧ (s.wakeUp).ports = s.ports ∧ (s.wakeUp).table = s.table ∧
      (s.wakeUp).staging = s.staging ∧ (s.wakeUp).pool = s.pool ∧ (s.wakeUp).holds = s.holds ∧
      (s.wakeUp).ring = s.ring ∧ (s.wakeUp).offline = s.offline ∧ (s.wakeUp).totals = s.totals ∧
      (s.wakeUp).floor = s.floor ∧ (s.wakeUp).uplink = s.uplink ∧ (s.wakeUp).streams = s.streams := by
  simp [State.wakeUp]

/-- `beginWake` changes no block but modes. -/
@[simp] theorem State.beginWake_frame (s : State) :
      (s.beginWake).pending = s.pending ∧ (s.beginWake).ports = s.ports ∧
      (s.beginWake).attn = s.attn ∧ (s.beginWake).table = s.table ∧
      (s.beginWake).staging = s.staging ∧ (s.beginWake).pool = s.pool ∧
      (s.beginWake).holds = s.holds ∧ (s.beginWake).ring = s.ring ∧
      (s.beginWake).offline = s.offline ∧ (s.beginWake).totals = s.totals ∧
      (s.beginWake).floor = s.floor ∧ (s.beginWake).uplink = s.uplink ∧
      (s.beginWake).streams = s.streams := by
  simp [State.beginWake]

/-- `afterExpiry` changes no block but attn, modes. -/
@[simp] theorem State.afterExpiry_frame (s : State) :
      (s.afterExpiry).pending = s.pending ∧ (s.afterExpiry).ports = s.ports ∧
      (s.afterExpiry).table = s.table ∧ (s.afterExpiry).staging = s.staging ∧
      (s.afterExpiry).pool = s.pool ∧ (s.afterExpiry).holds = s.holds ∧
      (s.afterExpiry).ring = s.ring ∧ (s.afterExpiry).offline = s.offline ∧
      (s.afterExpiry).totals = s.totals ∧ (s.afterExpiry).floor = s.floor ∧
      (s.afterExpiry).uplink = s.uplink ∧ (s.afterExpiry).streams = s.streams := by
  unfold State.afterExpiry
  split <;> simp

/-- `consume` changes no block but ports, attn. -/
@[simp] theorem State.consume_frame (s : State) (x : Exch) :
      (s.consume x).pending = s.pending ∧ (s.consume x).table = s.table ∧
      (s.consume x).staging = s.staging ∧ (s.consume x).pool = s.pool ∧
      (s.consume x).holds = s.holds ∧ (s.consume x).ring = s.ring ∧
      (s.consume x).offline = s.offline ∧ (s.consume x).totals = s.totals ∧
      (s.consume x).floor = s.floor ∧ (s.consume x).uplink = s.uplink ∧
      (s.consume x).streams = s.streams ∧ (s.consume x).modes = s.modes := by
  simp [State.consume]

/-- `placeReply` changes no block but ports, attn. -/
@[simp] theorem State.placeReply_frame (s : State) (p : Port) (r : Reply) (quiet : Bool) :
      (s.placeReply p r quiet).pending = s.pending ∧ (s.placeReply p r quiet).table = s.table ∧
      (s.placeReply p r quiet).staging = s.staging ∧ (s.placeReply p r quiet).pool = s.pool ∧
      (s.placeReply p r quiet).holds = s.holds ∧ (s.placeReply p r quiet).ring = s.ring ∧
      (s.placeReply p r quiet).offline = s.offline ∧ (s.placeReply p r quiet).totals = s.totals ∧
      (s.placeReply p r quiet).floor = s.floor ∧ (s.placeReply p r quiet).uplink = s.uplink ∧
      (s.placeReply p r quiet).streams = s.streams ∧ (s.placeReply p r quiet).modes = s.modes := by
  unfold State.placeReply
  dsimp only
  split <;> simp

/-- The lamp's re-evaluation changes the lamp alone, to the pattern its inputs give. -/
theorem State.relamp_uplink (s : State) :
    s.relamp.uplink =
      { s.uplink with
        lamp := s.uplink.lamp.show
          (lampPattern s.modes.mode s.offline.exposureCap s.offline.exposure s.commitments
            s.floor.link s.uplink.records.length) } := rfl

/-- A lamp shown a pattern has it. -/
@[simp] theorem Lamp.show_pattern (l : Lamp) (p : Pattern) : (l.show p).pattern = p := by
  unfold Lamp.show; split <;> simp_all

/-- Tests that all hold let a request through. -/
theorem State.tested_of_all (s : State) (tests : List (Bool × ReplyOutcome)) (k : Ans)
    (h : ∀ t ∈ tests, t.1 = true) : s.tested tests k = k := by
  unfold State.tested
  rw [(firstFailure_eq_none_iff tests).2 h]

/-- A test that fails refuses a request, which then leaves the state as it was; otherwise the request
goes on. -/
theorem State.tested_state (s : State) (tests : List (Bool × ReplyOutcome)) (k : Ans) :
    (s.tested tests k).state = s ∨ s.tested tests k = k := by
  unfold State.tested
  split
  · exact .inl rfl
  · exact .inr rfl

/-- A request that names an entry goes on with it. -/
theorem State.onNamed_of_named (s : State) (index : Byte) (key : Half) (k : Fin 64 → Check → Ans)
    (i : Fin 64) (c : Check) (h : s.named index key = .ok (i, c)) :
    s.onNamed index key k = k i c := by
  simp [State.onNamed, h]

/-- An exchange that was in progress at a cold reset is not taken (R170). -/
@[simp] theorem State.enter_of_cut (s : State) (x : Exch) (h : x.cut = true) : s.enter x = none := by
  simp [State.enter, h]

/-- How an exchange is taken (R171, R180, R184, R186). -/
theorem State.enter_cases (s : State) (x : Exch) (u : State) (h : s.enter x = some u) :
    s.modes.resetHeld = false ∧
      (u = s.consume x ∨ (s.modes.mode = .doze ∧ u = s.wakeUp.consume x) ∨
        (s.modes.mode = .sleep ∧ s.modes.wakeTimer = none ∧ u = s.beginWake.consume x)) := by
  unfold State.enter at h
  split at h
  · simp at h
  · next hr =>
    refine ⟨by simpa using (Bool.or_eq_false_iff.1 (by simpa using hr)).1, ?_⟩
    split at h
    · exact .inl (by simpa using h.symm)
    · next hm =>
      split at h
      · exact .inr (.inl ⟨hm, by simpa using h.symm⟩)
      · exact .inl (by simpa using h.symm)
    · next hm =>
      split at h
      · exact .inl (by simpa using h.symm)
      · next ht =>
        split at h
        · exact .inr (.inr ⟨hm, by simpa using ht, by simpa using h.symm⟩)
        · simp at h

/-- A property that taking an exchange, placing a reply, a wake and the lamp do not break, and that a
request's own rule keeps wherever the rule is reached, is kept by the request. -/
theorem request_keeps (P : State → Prop) (q : Req) (x : Exch) (extra : Nat) (rule : State → Ans)
    (ports : ∀ s v, P s → P (s.setPorts v)) (raise : ∀ s p c, P s → P (s.raise p c))
    (lower : ∀ s p m, P s → P (s.lower p m)) (lamp : ∀ s, P s → P s.relamp)
    (wake : ∀ s, s.modes.mode = .doze → P s → P (s.setMode .active))
    (begins : ∀ s, s.modes.mode = .sleep → P s → P s.beginWake)
    (own : ∀ s, q.permitted x.port = true → s.admission q = none → P s → P (rule s).state)
    (s t : State) (h : request q x extra rule s = .next t) (hs : P s) : P t := by
  have hconsume : ∀ s, P s → P (s.consume x) := fun s hs => lower _ _ _ (ports _ _ hs)
  have hplace : ∀ s p r b, P s → P (s.placeReply p r b) := by
    intro s p r b hs
    unfold State.placeReply
    dsimp only
    split
    · exact ports _ _ hs
    · exact raise _ _ _ (ports _ _ hs)
  have hrule : ∀ u, P u → P (giveReply q x (answerRequest q x extra rule u)) := by
    intro u hu
    unfold giveReply
    apply hplace
    unfold answerRequest
    split
    · exact hu
    · next hp =>
      cases ha : u.admission q with
      | some o => exact hu
      | none =>
        dsimp only
        split
        · exact hu
        · exact own u (by simpa using hp) ha hu
  simp only [request, Host.Outcome.next.injEq] at h
  subst h
  unfold State.exchange
  cases he : s.enter x with
  | none => exact hs
  | some u =>
    apply lamp
    apply hrule
    rcases (s.enter_cases x u he).2 with rfl | ⟨hm, rfl⟩ | ⟨hm, -, rfl⟩
    · exact hconsume _ hs
    · exact hconsume _ (raise _ _ _ (wake _ hm hs))
    · exact hconsume _ (begins _ hm hs)

/-- A request that is taken, permitted, admitted and long enough is answered by its own rule. -/
theorem request_of_admitted (q : Req) (x : Exch) (extra : Nat) (rule : State → Ans) (s u : State)
    (he : s.enter x = some u) (hp : q.permitted x.port = true) (ha : u.admission q = none)
    (hl : q.fieldBytes + extra ≤ x.len.toNat) :
    request q x extra rule s = .next ((giveReply q x (rule u)).relamp) := by
  simp [request, State.exchange, he, answerRequest, hp, ha, Nat.not_lt.2 hl]

end Sys2Proof.Machine
end

