-- ==== Sys2Proof/Laws/Effects.lean ====
section
/-!
SUPPORT. What a shared operation changes, in the words of the statements: an admitted request, causes
and masks, aborted streams, one entry of the Check Table, and equality of states field by field.
-/

namespace Sys2Proof.Machine

/-! ### Requests -/

/-- An admitted request whose own rule answers `o`, `body` and leaves `w`. -/
theorem request_of_served {q : Req} {x : Exch} {extra : Nat} {rule : State → Ans} {s u w : State}
    {o : ReplyOutcome} {body : List Byte} (he : s.enter x = some u) (hs : u.Serves q x extra)
    (hr : rule u = ⟨o, body, w⟩) :
    request q x extra rule s = .next (w.replied q x o body) := by
  rw [request_of_admitted q x extra rule s u he hs.1 hs.2.1 hs.2.2, hr]
  rfl

/-- `FailsFirst` says of a list of tests what `firstFailure` computes of it. -/
theorem failsFirst_iff (tests : List (Bool × ReplyOutcome)) (o : ReplyOutcome) :
    FailsFirst (tests.map (fun t => (t.1 = true, t.2))) o ↔ firstFailure tests = some o := by
  induction tests with
  | nil => simp [FailsFirst, firstFailure]
  | cons t rest ih =>
    obtain ⟨passes, refusal⟩ := t
    cases passes
    · simpa [FailsFirst, firstFailure] using eq_comm
    · simpa [FailsFirst, firstFailure] using ih

/-- A request whose own tests refuse it changes nothing. -/
theorem State.tested_of_firstFailure {u : State} {tests : List (Bool × ReplyOutcome)}
    {o : ReplyOutcome} (k : Ans) (h : firstFailure tests = some o) :
    u.tested tests k = u.refuse o := by
  simp [State.tested, h]

/-! ### Tests -/

/-- One test more before tests that refuse alike wherever it passes. -/
theorem failsFirst_cons {p : Prop} {b : Bool} {r o : ReplyOutcome} {ps : List (Prop × ReplyOutcome)}
    {bs : List (Bool × ReplyOutcome)} (h : p ↔ b = true)
    (hr : b = true → (FailsFirst ps o ↔ firstFailure bs = some o)) :
    FailsFirst ((p, r) :: ps) o ↔ firstFailure ((b, r) :: bs) = some o := by
  cases b
  · simp [FailsFirst, firstFailure, h, eq_comm]
  · simp [FailsFirst, firstFailure, h, hr rfl]

/-- No test refuses nothing. -/
theorem failsFirst_nil (o : ReplyOutcome) : FailsFirst [] o ↔ firstFailure [] = some o := by
  simp [FailsFirst, firstFailure]

/-- OPEN, TENDERING or SETTLED, as the meanings test it. -/
theorem CheckState.live_iff (st : CheckState) : st.Live ↔ st.editable = true := by
  cases st <;> simp [CheckState.editable, CheckState.Live]

/-- An item's ranges, as the meanings test them. -/
theorem inRange_iff (w : ItemWire) (seats : Nat) : InRange w seats ↔ w.fieldsOk seats = true := by
  simp [InRange, ItemWire.fieldsOk, modifierOk, ItemWire.seat, ItemWire.amount, Item.line,
    ItemWire.item, Config.maxAmount]
  constructor <;> intro h <;> simp_all

/-- No plan of basis FIXED, as the meanings test it. -/
theorem Check.not_splitFixed_iff (c : Check) :
    (∀ p ∈ c.plan, p.basis ≠ .fixed) ↔ (!c.splitFixed) = true := by
  unfold Check.splitFixed
  cases c.plan <;> simp

/-- No share that underruns, as the meanings test it. -/
theorem noUnderrun_iff (c : Check) : NoUnderrun c.plan ↔ (!c.planUnderruns) = true := by
  unfold Check.planUnderruns NoUnderrun
  cases c.plan <;> simp [SplitPlan.underrun]

/-- The tests of ITEM_ADD refuse as those of its meaning do. -/
theorem addTests_iff (u : State) (c : Check) (w : ItemWire) (o : ReplyOutcome) :
    FailsFirst (addTests u c w) o ↔ firstFailure (u.itemTests c w) = some o := by
  refine failsFirst_cons decide_eq_true_iff.symm fun _ =>
    failsFirst_cons decide_eq_true_iff.symm fun _ => failsFirst_cons c.state.live_iff fun _ => failsFirst_cons (inRange_iff w c.seats) fun _ =>
    failsFirst_cons decide_eq_true_iff.symm fun _ => failsFirst_cons decide_eq_true_iff.symm fun _ =>
    failsFirst_cons c.not_splitFixed_iff fun _ =>
    failsFirst_cons
      (noUnderrun_iff (c.withItem (w.item 0 c.nextSerial .live .localAdd) u.modes.taxRate)) fun _ =>
    failsFirst_cons (by simp) fun _ => failsFirst_nil o

/-- A serial is above the highest of a chain where it is above each. -/
theorem highestSerial_lt (items : List Item) (n : Nat) (h : 0 < n) :
    highestSerial items < n ↔ ∀ it ∈ items, it.serial < n := by
  have key : ∀ (l : List Nat) (m : Nat), l.foldl max m < n ↔ m < n ∧ ∀ k ∈ l, k < n := by
    intro l
    induction l with
    | nil => simp
    | cons k l ih => intro m; simp [ih, and_assoc]
  simp [highestSerial, key, h]

/-- The tests of an item of the assembly refuse as those of its meaning do. -/
theorem joinTests_iff (u : State) (a : Assembly) (w : ItemWire) (o : ReplyOutcome) :
    FailsFirst (joinTests u a w) o ↔ firstFailure (imageItemTests w a u.pool.free) = some o := by
  refine failsFirst_cons ?_ fun _ => failsFirst_cons ?_ fun _ => failsFirst_cons (by simp) fun _ =>
    failsFirst_nil o
  · rw [inRange_iff]
    have := highestSerial_lt a.items w.serial.toNat
    simp only [Bool.and_eq_true, decide_eq_true_eq]
    constructor
    · rintro ⟨h1, h2, h3⟩
      exact ⟨h1, h2, (this h2).2 h3⟩
    · rintro ⟨h1, h2, h3⟩
      exact ⟨h1, h2, (this h2).1 h3⟩
  · rw [decide_eq_true_iff]
    by_cases h : w.marks.getLsbD 4 = true <;> simp only [ItemWire.status, h] <;>
      simp [ItemWire.amount, Item.line, ItemWire.item, Config.maxAmount, liveSum, liveLines]

/-- The tests of TENDER_POST behind its fields refuse as those of its meaning do. -/
theorem postTests_iff (u : State) (c : Check) (share base : Nat) (o : ReplyOutcome) (fields : Prop)
    (h : fields) :
    FailsFirst (postTests u c share base fields) o ↔
      firstFailure (u.postTests c share base) = some o := by
  have h0 : FailsFirst (postTests u c share base fields) o ↔
      FailsFirst (postTests u c share base fields).tail o := by
    simp [postTests, FailsFirst, h]
  rw [h0]
  refine failsFirst_cons decide_eq_true_iff.symm fun _ => failsFirst_cons c.state.live_iff fun _ =>
    failsFirst_cons ?_ fun h5 => failsFirst_cons ?_ fun _ =>
      failsFirst_cons decide_eq_true_iff.symm fun _ => failsFirst_cons ?_ fun _ => failsFirst_nil o
  · unfold Check.shareFits
    cases c.plan <;> simp
  · unfold Check.shareFits at h5
    unfold Check.owes Check.shareOwes
    cases hp : c.plan with
    | none => simp
    | some p =>
      rw [hp] at h5
      simp only [decide_eq_true_eq] at h5
      have : share ≠ 0 := by omega
      cases hh : p.shares[share - 1]? <;> simp [this, hh]
  · exact decide_eq_true_iff.symm
/-! ### Named entries -/

/-- What `Names` says is what `named` finds. -/
theorem State.named_of_names {u : State} {index : Byte} {key : Half} {i : Fin 64} {c : Check}
    (h : u.Names index key i c) : u.named index key = .ok (i, c) := by
  obtain ⟨h1, h2, h3, h4⟩ := h
  have e : idx? index = some i := by
    unfold idx?
    rw [dif_pos (by omega)]
    congr 1
    exact Fin.ext h1
  simp only [State.named, e, keyNamed, h3, h4]
  rw [if_pos (by simpa using h2)]
  simp

/-- A request about an entry goes on with the entry that `Names` gives. -/
theorem State.onNamed_of_names {u : State} {index : Byte} {key : Half} {i : Fin 64} {c : Check}
    {k : Fin 64 → Check → Ans} (h : u.Names index key i c) : u.onNamed index key k = k i c :=
  State.onNamed_of_named _ _ _ _ _ _ (State.named_of_names h)

/-! ### Equality -/

/-- Two vectors over the ports are equal where they agree at each port. -/
theorem PerPort.ext_get {α : Type} {v w : PerPort α} (h : ∀ p, v.get p = w.get p) : v = w := by
  have h1 := h .console
  have h2 := h .tender
  have h3 := h .link
  cases v
  cases w
  simp_all [PerPort.get]

@[simp] theorem PerPort.set_get_self {α : Type} (v : PerPort α) (p : Port) :
    v.set p (v.get p) = v := by cases p <;> rfl

@[simp] theorem PerPort.set_set {α : Type} (v : PerPort α) (p : Port) (a b : α) :
    (v.set p a).set p b = v.set p b := by cases p <;> rfl

/-- Two states are equal where every field is. -/
theorem State.ext_fields {a b : State} (h1 : a.pending = b.pending) (h2 : a.ports = b.ports)
    (h3 : a.attn = b.attn) (h4 : a.table = b.table) (h5 : a.staging = b.staging)
    (h6 : a.pool = b.pool) (h7 : a.holds = b.holds) (h8 : a.ring = b.ring)
    (h9 : a.offline = b.offline) (h10 : a.totals = b.totals) (h11 : a.floor = b.floor)
    (h12 : a.uplink = b.uplink) (h13 : a.streams = b.streams) (h14 : a.modes = b.modes) :
    a = b := by
  cases a
  cases b
  simp_all

/-- Two Check Tables are equal where entries, cursor and pin floor are. -/
theorem CheckTable.ext_get {a b : CheckTable}
    (h : ∀ i : Fin 64, a.checks.get i = b.checks.get i) (h2 : a.cursor = b.cursor)
    (h3 : a.pinFloor = b.pinFloor) : a = b := by
  cases a
  cases b
  simp at *
  refine ⟨?_, h2, h3⟩
  ext i hi : 1
  exact h ⟨i, hi⟩

/-! ### Causes and streams -/

@[simp] theorem State.raise_flags_get (s : State) (p q : Port) (c : Cause) :
    (s.raise p c).attn.flags.get q =
      if q = p then s.attn.flags.get p ||| c.bit p else s.attn.flags.get q := by
  simp [State.raise]

@[simp] theorem State.raise_enables (s : State) (p : Port) (c : Cause) :
    (s.raise p c).attn.enables = s.attn.enables := rfl

theorem State.raise_attn (s : State) (p : Port) (c : Cause) :
    (s.raise p c).attn =
      { s.attn with flags := s.attn.flags.set p (s.attn.flags.get p ||| c.bit p) } := rfl

@[simp] theorem State.abortStream_enables (s : State) (p : Port) (t : StreamTarget) (i : Fin 64)
    (r : AbortReason) : (s.abortStream p t i r).attn.enables = s.attn.enables := by
  unfold State.abortStream
  (repeat' split) <;> rfl

/-- The channels after one is aborted. -/
theorem State.abortStream_streams_get (s : State) (p q : Port) (t : StreamTarget) (i : Fin 64)
    (r : AbortReason) :
    (s.abortStream p t i r).streams.get q =
      if q = p then (s.streams.get p).abortedOn t i r else s.streams.get q := by
  unfold State.abortStream Channel.abortedOn Channel.streamOn
  cases h : (s.streams.get p).running with
  | none =>
    simp
    intro hq
    rw [hq]
  | some st =>
    by_cases hh : st.target = t ∧ st.index = some i
    · have e : decide (st.target = t ∧ st.index = some i) = true := by simpa using hh
      simp only [hh, and_self, if_true, Option.filter_some, decide_true, State.raise_frame,
        State.setChannel, State.setStreams_streams, PerPort.get_set]
    · simp only [hh, if_false, Option.filter_some, decide_false]
      by_cases hq : q = p <;> simp [hq]

/-- The flags after a channel is aborted. -/
theorem State.abortStream_flags_get (s : State) (p q : Port) (t : StreamTarget) (i : Fin 64)
    (r : AbortReason) :
    (s.abortStream p t i r).attn.flags.get q =
      if q = p then
        withFlag (s.attn.flags.get p) ((s.streams.get p).streamOn t i).isSome .streamEnd p
      else s.attn.flags.get q := by
  unfold State.abortStream Channel.streamOn
  cases h : (s.streams.get p).running with
  | none => by_cases hq : q = p <;> simp [hq]
  | some st =>
    by_cases hh : st.target = t ∧ st.index = some i
    · by_cases hq : q = p <;> simp [hh, hq, State.setChannel]
    · simp only [hh, if_false, Option.filter_some, decide_false]
      by_cases hq : q = p <;> simp [hq]

/-- The channels after the read streams on an entry are aborted. -/
theorem State.abortReads_streams_get (s : State) (p : Port) (i : Fin 64) (r : AbortReason) :
    (s.abortReads i r).streams.get p = (s.streams.get p).abortedOn .itemsRead i r := by
  cases p <;> simp [State.abortReads, State.abortStream_streams_get]

/-- The flags after the read streams on an entry are aborted. -/
theorem State.abortReads_flags_get (s : State) (p : Port) (i : Fin 64) (r : AbortReason) :
    (s.abortReads i r).attn.flags.get p =
      withFlag (s.attn.flags.get p) ((s.streams.get p).streamOn .itemsRead i).isSome
        .streamEnd p := by
  cases p <;>
    simp [State.abortReads, State.abortStream_flags_get, State.abortStream_streams_get]

@[simp] theorem State.abortReads_enables (s : State) (i : Fin 64) (r : AbortReason) :
    (s.abortReads i r).attn.enables = s.attn.enables := by
  simp [State.abortReads]

/-- Aborting the read streams on an entry is what the statements call `ReadsAborted`. -/
theorem State.readsAborted_abortReads (s : State) (i : Fin 64) (r : AbortReason) :
    ReadsAborted s (s.abortReads i r) i r :=
  ⟨fun p => s.abortReads_streams_get p i r, fun p => s.abortReads_flags_get p i r,
    s.abortReads_enables i r⟩

/-! ### One entry -/

/-- Changing the check of an entry that has one. -/
theorem State.modCheck_of_check (s : State) (i : Fin 64) (f : Check → Check) (c : Check)
    (h : s.check i = some c) : s.modCheck i f = s.putCheck i (some (f c)) := by
  simp [State.modCheck, h]

theorem State.onlyEntry_putCheck (s : State) (i : Fin 64) (c : Option Check) :
    OnlyEntry s (s.putCheck i c) i := by
  refine ⟨fun j hj => ?_, rfl, rfl⟩
  simp [State.check_putCheck, hj]

theorem State.onlyEntry_modCheck (s : State) (i : Fin 64) (f : Check → Check) :
    OnlyEntry s (s.modCheck i f) i := by
  refine ⟨fun j hj => ?_, ?_, ?_⟩
  · simp [State.check_modCheck, hj]
  · unfold State.modCheck
    split <;> simp [State.putCheck, State.setTable]
  · unfold State.modCheck
    split <;> simp [State.putCheck, State.setTable]

theorem OnlyEntry.trans {s t w : State} {i : Fin 64} (h : OnlyEntry s t i) (k : OnlyEntry t w i) :
    OnlyEntry s w i :=
  ⟨fun j hj => (k.1 j hj).trans (h.1 j hj), k.2.1.trans h.2.1, k.2.2.trans h.2.2⟩

theorem State.onlyEntry_of_table {s t : State} {i : Fin 64} (h : t.table = s.table) :
    OnlyEntry s t i :=
  ⟨fun j _ => by simp [State.check, h], by rw [h], by rw [h]⟩

end Sys2Proof.Machine
end

