-- ==== Sys2Proof/Laws/PerInstr.lean ====
section
/-!
SUPPORT. The per-command family `FrameLength`: a well-formed command that comes from a valid frame
states a body length of at most 59 (R172).
-/

namespace Sys2Proof.Laws.FrameLength

/-- The exchange of a command that a valid frame brings; none for BAD_FRAME, a discarded exchange and
the events. -/
def validFrame : Instr → Option Exch
  | .nop x => some x
  | .status x => some x
  | .attnRead x => some x
  | .attnClear x _ => some x
  | .attnEnable x _ => some x
  | .portReset x => some x
  | .config1 x _ _ => some x
  | .config2 x _ _ _ => some x
  | .config3 x _ _ _ => some x
  | .config4 x _ _ => some x
  | .powerDoze x _ => some x
  | .powerSleep x => some x
  | .probe x _ _ => some x
  | .checkInfo x _ _ => some x
  | .read x _ => some x
  | .stageGet x _ => some x
  | .stageSet x _ _ _ _ => some x
  | .exchange x => some x
  | .commit x => some x
  | .commitNew x => some x
  | .checkClose x _ _ => some x
  | .resolveKeep x _ _ _ => some x
  | .resolveClose x _ _ => some x
  | .itemAdd x _ _ _ => some x
  | .itemVoid x _ _ _ => some x
  | .splitSet x _ _ _ _ _ => some x
  | .splitClear x _ _ => some x
  | .hold x _ _ => some x
  | .renew x _ _ => some x
  | .release x _ _ => some x
  | .streamOpenItemsRead x _ _ _ _ _ _ => some x
  | .streamOpenItemsWrite x _ _ _ _ _ => some x
  | .streamNext x => some x
  | .streamPut x _ _ => some x
  | .streamClose x => some x
  | .tenderPostCard x _ _ _ _ => some x
  | .tenderPostCash x _ _ _ => some x
  | .tenderCancel x _ => some x
  | .tenderReap x => some x
  | .tenderStatus x _ => some x
  | .tenderTake x => some x
  | .tenderPeek x => some x
  | .tenderProgress x _ _ => some x
  | .tenderResultApproved x _ _ _ => some x
  | .tenderResultDeclined x _ _ => some x
  | .lateClear x => some x
  | .totalsLatch x => some x
  | .totalsRead x => some x
  | .totalsClear x => some x
  | .linkStateUp x _ => some x
  | .linkStateDown x => some x
  | .imageBegin x _ _ _ _ _ _ => some x
  | .imageEnd x => some x
  | .imageAbort x => some x
  | .retire x _ _ => some x
  | .uplinkNext x => some x
  | .uplinkAck x _ => some x
  | .mark x => some x
  | .unknownRequest x _ => some x
  | .exchangeDiscarded _ _ | .coldReset _ | .leaseExpiry _ _ | .tenderTimeout _ | .badFrame _ _
  | .wakeAssert | .wakeByChipSelect _ | .wakeTimerExpiry _ | .resetRelease | .wakeLineFall => none

/-- What the family says of a command. -/
def Statement (i : Instr) : Prop :=
  i.wf = true → ∀ x ∈ validFrame i, x.len.toNat ≤ 59

/-- From the check on the exchange alone. -/
theorem of_exch {e : Exch} (h : e.wf = true) : ∀ x ∈ some e, x.len.toNat ≤ 59 := by
  intro x hx
  obtain rfl : e = x := by simpa using hx
  simpa [Exch.wf] using h

/-- From the check on the exchange and another. -/
theorem of_exch_and {e : Exch} {b : Bool} (h : (e.wf && b) = true) :
    ∀ x ∈ some e, x.len.toNat ≤ 59 :=
  of_exch ((Bool.and_eq_true _ _).mp h).1

theorem nop (x : Exch) :
    Statement (.nop x) := fun h => of_exch h

theorem status (x : Exch) :
    Statement (.status x) := fun h => of_exch h

theorem attnRead (x : Exch) :
    Statement (.attnRead x) := fun h => of_exch h

theorem attnClear (x : Exch) (mask : Half) :
    Statement (.attnClear x mask) := fun h => of_exch h

theorem attnEnable (x : Exch) (mask : Half) :
    Statement (.attnEnable x mask) := fun h => of_exch h

theorem portReset (x : Exch) :
    Statement (.portReset x) := fun h => of_exch h

theorem config1 (x : Exch) (terminalId pinFloor : Byte) :
    Statement (.config1 x terminalId pinFloor) := fun h => of_exch h

theorem config2 (x : Exch) (taxRate : Half) (lease : Byte) (timeout : Half) :
    Statement (.config2 x taxRate lease timeout) := fun h => of_exch h

theorem config3 (x : Exch) (single : Tri) (exposureCap : Quad) (countCap : Byte) :
    Statement (.config3 x single exposureCap countCap) := fun h => of_exch h

theorem config4 (x : Exch) (window wakes : Byte) :
    Statement (.config4 x window wakes) := fun h => of_exch h

theorem powerDoze (x : Exch) (mode : Byte) :
    Statement (.powerDoze x mode) := fun h => of_exch_and h

theorem powerSleep (x : Exch) :
    Statement (.powerSleep x) := fun h => of_exch h

theorem probe (x : Exch) (key : Half) (any : Byte) :
    Statement (.probe x key any) := fun h => of_exch h

theorem checkInfo (x : Exch) (index share : Byte) :
    Statement (.checkInfo x index share) := fun h => of_exch h

theorem read (x : Exch) (index : Byte) :
    Statement (.read x index) := fun h => of_exch h

theorem stageGet (x : Exch) (selector : Byte) :
    Statement (.stageGet x selector) := fun h => of_exch h

theorem stageSet (x : Exch) (selection : Byte) (key : Half) (covers seats : Byte) :
    Statement (.stageSet x selection key covers seats) := fun h => of_exch h

theorem exchange (x : Exch) :
    Statement (.exchange x) := fun h => of_exch h

theorem commit (x : Exch) :
    Statement (.commit x) := fun h => of_exch h

theorem commitNew (x : Exch) :
    Statement (.commitNew x) := fun h => of_exch h

theorem checkClose (x : Exch) (index : Byte) (key : Half) :
    Statement (.checkClose x index key) := fun h => of_exch h

theorem resolveKeep (x : Exch) (index : Byte) (key : Half) (resolution : Byte) :
    Statement (.resolveKeep x index key resolution) := fun h => of_exch_and h

theorem resolveClose (x : Exch) (index : Byte) (key : Half) :
    Statement (.resolveClose x index key) := fun h => of_exch h

theorem itemAdd (x : Exch) (index : Byte) (key : Half) (item : ItemWire) :
    Statement (.itemAdd x index key item) := fun h => of_exch h

theorem itemVoid (x : Exch) (index : Byte) (key : Half) (serial : Byte) :
    Statement (.itemVoid x index key serial) := fun h => of_exch h

theorem splitSet (x : Exch) (index : Byte) (key : Half) (basis count : Byte) (elems : List Tri) :
    Statement (.splitSet x index key basis count elems) := fun h => of_exch_and h

theorem splitClear (x : Exch) (index : Byte) (key : Half) :
    Statement (.splitClear x index key) := fun h => of_exch h

theorem hold (x : Exch) (index : Byte) (key : Half) :
    Statement (.hold x index key) := fun h => of_exch h

theorem renew (x : Exch) (index : Byte) (key : Half) :
    Statement (.renew x index key) := fun h => of_exch h

theorem release (x : Exch) (index : Byte) (key : Half) :
    Statement (.release x index key) := fun h => of_exch h

theorem streamOpenItemsRead (x : Exch) (target index : Byte) (key : Half) (dir start count : Byte) :
    Statement (.streamOpenItemsRead x target index key dir start count) := fun h => of_exch_and h

theorem streamOpenItemsWrite (x : Exch) (index : Byte) (key : Half) (dir start count : Byte) :
    Statement (.streamOpenItemsWrite x index key dir start count) := fun h => of_exch h

theorem streamNext (x : Exch) :
    Statement (.streamNext x) := fun h => of_exch h

theorem streamPut (x : Exch) (count : Byte) (items : List ItemWire) :
    Statement (.streamPut x count items) := fun h => of_exch_and h

theorem streamClose (x : Exch) :
    Statement (.streamClose x) := fun h => of_exch h

theorem tenderPostCard (x : Exch) (index : Byte) (key : Half) (cls : Byte) (post : PostWire) :
    Statement (.tenderPostCard x index key cls post) := fun h => of_exch_and h

theorem tenderPostCash (x : Exch) (index : Byte) (key : Half) (post : PostWire) :
    Statement (.tenderPostCash x index key post) := fun h => of_exch h

theorem tenderCancel (x : Exch) (serial : Half) :
    Statement (.tenderCancel x serial) := fun h => of_exch h

theorem tenderReap (x : Exch) :
    Statement (.tenderReap x) := fun h => of_exch h

theorem tenderStatus (x : Exch) (serial : Half) :
    Statement (.tenderStatus x serial) := fun h => of_exch h

theorem tenderTake (x : Exch) :
    Statement (.tenderTake x) := fun h => of_exch h

theorem tenderPeek (x : Exch) :
    Statement (.tenderPeek x) := fun h => of_exch h

theorem tenderProgress (x : Exch) (serial : Half) (stage : Byte) :
    Statement (.tenderProgress x serial stage) := fun h => of_exch h

theorem tenderResultApproved (x : Exch) (serial : Half) (outcome : Byte) (result : ResultWire) :
    Statement (.tenderResultApproved x serial outcome result) := fun h => of_exch_and h

theorem tenderResultDeclined (x : Exch) (serial : Half) (result : ResultWire) :
    Statement (.tenderResultDeclined x serial result) := fun h => of_exch h

theorem lateClear (x : Exch) :
    Statement (.lateClear x) := fun h => of_exch h

theorem totalsLatch (x : Exch) :
    Statement (.totalsLatch x) := fun h => of_exch h

theorem totalsRead (x : Exch) :
    Statement (.totalsRead x) := fun h => of_exch h

theorem totalsClear (x : Exch) :
    Statement (.totalsClear x) := fun h => of_exch h

theorem linkStateUp (x : Exch) (linkState : Byte) :
    Statement (.linkStateUp x linkState) := fun h => of_exch_and h

theorem linkStateDown (x : Exch) :
    Statement (.linkStateDown x) := fun h => of_exch h

theorem imageBegin (x : Exch) (key server : Half) (owner covers seats count : Byte) :
    Statement (.imageBegin x key server owner covers seats count) := fun h => of_exch h

theorem imageEnd (x : Exch) :
    Statement (.imageEnd x) := fun h => of_exch h

theorem imageAbort (x : Exch) :
    Statement (.imageAbort x) := fun h => of_exch h

theorem retire (x : Exch) (key server : Half) :
    Statement (.retire x key server) := fun h => of_exch h

theorem uplinkNext (x : Exch) :
    Statement (.uplinkNext x) := fun h => of_exch h

theorem uplinkAck (x : Exch) (seq : Half) :
    Statement (.uplinkAck x seq) := fun h => of_exch h

theorem mark (x : Exch) :
    Statement (.mark x) := fun h => of_exch h

theorem badFrame (x : Exch) (code : Byte) :
    Statement (.badFrame x code) := fun _ _ h => nomatch h

theorem unknownRequest (x : Exch) (code : Byte) :
    Statement (.unknownRequest x code) := fun h => of_exch_and h

theorem exchangeDiscarded (port : Port) (bytes : Nat) :
    Statement (.exchangeDiscarded port bytes) := fun _ _ h => nomatch h

theorem coldReset (cause : ResetCause) :
    Statement (.coldReset cause) := fun _ _ h => nomatch h

theorem leaseExpiry (index : Fin 64) (elapsed : Nat) :
    Statement (.leaseExpiry index elapsed) := fun _ _ h => nomatch h

theorem tenderTimeout (elapsed : Nat) :
    Statement (.tenderTimeout elapsed) := fun _ _ h => nomatch h

theorem wakeAssert :
    Statement (.wakeAssert) := fun _ _ h => nomatch h

theorem wakeByChipSelect (port : Port) :
    Statement (.wakeByChipSelect port) := fun _ _ h => nomatch h

theorem wakeTimerExpiry (elapsed : Nat) :
    Statement (.wakeTimerExpiry elapsed) := fun _ _ h => nomatch h

theorem resetRelease :
    Statement (.resetRelease) := fun _ _ h => nomatch h

theorem wakeLineFall :
    Statement (.wakeLineFall) := fun _ _ h => nomatch h

end Sys2Proof.Laws.FrameLength
end

