-- ==== Sys2Proof/Tests/Slice0.lean ====
section
/-!
SUPPORT. The model's own tests: ill-formed commands that the check refuses, frames read from their
bytes, and for each statement a concrete state and operands that meet its premises, clause by clause,
with what the command answers there. Every theorem looks at one step on a small state.
-/

namespace Sys2Proof.Tests

open Sys2Proof Sys2Proof.Machine

/-! ### Small states -/

/-- An exchange on a port with a body of 59 bytes. -/
def ex (p : Port) : Exch := ⟨p, 7, 59, false, false⟩

/-- The state in which a request's own rule is met. -/
def after (s : State) (p : Port) : State := (s.enter (ex p)).getD s

/-- A request is taken, and it passes the tests before its own. -/
abbrev Sent (s : State) (p : Port) (q : Req) (extra : Nat) : Prop :=
  (s.enter (ex p)).isSome = true ∧ (after s p).Serves q (ex p) extra

/-- What `Sent` says of the premise `s.enter x = some u`. -/
theorem enter_after (s : State) (p : Port) (h : (s.enter (ex p)).isSome = true) :
    s.enter (ex p) = some (after s p) := by
  unfold after
  cases e : s.enter (ex p) with
  | none => rw [e] at h; cases h
  | some u => rfl

/-- The outcome a port's slot holds after a command. -/
def gives (s : State) (c : Instr) (p : Port) : Option ReplyOutcome :=
  match exec c s with
  | .next t => some (t.ports.slot.get p).outcome
  | _ => none

/-- The state a command answers. -/
def next (s : State) (c : Instr) : State :=
  match exec c s with
  | .next t => t
  | _ => s

/-- The state a step answers. -/
def stepped (s : State) : State :=
  match step s with
  | .next t => t
  | _ => s

/-- A configured part: terminal 17, tax 10 %, leases of 5 s, tender timeout 30 s. -/
def ready : State := { State.reset with
  modes := { State.reset.modes with
    step := .ready, terminalId := some 17, taxRate := 1000, leaseSecs := 5, tenderSecs := 30 } }

/-- The part with another operating mode, wake enables and wake timer. -/
def inMode (m : Mode) (wakes : Bool) (timer : Option Nat) : State := { ready with
  modes := { ready.modes with
    mode := m, wakeEnable := PerPort.all wakes, wakeTimer := timer } }

/-- The part with RESET held. -/
def held : State := { ready with modes := { ready.modes with resetHeld := true } }

/-- One item of 10.00, seat 1, in record 0. -/
def tea : Item :=
  { record := 0, serial := 1, menu := 1, seat := 1, quantity := 1, price := 1000, mods := []
    status := .live, source := .localAdd }

/-- An OPEN check of this terminal, due 11.00, held by the Console Port. -/
def mine : Check :=
  { state := .opened, key := ⟨5, 1⟩, scope := .owned, owner := 17, revision := 1, uplinked := 1
    server := none, covers := 2, seats := 4, items := [tea], nextSerial := 2, subtotal := 1000
    tax := 100, due := 1100, approved := 0, reserved := 0, tips := 0, overpaid := false
    plan := none, hold := some ⟨.console, 5000⟩, waiters := [], image := none
    pendingUplink := 0 }

/-- The packed form of its key. -/
def k51 : Half := 0x0051

/-- A check in entry 0, its record off the free list and its hold counted. -/
def seat (c : Check) (s : State) : State :=
  { s.putCheck 0 (some c) with
    pool := ⟨(List.range 512).drop 1⟩
    holds := ⟨⟨if c.holder = some .console then 1 else 0, if c.holder = some .tender then 1 else 0,
        if c.holder = some .link then 1 else 0⟩,
      ⟨if .console ∈ c.waiters then some 0 else none, if .tender ∈ c.waiters then some 0 else none,
        if .link ∈ c.waiters then some 0 else none⟩⟩ }

/-- The check of entry 0 is named by a request. -/
abbrev Named (s : State) (p : Port) (c : Check) : Prop := (after s p).Names 0 k51 0 c

/-- The part with `mine` in entry 0. -/
def one : State := seat mine ready

/-- `mine` without a hold. -/
def loose : Check := { mine with hold := none }

/-- `mine` with everything paid. -/
def paid : Check := { mine with state := .settled, approved := 1100 }

/-- The link is UP. -/
def linked (s : State) : State := { s with floor := { s.floor with link := .up } }

/-- A channel of a port. -/
def streaming (s : State) (p : Port) (c : Channel) : State :=
  { s with streams := s.streams.set p c }

/-- A read stream on entry 0 with one item to come. -/
def reading : Stream :=
  { target := .itemsRead, index := some 0, key := ⟨5, 1⟩, captured := some 1, dir := .forward
    cursor := 0, remaining := 1 }

/-- A write stream on entry 0 with two items to come. -/
def writing : Stream := { reading with target := .itemsWrite, remaining := 2 }

/-- An IMAGE stream with some items to come. -/
def imaging (n : Nat) : Stream :=
  { target := .image, index := none, key := ⟨5, 1⟩, captured := none, dir := .forward, cursor := 0
    remaining := n }

/-- An image assembly of another table's check, with no item yet. -/
def parcel (t : BitVec 12) (owner server : Nat) : Assembly :=
  { key := ⟨t, 1⟩, server := server, owner := owner, covers := 1, seats := 4, count := 0
    items := [] }

/-- An uplink record of entry 0. -/
def record (seq : Nat) (sent : Bool) (body : RecordBody) : UplinkRecord :=
  ⟨seq, sent, some 0, ⟨5, 1⟩, body⟩

/-- An Uplink Queue. -/
def queueing (s : State) (records : List UplinkRecord) : State :=
  { s with uplink := { s.uplink with records := records, nextSeq := 50 } }

/-- Forty-eight records fill the queue. -/
def packed (s : State) : State := queueing s (List.replicate 48 (record 1 true (.close 1)))

/-- A card tender of 5.00 on entry 0. -/
def charge (phase : TenderPhase) : Tender :=
  { serial := 9, cls := .card, index := 0, key := ⟨5, 1⟩, share := 0, base := 500
    tipMode := .none, cancelRequested := false, phase := phase }

/-- `mine` with that tender reserved. -/
def charged : Check := { mine with state := .tendering, reserved := 500 }

/-- The part with that tender in its ring. -/
def ringing (phase : TenderPhase) : State := { seat charged ready with
  ring :=
    { tenders := [charge phase], retireIdx := 0
      passed := if (charge phase).isPosted then 0 else 1, nextSerial := 10
      timer := if (charge phase).isTaken then some 30000 else none, late := [] } }

/-- An item record on the wire. -/
def cake : ItemWire :=
  { serial := 1, menu := 1, marks := 1, quantity := 1, price := 1000, modCount := 0
    mod1 := ⟨0, 0⟩, mod2 := ⟨0, 0⟩, mod3 := ⟨0, 0⟩, line := 0 }

/-- A card result of 5.00. -/
def answer (amount : Tri) (offline : Byte) : ResultWire :=
  { amount := amount, tip := 0, ref := ⟨0x30, 0x39, 0x41, 0x5A, 0x30, 0x30⟩, cardClass := 15
    tail := 9999, offline := offline }

/-! ### Commands and frames -/

theorem test_wf_refuses_frames :
    Instr.wf (.nop ⟨.console, 0, 60, false, false⟩) = false ∧
    Instr.wf (.unknownRequest (ex .link) 0x00) = false ∧
    Instr.wf (.unknownRequest ⟨.link, 0, 60, false, false⟩ 0xFF) = false ∧
    Instr.wf (.exchangeDiscarded .tender 64) = false := by decide

theorem test_wf_refuses_rows :
    Instr.wf (.powerDoze (ex .console) 2) = false ∧
    Instr.wf (.resolveKeep (ex .console) 0 k51 2) = false ∧
    Instr.wf (.streamOpenItemsRead (ex .console) 2 0 k51 0 0 1) = false ∧
    Instr.wf (.tenderPostCard (ex .console) 0 k51 2 ⟨0, 1, 0, 0⟩) = false ∧
    Instr.wf (.tenderResultApproved (ex .tender) 1 2 (answer 1 0)) = false ∧
    Instr.wf (.linkStateUp (ex .link) 0) = false := by decide

theorem test_wf_refuses_elements :
    Instr.wf (.splitSet (ex .console) 0 k51 1 2 [1]) = false ∧
    Instr.wf (.splitSet (ex .console) 0 k51 2 2 [2]) = false ∧
    Instr.wf (.splitSet (ex .console) 0 k51 2 1 [0x010000]) = false ∧
    Instr.wf (.splitSet (ex .console) 0 k51 3 2 [1, 1, 1]) = false ∧
    Instr.wf (.streamPut (ex .console) 2 [cake]) = false ∧
    Instr.wf (.streamPut (ex .console) 3 [cake]) = false := by decide

theorem test_wf_admits :
    Instr.wf (.splitSet (ex .console) 0 k51 2 2 [2, 4]) = true ∧
    Instr.wf (.streamPut (ex .console) 1 [cake]) = true ∧
    Instr.wf (.unknownRequest (ex .link) 0xFF) = true ∧
    Instr.wf (.exchangeDiscarded .tender 63) = true ∧
    Instr.wf (.linkStateUp (ex .link) 2) = true := by decide

/-- The CRC of the nine digits: the check value known for the polynomial and initial value of R172. -/
theorem test_crc_of_digits :
    crc16 [0x31, 0x32, 0x33, 0x34, 0x35, 0x36, 0x37, 0x38, 0x39] = 0x29B1 := by decide +kernel

/-- A frame of 64 bytes with its CRC. -/
def framed (bytes : List Byte) : List Byte :=
  let b := (bytes ++ List.replicate 62 0).take 62
  let c := crc16 b
  b ++ [c.extractLsb' 8 8, c.extractLsb' 0 8]

/-- HOLD of index 3 and key 5/1 is read from its bytes: code, tag, length, index, key. -/
theorem test_frame_hold :
    decodeChipSelect .tender false false (framed [0x28, 7, 3, 3, 0x00, 0x51]) =
      .hold ⟨.tender, 7, 3, false, false⟩ 3 0x0051 := by decide +kernel

/-- TENDER_POST of class CASH: index, key, class, share, base, tip mode, fixed tip. -/
theorem test_frame_post :
    decodeChipSelect .console false false
        (framed [0x40, 1, 12, 0, 0x00, 0x51, 2, 1, 0, 1, 0xF4, 2, 0, 0, 9]) =
      .tenderPostCash ⟨.console, 1, 12, false, false⟩ 0 0x0051 ⟨1, 500, 2, 9⟩ := by decide +kernel

/-- SPLIT_SET on basis FIXED reads 3-byte targets, as many as its count. -/
theorem test_frame_split :
    decodeChipSelect .console false false
        (framed [0x22, 1, 11, 0, 0x00, 0x51, 3, 2, 0, 1, 0, 0, 0, 9]) =
      .splitSet ⟨.console, 1, 11, false, false⟩ 0 0x0051 3 2 [256, 9] := by decide +kernel

/-- A frame with a changed byte is BAD_FRAME, and so is one with length 60. -/
theorem test_frame_refused :
    decodeChipSelect .link true false ((framed [0x60, 1, 1, 0]).set 3 1) =
        .badFrame ⟨.link, 1, 1, true, false⟩ 0x60 ∧
      decodeChipSelect .link false false (framed [0x60, 1, 60, 0]) =
        .badFrame ⟨.link, 1, 60, false, false⟩ 0x60 := by decide +kernel

/-- A period of 64 bytes that was in progress at a cold reset is read as its request, and discarded. -/
theorem test_frame_cut :
    decodeChipSelect .link false true (framed [0x67, 7, 59]) =
        .mark { ex .link with cut := true } ∧
      next ready (.mark { ex .link with cut := true }) = ready := by decide +kernel

/-- The reply frame's bytes: code, tag, outcome, body length, body, zeros. -/
theorem test_reply_frame :
    ((next one (.hold (ex .console) 0 k51)).ports.slot.console).frame.take 11 =
      [0x28, 7, 0, 6, 0, 0x00, 0x51, 1, 0, 1, 0] := by decide +kernel

/-! ### The premises of the statements: the queue, exchanges, routing -/

theorem test_met_StepTakesFrontCommand :
    let s : State := { one with pending := [.mark (ex .console), .wakeAssert] }
    s.pending = .mark (ex .console) :: [.wakeAssert] ∧
      step s = exec (.mark (ex .console)) { s with pending := [.wakeAssert] } := by
  exact ⟨rfl, rfl⟩

theorem test_met_ClocksRunWithTime :
    (held.modes.resetHeld = true ∧ held.advance 9 = held) ∧
    (one.modes.resetHeld = false ∧ one.modes.mode ≠ .sleep ∧ one.pending = []) ∧
    ((inMode .sleep true (some 2)).modes.mode = .sleep ∧
      ((inMode .sleep true (some 2)).advance 2).modes.wakeTimer = some 0) ∧
    (stepped (one.advance 4999)).pending = [.leaseExpiry 0 0] ∧
    (stepped ((ringing (.taken .none)).advance 29999)).pending = [.tenderTimeout 0] ∧
    (stepped ((inMode .sleep true (some 1)))).pending = [.wakeTimerExpiry 0] ∧
    (({ one with uplink := { one.uplink with lamp := ⟨.slow, 999⟩ } } : State).advance 2).uplink.lamp
      = ⟨.slow, 1⟩ := by decide +kernel

/-- SLOW and FAST are lit in the first half of their period. -/
theorem test_met_lamp_lit :
    let shows (p : Pattern) (phase : Nat) : Bool :=
      ({ one with uplink := { one.uplink with lamp := ⟨p, phase⟩ } } : State).lampLit
    (shows .slow 499 = true ∧ shows .slow 500 = false ∧ shows .fast 124 = true ∧
      shows .fast 125 = false ∧ shows .fast 250 = true ∧ shows .steady 0 = true ∧
      shows .dark 0 = false) ∧
    ({ held with uplink := { held.uplink with lamp := ⟨.steady, 0⟩ } } : State).lampLit = false := by
  decide +kernel

/-- The proof inside this definition waits for the theorems above it, so that Lean checks a few at a
time. -/
def pause1 : Fin 64 := ⟨1, by decide +kernel⟩

theorem test_met_ExchangeTakenByMode :
    (held.modes.resetHeld = true ∧ held.enter (ex .link) = none) ∧
    (ready.modes.mode = .active ∧ (ready.enter (ex .link)).isSome = true) ∧
    ((inMode .doze false none).modes.wakeEnable.get .link = false ∧
      (after (inMode .doze false none) .link).modes.mode = .doze) ∧
    ((inMode .doze true none).modes.wakeEnable.get .link = true ∧
      (after (inMode .doze true none) .link).modes.mode = .active ∧
      (after (inMode .doze true none) .link).attn.flags = ⟨0x0400, 0, 0⟩) ∧
    ({ ex .link with cut := true }.cut = true ∧
      ready.enter { ex .link with cut := true } = none) ∧
    ((ex .link).cut = false ∧ (after (next ready (.mark (ex .link))) .link).attn.flags.link = 0 ∧
      next held (.status (ex .link)) = held) ∧
    ((inMode .sleep false (some 0)).modes.wakeTimer.isSome = true ∧
      ((inMode .sleep false (some 0)).enter (ex .link)).isSome = true) ∧
    ((inMode .sleep true none).modes.wakeTimer = none ∧
      (after (inMode .sleep true none) .link).modes.wakeTimer = some 2) ∧
    ((inMode .sleep false none).modes.wakeEnable.get .link = false ∧
      (inMode .sleep false none).enter (ex .link) = none) := by decide +kernel

/-- No request has the code 0xFF. -/
theorem no_code_ff (q : Req) : q.code ≠ 0xFF := by cases q <;> decide

theorem test_met_FramesReadAndAnswered :
    ([] : List Byte).length ≠ 64 ∧ (framed [0xFF, 7, 59]).length = 64 ∧
    (let b := framed [0xFF, 7, 59]
     crc16 (b.take 62) = (b.getD 62 0 ++ b.getD 63 0 : BitVec 16) ∧ (b.getD 2 0).toNat ≤ 59 ∧
      decodeChipSelect .link false false b = .unknownRequest (ex .link) 0xFF) ∧
    Req.mark.code = (framed [0x67, 7, 0]).getD 0 0 ∧
    gives ready (.badFrame (ex .link) 9) .link = some .badFrame ∧
    gives ready (.unknownRequest (ex .link) 0xFF) .link = some .unknownRequest ∧
    held.enter (ex .link) = none ∧
    ready.modes.mode ≠ .sleep ∧ ready.modes.wakeEnable.get .tender = false ∧
    ((inMode .sleep true none).modes.mode = .sleep ∧
      (inMode .sleep true none).modes.wakeEnable.get .tender = true ∧
      (next (inMode .sleep true none) (.exchangeDiscarded .tender 1)).modes.wakeTimer = some 2) := by
  decide +kernel

theorem test_met_RequestsRoutedAndAdmitted :
    let step3 : State := { ready with modes := { ready.modes with step := .step3 } }
    (Req.mark.permitted .link = false ∧ gives ready (.mark (ex .link)) .link = some .wrongPort) ∧
    ((after step3 .link).admission .mark = some (.notReady, []) ∧
      gives step3 (.mark (ex .console)) .console = some .notReady) ∧
    ((after step3 .console).admission .config3 = none ∧
      (after step3 .console).admission .config4 = some (.sequence, [3]) ∧
      gives step3 (.config4 (ex .console) 1 0) .console = some .sequence) ∧
    ((after step3 .link).admission .nop = none) ∧
    ((after ready .console).admission .mark = none) ∧
    ((after (inMode .sleep true none) .link).admission .nop = some (.waking, []) ∧
      gives (inMode .sleep true none) (.nop (ex .link)) .link = some .waking) ∧
    gives ready (.read ⟨.console, 7, 0, false, false⟩ 0) .console = some .badField := by decide +kernel

/-- A body one byte too short for the elements that its count gives, and one just long enough. -/
theorem test_met_elements_short :
    let x (len : Byte) : Exch := { ex .console with len := len }
    let u := after one .console
    (Req.splitSet.permitted .console = true ∧ u.admission .splitSet = none ∧
      u.admission .streamPut = none) ∧
    ((x 8).len.toNat < 5 + (2 : Byte).toNat * splitBytes 2 ∧
      gives one (.splitSet (x 8) 0 k51 2 2 [2, 4]) .console = some .badField ∧
      gives one (.splitSet (x 9) 0 k51 2 2 [2, 4]) .console = some .ok) ∧
    ((x 10).len.toNat < 5 + (2 : Byte).toNat * splitBytes 3 ∧
      gives one (.splitSet (x 10) 0 k51 3 2 [1100, 0]) .console = some .badField ∧
      gives one (.splitSet (x 11) 0 k51 3 2 [1100, 0]) .console = some .ok) ∧
    (gives one (.splitSet (x 5) 0 k51 1 2 []) .console = some .ok) ∧
    ((x 54).len.toNat < 1 + (2 : Byte).toNat * 27 ∧
      gives one (.streamPut (x 54) 2 [cake, cake]) .console = some .badField ∧
      gives one (.streamPut (x 55) 2 [cake, cake]) .console = some .streamIdle) := by
  decide +kernel

/-- The tests on index and key: index 64, table 0, a FREE entry and another key. -/
theorem test_met_naming_refused :
    let u := after one .console
    (FailsFirst (namingTests u 64 k51 True) .badField ∧
      FailsFirst (namingTests u 0 0x0001 True) .badField) ∧
    ((Sent one .console .checkClose 0 ∧ Sent one .console .resolve 0 ∧
      Sent one .console .itemAdd 0 ∧ Sent one .console .itemVoid 0 ∧
      Sent one .console .splitSet 0 ∧ Sent one .console .splitClear 0 ∧
      Sent one .console .hold 0 ∧ Sent one .console .renew 0 ∧
      Sent one .console .tenderPost 0) ∧
    ∀ c ∈ [fun i k => Instr.checkClose (ex .console) i k, fun i k => .resolveKeep (ex .console) i k 1,
        fun i k => .resolveClose (ex .console) i k, fun i k => .itemAdd (ex .console) i k cake,
        fun i k => .itemVoid (ex .console) i k 1, fun i k => .splitSet (ex .console) i k 1 2 [],
        fun i k => .splitClear (ex .console) i k, fun i k => .hold (ex .console) i k,
        fun i k => .renew (ex .console) i k,
        fun i k => .tenderPostCard (ex .console) i k 1 ⟨0, 1, 0, 0⟩,
        fun i k => .tenderPostCash (ex .console) i k ⟨0, 1, 0, 0⟩],
      gives one (c 64 k51) .console = some .badField ∧
      gives one (c 63 0x0001) .console = some .badField ∧
      gives one (c 63 k51) .console = some .noMatch ∧
      gives one (c 0 0x0052) .console = some .noMatch) := by
  refine ⟨⟨.inl ⟨fun h => absurd h.1 (by decide), rfl⟩,
    .inl ⟨fun h => absurd h.2.1 (by decide), rfl⟩⟩, ?_⟩
  decide +kernel

theorem test_met_PortReadsAnswered :
    Sent one .link .nop 0 ∧ Sent one .tender .status 0 ∧
    gives one (.nop (ex .link)) .link = some .ok ∧
    gives one (.status (ex .tender)) .tender = some .ok ∧
    ready.modes.mode ≠ .sleep := by decide +kernel

theorem test_met_AttnClearAndEnable :
    Sent one .link .attnRead 0 ∧ Sent one .link .attnClear 0 ∧ Sent one .console .attnEnable 0 ∧
    (causeCount .link ≤ 6 ∧ (0x40 : Half).getLsbD 6 = true ∧
      gives one (.attnClear (ex .link) 0x40) .link = some .badField) ∧
    gives one (.attnClear (ex .link) 0x3F) .link = some .ok ∧
    gives one (.attnRead (ex .link)) .link = some .ok ∧
    gives one (.attnEnable (ex .console) 0x1000) .console = some .badField ∧
    (next one (.attnEnable (ex .console) 0x0FFF)).attnLow .console = true := by decide +kernel

theorem test_met_PortResetClearsItsShare :
    (Sent one .console .portReset 0 ∧ Sent one .tender .portReset 0 ∧
      Sent one .link .portReset 0) ∧
    (((after (ringing (.taken .none)) .tender).ring.tenders.filter Tender.isTaken).length ≤ 1) ∧
    (after one .console).HoldsAgree ∧
    (next one (.portReset (ex .console))).holds.count.console = 0 := by decide +kernel

/-- PORT_RESET of the Tender Port with a tender TAKEN, and of the Console Port with a waiter behind its
hold. -/
theorem test_met_port_reset_effects :
    let taken := ringing (.taken .none)
    let w := next taken (.portReset (ex .tender))
    ((after taken .tender).ring.tenders = [] ++ charge (.taken .none) :: [] ∧
      (after taken .tender).check 0 = some charged ∧
      w.ring.tenders = [charge (.finished .timedOut)] ∧
      w.ring.late = [⟨9, 0, ⟨5, 1⟩, 0, 500, .none⟩] ∧ w.totals.live.timeouts = 1 ∧
      w.attn.flags = ⟨0x0008, 0, 0⟩ ∧ (w.check 0).map Check.reserved = some 0) ∧
    (let s := seat { mine with waiters := [.tender] } ready
     let v := next s (.portReset (ex .console))
     ((v.check 0).bind Check.hold = some ⟨.tender, 5000⟩ ∧ v.holds.count = ⟨0, 1, 0⟩ ∧
        v.attn.flags = ⟨0, 0x0010, 0⟩) ∧
      ((after s .tender).holds.waits.tender = some 0 ∧
        (next s (.portReset (ex .tender))).holds.waits.tender = none ∧
        ((next s (.portReset (ex .tender))).check 0).map Check.waiters = some [])) := by
  decide +kernel

/-! ### Configuration, power, reset and wake -/

theorem test_met_ConfigRequestsSetValues :
    let at' (n : ConfigStep) : State := { ready with modes := { ready.modes with step := n } }
    (Sent (at' .step1) .console .config1 0 ∧ (at' .step1).modes.step ≠ .ready ∧
      gives (at' .step1) (.config1 (ex .console) 250 32) .console = some .ok) ∧
    (Sent one .console .config1 0 ∧ (after one .console).check 0 ≠ none ∧
      gives one (.config1 (ex .console) 1 0) .console = some .busy) ∧
    (Sent ready .console .config1 0 ∧ (∀ i, (after ready .console).check i = none) ∧
      (after ready .console).AssemblyStreams ∧
      gives ready (.config1 (ex .console) 250 32) .console = some .ok) ∧
    (Sent (at' .step2) .console .config2 0 ∧
      gives (at' .step2) (.config2 (ex .console) 2500 120 300) .console = some .ok) ∧
    (gives ready (.config2 (ex .console) 0 5 30) .console = some .ok) ∧
    (Sent ready .console .config4 0 ∧
      gives ready (.config4 (ex .console) 8 7) .console = some .ok) ∧
    (Sent ready .console .config3 0 ∧
      gives ready (.config3 (ex .console) 10000000 0 0) .console = some .badField ∧
      gives ready (.config3 (ex .console) 9999999 99999999 250) .console = some .ok ∧
      gives { ready with offline := { ready.offline with exposure := 1 } }
        (.config3 (ex .console) 0 0 0) .console = some .limit) := by decide +kernel

/-- Fields just out of range, and CONFIG_2 reissued with a check in the table. -/
theorem test_met_config_refused :
    let bad (c : Instr) : Bool := decide (gives ready c .console = some .badField)
    FailsFirst [((2501 : Half).toNat ≤ 2500, .badField), (True, .busy)] .badField ∧
    (Sent one .console .config2 0 ∧
      gives one (.config2 (ex .console) 2500 120 300) .console = some .busy) ∧
    (bad (.config1 (ex .console) 0 0) && bad (.config1 (ex .console) 251 0) &&
      bad (.config1 (ex .console) 1 33) && bad (.config2 (ex .console) 2501 5 30) &&
      bad (.config2 (ex .console) 0 4 30) && bad (.config2 (ex .console) 0 121 30) &&
      bad (.config2 (ex .console) 0 5 29) && bad (.config2 (ex .console) 0 5 301) &&
      bad (.config4 (ex .console) 0 0) && bad (.config4 (ex .console) 9 0) &&
      bad (.config4 (ex .console) 1 8)) = true := by
  refine ⟨.inl ⟨by decide, rfl⟩, ?_⟩
  decide +kernel

theorem test_met_PowerChangesMode :
    Sent one .console .power 0 ∧ (∃ i, ((after one .console).holderOf i).isSome = true) ∧
    gives one (.powerDoze (ex .console) 1) .console = some .ok ∧
    gives one (.powerDoze (ex .console) 0) .console = some .badField ∧
    gives one (.powerSleep (ex .console)) .console = some .busy ∧
    Sent ready .console .power 0 ∧ (next ready (.powerSleep (ex .console))).modes.mode = .sleep := by
  decide +kernel

theorem test_met_ColdResetInitializesEveryBlock :
    10 ≤ 10 ∧ (next one (.coldReset (.asserted 10))).modes.resetHeld = true ∧
    9 < 10 ∧ next one (.coldReset (.asserted 9)) = one ∧
    held.modes.resetHeld = true ∧ next held .resetRelease = State.reset ∧
    one.modes.resetHeld = false ∧ next one .resetRelease = one ∧
    next one (.coldReset .powerUp) = State.reset := by decide +kernel

theorem test_met_WakeSourcesAndTimer :
    let up (s : State) : State := { s with modes := { s.modes with wakeLine := true } }
    (ready.modes.mode = .active ∧ next ready .wakeAssert = up ready) ∧
    ((inMode .doze false none).modes.wakeLine = false ∧
      (next (inMode .doze false none) .wakeAssert).modes.mode = .active) ∧
    ((inMode .sleep false none).modes.wakeTimer = none ∧
      (next (inMode .sleep false none) .wakeAssert).modes.wakeTimer = some 2) ∧
    ((inMode .sleep true none).modes.wakeEnable.get .link = true ∧
      (next (inMode .sleep true none) (.wakeByChipSelect .link)).modes.wakeTimer = some 2) ∧
    next one (.wakeByChipSelect .link) = one ∧
    next (up ready) .wakeLineFall = ready ∧
    ((inMode .sleep true (some 2)).modes.wakeTimer = some 2 ∧
      (next (inMode .sleep true (some 2)) (.wakeTimerExpiry 2)).modes.mode = .active ∧
      (next (inMode .sleep true (some 2)) (.wakeTimerExpiry 1)).modes.wakeTimer = some 1) := by
  decide +kernel

/-! ### The Check Table and the Staging Unit -/

theorem test_met_ProbeAndCheckInfo :
    let planned := seat { mine with plan := some ⟨.even, [⟨550, 0, 0, 0, 0⟩, ⟨550, 0, 0, 0, 0⟩]⟩ }
      ready
    Sent one .tender .probe 0 ∧ (after one .tender).KeysDistinct ∧
    gives one (.probe (ex .tender) 0x000F 0) .tender = some .badField ∧
    gives one (.probe (ex .tender) k51 2) .tender = some .badField ∧
    gives one (.probe (ex .tender) 0x0052 0) .tender = some .noMatch ∧
    gives one (.probe (ex .tender) 0x0052 1) .tender = some .ok ∧
    gives one (.probe (ex .tender) k51 0) .tender = some .ok ∧
    (next one (.probe (ex .tender) k51 0)).ports.slot.tender.body = [0, 1, 1, 0, 1] ∧
    (let two : State := one.putCheck 5 (some { mine with key := ⟨5, 2⟩ })
     Sent two .tender .probe 0 ∧
      (next two (.probe (ex .tender) 0x005F 1)).ports.slot.tender.body = [0, 2, 1, 0, 1]) ∧
    Sent planned .link .checkInfo 0 ∧
    gives planned (.checkInfo (ex .link) 64 0) .link = some .badField ∧
    gives planned (.checkInfo (ex .link) 0 9) .link = some .badField ∧
    gives planned (.checkInfo (ex .link) 0 0) .link = some .ok ∧
    gives planned (.checkInfo (ex .link) 63 0) .link = some .ok ∧
    gives planned (.checkInfo (ex .link) 0 2) .link = some .ok ∧
    gives planned (.checkInfo (ex .link) 0 3) .link = some .noMatch := by decide +kernel

/-- Every entry holds a check of another terminal that may be evicted. -/
def full : State := { ready with
  table := ⟨Vector.replicate 64 (some { loose with scope := .foreign, owner := 3 }), 63, 32⟩ }

theorem test_met_AllocationEvictsFromCursor :
    ((one.check 1 = none ∧ ∀ j, j < 1 → one.check j ≠ none) ∧
      (one.allocate.map Prod.fst) = some 1) ∧
    ((∀ j, full.check j ≠ none) ∧ full.evictable 63 = true ∧ full.evictable 31 = false ∧
      full.table.pinFloor ≤ full.table.cursor ∧ full.table.cursor ≤ 63 ∧
      (full.allocate.map (fun a => (a.1, a.2.table.cursor))) = some (63, 32)) ∧
    (((streaming full .tender (.active { reading with index := some 63 })).allocate.map
      (fun a => a.2.attn.flags)) = some ⟨0x0080, 0x0040, 0⟩) ∧
    (let most : State := full.putCheck 63 (some mine)
     (∀ j, most.check j ≠ none) ∧ most.evictable 32 = true ∧ most.evictable 63 = false ∧
      (most.allocate.map Prod.fst) = some 32) ∧
    (let kept : State := { ready with table := ⟨Vector.replicate 64 (some mine), 0, 0⟩ }
     (∀ j, kept.check j ≠ none) ∧
      (∀ i : Fin 64, kept.table.pinFloor ≤ i.val → kept.evictable i = false) ∧
      kept.allocate = none) := by decide +kernel

theorem test_met_CheckCloseMovesToClosing :
    let due := seat paid ready
    let queued := queueing due [record 49 false (.delta 1)]
    let packed := packed due
    (Sent due .console .checkClose 0 ∧ Named due .console paid ∧ paid.holder = some .console ∧
      paid.scope = .owned ∧ paid.state = .settled ∧
      (after due .console).uplink.records.find? (fun r => r.queuedDelta 0) = none ∧
      (after due .console).commitments + 1 ≤ 48 ∧
      gives due (.checkClose (ex .console) 0 k51) .console = some .ok) ∧
    (Sent queued .console .checkClose 0 ∧ Named queued .console paid ∧
      (after queued .console).uplink.records.find? (fun r => r.queuedDelta 0) =
        some (record 49 false (.delta 1)) ∧
      (next queued (.checkClose (ex .console) 0 k51)).uplink.records =
        [record 49 false (.close 1)]) ∧
    (Sent packed .console .checkClose 0 ∧ Named packed .console paid ∧
      48 < (after packed .console).commitments + 1 ∧
      gives packed (.checkClose (ex .console) 0 k51) .console = some .uplinkFull) := by
  decide +kernel

/-- The tests of CHECK_CLOSE, each in turn the first that fails. -/
theorem test_met_CheckCloseRefused :
    let shut : Instr := .checkClose (ex .console) 0 k51
    FailsFirst [(loose.holder = some .console, .notHolder), (loose.scope = .owned, .notOwner)]
      .notHolder ∧
    (Sent (seat loose ready) .console .checkClose 0 ∧ Named (seat loose ready) .console loose ∧
      gives (seat loose ready) shut .console = some .notHolder) ∧
    gives (seat { paid with scope := .foreign } ready) shut .console = some .notOwner ∧
    gives one shut .console = some .state := by
  refine ⟨.inl ⟨by decide, rfl⟩, ?_⟩
  decide +kernel

/-- Waits for the theorems above it, as `pause1` does. -/
def pause2 : Fin 64 := ⟨2, by decide +kernel⟩

theorem test_met_ResolveSettlesConflict :
    let short : Check := { mine with state := .conflict .dueBelowPaid, approved := 1200 }
    let gone : Check := { mine with state := .conflict .retired }
    (Sent (seat short ready) .console .resolve 0 ∧ Named (seat short ready) .console short ∧
      short.holder = some .console ∧ short.reserved = 0 ∧
      (after (seat short ready) .console).commitments + 1 ≤ 48 ∧
      gives (seat short ready) (.resolveKeep (ex .console) 0 k51 1) .console = some .ok ∧
      gives (seat short ready) (.resolveClose (ex .console) 0 k51) .console = some .badField) ∧
    (Sent (seat gone ready) .console .resolve 0 ∧ Named (seat gone ready) .console gone ∧
      gives (seat gone ready) (.resolveClose (ex .console) 0 k51) .console = some .ok ∧
      gives (seat gone ready) (.resolveKeep (ex .console) 0 k51 1) .console = some .badField) ∧
    ((next (linked (seat short ready)) (.resolveKeep (ex .console) 0 k51 1)).attn.flags.link = 2) := by
  decide +kernel

/-- The tests of RESOLVE, each in turn the first that fails. -/
theorem test_met_ResolveRefused :
    let short : Check := { mine with state := .conflict .dueBelowPaid, approved := 1200 }
    let gone : Check := { mine with state := .conflict .retired, reserved := 1 }
    let keep : Instr := .resolveKeep (ex .console) 0 k51 1
    let give : Instr := .resolveClose (ex .console) 0 k51
    FailsFirst [(mine.holder = some .console, .notHolder),
      (∃ k, mine.state = .conflict k, .state)] .state ∧
    gives (seat loose ready) keep .console = some .notHolder ∧
    gives one keep .console = some .state ∧ gives one give .console = some .state ∧
    gives (seat gone ready) give .console = some .state ∧
    (Sent (packed (seat short ready)) .console .resolve 0 ∧
      gives (packed (seat short ready)) keep .console = some .uplinkFull) ∧
    gives (packed (seat { gone with reserved := 0 } ready)) give .console = some .uplinkFull := by
  refine ⟨.inr ⟨rfl, .inl ⟨fun ⟨_, h⟩ => (nomatch h), rfl⟩⟩, ?_⟩
  decide +kernel

/-- The primary record as READ loads it from entry 0. -/
def readOne : State := next one (.read (ex .console) 0)

theorem test_met_StageSetWritesSelected :
    Sent one .console .stageSet 0 ∧
    gives one (.stageSet (ex .console) 0 0 0 0) .console = some .badField ∧
    gives one (.stageSet (ex .console) 8 k51 0 0) .console = some .badField ∧
    gives one (.stageSet (ex .console) 1 0x000F 0 0) .console = some .badField ∧
    gives one (.stageSet (ex .console) 6 0 0 255) .console = some .ok ∧
    (next one (.stageSet (ex .console) 7 k51 0 255)).staging.primary.seats = 255 ∧
    (readOne.staging.primary.valid = true ∧ Sent readOne .console .stageSet 0 ∧
      (next readOne (.stageSet (ex .console) 2 0 99 9)).staging.primary =
        { readOne.staging.primary with covers := 99 }) := by decide +kernel

theorem test_met_StagingReadGetExchange :
    (Sent one .console .read 0 ∧
      gives one (.read (ex .console) 64) .console = some .badField ∧
      gives one (.read (ex .console) 0xFF) .console = some .badField ∧
      gives one (.read (ex .console) 0xFE) .console = some .noMatch ∧
      gives one (.read (ex .console) 63) .console = some .noMatch ∧
      gives one (.read (ex .console) 0) .console = some .ok) ∧
    (Sent one .console .stageGet 0 ∧
      gives one (.stageGet (ex .console) 0) .console = some .ok ∧
      gives one (.stageGet (ex .console) 1) .console = some .ok ∧
      gives one (.stageGet (ex .console) 2) .console = some .badField) ∧
    (Sent readOne .console .exchange 0 ∧
      Sent (next readOne (.exchange (ex .console))) .console .exchange 0 ∧
      (next readOne (.exchange (ex .console))).staging.primary = StagingRecord.invalid ∧
      (next (next readOne (.exchange (ex .console))) (.exchange (ex .console))).staging =
        readOne.staging) := by decide +kernel

theorem test_met_CommitWritesHeader :
    let moved := next readOne (.stageSet (ex .console) 7 0x0061 99 15)
    let holds (s : State) : Prop :=
      Sent s .console .commit 0 ∧ (after s .console).staging.primary.valid = true ∧
      (after s .console).staging.primary.target = some 0 ∧
      (after s .console).check 0 = some mine ∧
      (after s .console).staging.primary.origKey = some mine.key ∧
      mine.revision = (after s .console).staging.primary.captured ∧
      mine.holder = some .console ∧ mine.scope = .owned ∧ mine.state.Live ∧
      (mine.reserved = 0 ∧ mine.image = none) ∧
      (∀ it ∈ mine.items, it.status = .live → it.seat ≤ (after s .console).staging.primary.seats)
    (holds readOne ∧ readOne.staging.primary.key = some mine.key ∧
      (next readOne (.commit (ex .console))).check 0 = some mine) ∧
    (holds moved ∧ moved.staging.primary.key = some ⟨6, 1⟩ ∧
      (∀ j, j ≠ 0 → ∀ d ∈ (after moved .console).check j, d.key ≠ (⟨6, 1⟩ : Key)) ∧
      ((next moved (.commit (ex .console))).check 0).map Check.revision = some 2) := by
  decide +kernel

/-- The tests of COMMIT, each in turn the first that fails. -/
theorem test_met_CommitRefused :
    let at' (c : Check) : State := { readOne with table := (seat c ready).table }
    let go : Instr := .commit (ex .console)
    let staged (sel covers seats : Byte) (key : Half) (s : State) : State :=
      next s (.stageSet (ex .console) sel key covers seats)
    FailsFirst [(some mine.key = some mine.key ∧ (2 : Nat) = 1, .stale)] .stale ∧
    (Sent one .console .commit 0 ∧ (after one .console).staging.primary.valid = false ∧
      gives one go .console = some .noStage) ∧
    (gives (staged 1 0 0 0x0061 one) go .console = some .noStage) ∧
    ((readOne.putCheck 0 none).check 0 = none ∧
      gives (readOne.putCheck 0 none) go .console = some .stale) ∧
    gives (at' { mine with revision := 2 }) go .console = some .stale ∧
    gives (at' loose) go .console = some .notHolder ∧
    gives (at' { mine with scope := .foreign }) go .console = some .notOwner ∧
    gives (at' { mine with state := .closing }) go .console = some .state ∧
    gives (staged 1 0 0 0x0061 (at' charged)) go .console = some .state ∧
    gives (staged 1 0 0 0x0061 (readOne.putCheck 5 (some { mine with key := ⟨6, 1⟩ }))) go .console =
      some .duplicateKey ∧
    gives (staged 2 100 0 0 readOne) go .console = some .badField ∧
    gives (staged 4 0 0 0 readOne) go .console = some .badField := by
  refine ⟨.inl ⟨by decide, rfl⟩, ?_⟩
  and_intros <;> decide +kernel

/-- The tests of COMMIT_NEW, each in turn the first that fails. -/
theorem test_met_CommitNewRefused :
    let go : Instr := .commitNew (ex .console)
    let staged (key : Half) (seats : Byte) (s : State) : State :=
      next s (.stageSet (ex .console) 7 key 1 seats)
    let four (s : State) : State :=
      { s with holds := { s.holds with count := s.holds.count.set .console 4 } }
    FailsFirst [((after one .console).staging.primary.valid = true, .noStage)] .noStage ∧
    (Sent one .console .commitNew 0 ∧ gives one go .console = some .noStage) ∧
    gives (staged k51 1 one) go .console = some .duplicateKey ∧
    gives (staged 0x0061 0 one) go .console = some .badField ∧
    gives (next one (.stageSet (ex .console) 6 0 1 1)) go .console = some .badField ∧
    gives (staged 0x0061 1 (four one)) go .console = some .holdLimit := by
  refine ⟨.inl ⟨by decide +kernel, rfl⟩, ?_⟩
  decide +kernel

theorem test_met_CommitNewPlacesCheck :
    let staged (s : State) := next s (.stageSet (ex .console) 7 0x0061 1 1)
    (Sent (staged one) .console .commitNew 0 ∧
      (after (staged one) .console).staging.primary.valid = true ∧
      (after (staged one) .console).staging.primary.key = some ⟨6, 1⟩ ∧
      (∀ j, ∀ d ∈ (after (staged one) .console).check j, d.key ≠ (⟨6, 1⟩ : Key)) ∧
      (after (staged one) .console).holds.count.console < 4 ∧
      ((after (staged one) .console).allocate.map Prod.fst) = some 1 ∧
      gives (staged one) (.commitNew (ex .console)) .console = some .ok) ∧
    (let kept : State := { ready with table := ⟨Vector.replicate 64 (some mine), 0, 0⟩ }
     Sent (staged kept) .console .commitNew 0 ∧
      (after (staged kept) .console).allocate = none ∧
      gives (staged kept) (.commitNew (ex .console)) .console = some .tableFull) := by
  decide +kernel

/-! ### Items, split plans and holds -/

/-- Waits for the theorems above it, as `pause1` does. -/
def pause6 : Fin 64 := ⟨6, by decide +kernel⟩

/-- An item record with its quantity and price. -/
def cakes (quantity : Byte) (price : Tri) : ItemWire := { cake with quantity := quantity, price := price }

theorem test_met_ItemAddAppendsItem :
    (Sent one .console .itemAdd 0 ∧ Named one .console mine ∧
      CanAdd (after one .console) mine cake ∧
      ((next one (.itemAdd (ex .console) 0 k51 cake)).check 0).map Check.due = some 2200) ∧
    CanAdd (after one .console) mine (cakes 99 0) ∧
    (¬ CanAdd (after one .console) mine (cakes 100 0) ∧
      gives one (.itemAdd (ex .console) 0 k51 (cakes 100 0)) .console = some .badField) ∧
    (¬ CanAdd (after one .console) mine (cakes 10 999999) ∧
      gives one (.itemAdd (ex .console) 0 k51 (cakes 10 999999)) .console =
        some .amountRange) := by
  and_intros <;> decide +kernel

/-- A plan of basis FIXED in two. -/
def fixed : SplitPlan := ⟨.fixed, [⟨550, 0, 0, 0, 0⟩, ⟨550, 0, 0, 0, 0⟩]⟩

/-- An even plan in two, with something paid on share 2. -/
def partly (paid : Nat) : SplitPlan := ⟨.even, [⟨550, 0, 0, 0, 0⟩, ⟨550, 0, paid, 0, 0⟩]⟩

/-- The tests of ITEM_ADD, each in turn the first that fails. -/
theorem test_met_ItemAddRefused :
    let adds (c : Check) : Option ReplyOutcome :=
      gives (seat c ready) (.itemAdd (ex .console) 0 k51 cake) .console
    FailsFirst (addTests one loose cake) .notHolder ∧
    FailsFirst (addTests one mine (cakes 100 0)) .badField ∧
    FailsFirst (addTests { one with pool := ⟨[]⟩ } mine cake) .poolFull ∧
    (adds loose = some .notHolder ∧ adds { mine with scope := .foreign } = some .notOwner ∧
      adds { mine with state := .closing } = some .state ∧
      adds { mine with nextSerial := 256 } = some .checkLimit ∧
      adds { mine with plan := some fixed } = some .splitFixed ∧
      adds { mine with plan := some (partly 1101) } = some .shareUnderrun ∧
      gives { one with pool := ⟨[]⟩ } (.itemAdd (ex .console) 0 k51 cake) .console =
        some .poolFull) := by
  refine ⟨.inl ⟨by decide, rfl⟩,
    .inr ⟨rfl, .inr ⟨rfl, .inr ⟨.inl rfl, .inl ⟨by decide, rfl⟩⟩⟩⟩, ?_, ?_⟩
  · exact .inr ⟨rfl, .inr ⟨rfl, .inr ⟨.inl rfl, .inr ⟨by decide, .inr ⟨by decide, .inr ⟨by decide,
      .inr ⟨by decide, .inr ⟨by decide, .inl ⟨by decide, rfl⟩⟩⟩⟩⟩⟩⟩⟩⟩
  · and_intros <;> decide +kernel

/-- The tests of ITEM_VOID, each in turn the first that fails. -/
theorem test_met_ItemVoidRefused :
    let voids (c : Check) (serial : Byte) : Option ReplyOutcome :=
      gives (seat c ready) (.itemVoid (ex .console) 0 k51 serial) .console
    FailsFirst [((0 : Byte) ≠ 0, .badField)] .badField ∧
    (voids mine 0 = some .badField ∧ voids loose 1 = some .notHolder ∧
      voids { mine with scope := .foreign } 1 = some .notOwner ∧ voids paid 1 = some .state ∧
      voids mine 2 = some .noMatch ∧
      voids { mine with items := [{ tea with status := .voided }] } 1 = some .badField ∧
      voids { mine with plan := some fixed } 1 = some .splitFixed ∧
      voids { mine with approved := 1 } 1 = some .overTender ∧
      voids { mine with plan := some (partly 1) } 1 = some .shareUnderrun) := by
  refine ⟨.inl ⟨by decide, rfl⟩, ?_⟩
  and_intros <;> decide +kernel

theorem test_met_ItemVoidMarksItem :
    Sent one .console .itemVoid 0 ∧ Named one .console mine ∧ mine.holder = some .console ∧
    mine.scope = .owned ∧ mine.state = .opened ∧
    (∃ it ∈ mine.items, it.serial = (1 : Byte).toNat ∧ it.status = .live) ∧
    (∀ p ∈ mine.plan, p.basis ≠ .fixed) ∧ mine.approved ≤ 0 ∧
    ((next one (.itemVoid (ex .console) 0 k51 1)).check 0).map Check.due = some 0 ∧
    (∀ it ∈ mine.items, it.serial ≠ (2 : Byte).toNat) ∧
    gives one (.itemVoid (ex .console) 0 k51 2) .console = some .noMatch ∧
    paid.state ≠ .opened ∧ Named (seat paid ready) .console paid ∧
    gives (seat paid ready) (.itemVoid (ex .console) 0 k51 1) .console = some .state := by
  decide +kernel

/-- `mine` with an even plan in two. -/
def halved : Check :=
  { mine with plan := some ⟨.even, [⟨550, 0, 0, 0, 0⟩, ⟨550, 0, 0, 0, 0⟩]⟩ }

theorem test_met_SplitPlansPlacedAndCleared :
    Named one .console mine ∧ mine.holder = some .console ∧ mine.scope = .owned ∧
    mine.state.Live ∧ mine.reserved = 0 ∧ mine.approved = 0 ∧
    (Sent one .console .splitSet 0 ∧
      gives one (.splitSet (ex .console) 0 k51 1 2 []) .console = some .ok ∧
      gives one (.splitSet (ex .console) 0 k51 1 8 []) .console = some .ok) ∧
    (Sent one .console .splitSet (2 * 2) ∧
      ([2, 0x8000] : List Half).all (fun m => !m.getLsbD 0) = true ∧
      (∀ n, n < 16 → (([2, 0x8000] : List Half).filter (fun m => m.getLsbD n)).length ≤ 1) ∧
      gives one (.splitSet (ex .console) 0 k51 2 2 [2, 0x8000]) .console = some .ok) ∧
    (Sent one .console .splitSet (8 * 3) ∧
      ([1100, 0, 0, 0, 0, 0, 0, 0] : List Tri).length = (8 : Byte).toNat ∧
      (([1100, 0, 0, 0, 0, 0, 0, 0] : List Tri).map BitVec.toNat).sum = mine.due ∧
      gives one (.splitSet (ex .console) 0 k51 3 8 [1100, 0, 0, 0, 0, 0, 0, 0]) .console =
        some .ok) ∧
    (Sent one .console .splitClear 0 ∧ mine.plan = none ∧
      gives one (.splitClear (ex .console) 0 k51) .console = some .noMatch) ∧
    (Named (seat halved ready) .console halved ∧ halved.plan.isSome = true ∧
      gives (seat halved ready) (.splitClear (ex .console) 0 k51) .console = some .ok) := by
  and_intros <;> decide +kernel

/-- The tests of SPLIT_SET and SPLIT_CLEAR, each in turn the first that fails. -/
theorem test_met_SplitRefused :
    let sets (c : Check) (basis count : Byte) (elems : List Tri) : Option ReplyOutcome :=
      gives (seat c ready) (.splitSet (ex .console) 0 k51 basis count elems) .console
    let clears (c : Check) : Option ReplyOutcome :=
      gives (seat c ready) (.splitClear (ex .console) 0 k51) .console
    FailsFirst [(loose.holder = some .console, .notHolder)] .notHolder ∧
    (sets loose 1 2 [] = some .notHolder ∧ clears loose = some .notHolder) ∧
    (sets { mine with scope := .foreign } 1 2 [] = some .notOwner ∧
      clears { halved with scope := .foreign } = some .notOwner) ∧
    (sets { mine with approved := 1 } 1 2 [] = some .state ∧ sets charged 1 2 [] = some .state ∧
      clears charged = some .state ∧ clears { halved with approved := 1 } = some .ok) ∧
    (sets mine 0 2 [] = some .badField ∧ sets mine 4 2 [] = some .badField ∧
      sets mine 1 1 [] = some .badField ∧ sets mine 1 9 [] = some .badField ∧
      sets mine 2 2 [1, 2] = some .badField ∧ sets mine 2 2 [2, 6] = some .badField ∧
      sets mine 3 2 [1100, 1] = some .badField) := by
  refine ⟨.inl ⟨by decide, rfl⟩, ?_⟩
  and_intros <;> decide +kernel

/-- Waits for the theorems above it, as `pause1` does. -/
def pause8 : Fin 64 := ⟨8, by decide +kernel⟩

theorem test_met_TargetsSumToDue :
    (0 < 3 ∧ evenParts 1100 3 = [368, 366, 366]) ∧
    (([2, 4] : List Half) ≠ [] ∧
      (∀ n, n < 16 → (([2, 4] : List Half).filter (fun m => m.getLsbD n)).length ≤ 1) ∧
      seatTargets 1000 1100 [tea] [2, 4] = [1100, 0] ∧
      seatTargets 1000 1100 [{ tea with seat := 0, price := 1000 }] [2, 4] = [550, 550]) := by
  decide +kernel

theorem test_met_HoldDecidedByHolder :
    let c (h : Option Hold) (w : List Port) : Check := { mine with hold := h, waiters := w }
    let four (s : State) : State :=
      { s with holds := { s.holds with count := s.holds.count.set .tender 4 } }
    let free := seat loose ready
    let kept := seat (c (some ⟨.console, 1⟩) []) ready
    let line := seat (c (some ⟨.console, 1⟩) [.tender]) ready
    let busy := { kept with holds := { kept.holds with waits := ⟨none, some 5, none⟩ } }
    let ask : Instr := .hold (ex .tender) 0 k51
    (Sent kept .console .hold 0 ∧ Named kept .console (c (some ⟨.console, 1⟩) []) ∧
      gives kept (.hold (ex .console) 0 k51) .console = some .ok) ∧
    (Sent line .tender .hold 0 ∧ Named line .tender (c (some ⟨.console, 1⟩) [.tender]) ∧
      gives line ask .tender = some .queued) ∧
    (Sent (four free) .tender .hold 0 ∧ Named (four free) .tender loose ∧
      4 ≤ (after (four free) .tender).holds.count.tender ∧
      gives (four free) ask .tender = some .holdLimit) ∧
    (Sent free .tender .hold 0 ∧ Named free .tender loose ∧ gives free ask .tender = some .ok) ∧
    (Sent busy .tender .hold 0 ∧ (after busy .tender).holds.waits.tender ≠ none ∧
      gives busy ask .tender = some .waitBusy) ∧
    (gives (four kept) ask .tender = some .holdLimit) ∧
    (Sent kept .tender .hold 0 ∧ (after kept .tender).holds.waits.tender = none ∧
      gives kept ask .tender = some .queued) := by decide +kernel

theorem test_met_RenewRestartsLease :
    Sent one .console .renew 0 ∧ (after one .console).check 0 = some mine ∧
    mine.key = Key.ofWire k51 ∧ mine.holder = some .console ∧
    gives one (.renew (ex .console) 0 k51) .console = some .ok ∧
    gives one (.renew (ex .console) 64 k51) .console = some .badField ∧
    gives one (.renew (ex .console) 0 0x000F) .console = some .badField ∧
    gives one (.renew (ex .console) 63 k51) .console = some .noMatch ∧
    (Sent one .link .renew 0 ∧ gives one (.renew (ex .link) 0 k51) .link = some .notHolder) := by
  decide +kernel

theorem test_met_HoldsEndByReleaseOrExpiry :
    let line := seat { mine with waiters := [.tender] } ready
    let out := seat { mine with hold := some ⟨.console, 3⟩ } ready
    (Sent line .console .release 0 ∧ mine.holder = some .console ∧
      ((next line (.release (ex .console) 0 0)).check 0).map Check.holder = some (some .tender)) ∧
    (Sent line .tender .release 0 ∧
      ((next line (.release (ex .tender) 0 k51)).check 0).map Check.waiters = some []) ∧
    (Sent line .link .release 0 ∧
      gives line (.release (ex .link) 0 0) .link = some .notHolder ∧
      gives line (.release (ex .link) 64 0) .link = some .badField ∧
      gives line (.release (ex .link) 0 0x0052) .link = some .noMatch ∧
      gives line (.release (ex .link) 63 0) .link = some .notHolder) ∧
    (out.modes.resetHeld = false ∧ out.modes.mode ≠ .sleep ∧
      ((out.advance 3).check 0).map Check.hold = some (some ⟨.console, 0⟩) ∧
      ((next out (.leaseExpiry 0 3)).check 0).map Check.hold = some none) ∧
    (((out.advance 2).check 0).map Check.hold = some (some ⟨.console, 1⟩) ∧
      next out (.leaseExpiry 0 2) = out.advance 2) := by decide +kernel

theorem test_met_EndOfHoldPassesToWaiter :
    let line := seat { loose with waiters := [.tender, .link] } ready
    let spent : State := { line with holds := { line.holds with count := ⟨0, 4, 0⟩ } }
    (ready.tryPending 0).check 0 = none ∧
    (((seat loose ready).tryPending 0).check 0 = some loose ∧ loose.hold = none ∧
      ∀ p ∈ loose.waiters, 4 ≤ ((seat loose ready).tryPending 0).holds.count.get p) ∧
    (((line.endOfHold 0).check 0).map Check.holder = some (some .tender)) ∧
    ((spent.tryPending 0).holds.count.tender = 4 ∧ (spent.tryPending 0).holds.count.link < 4 ∧
      ((spent.endOfHold 0).check 0).map Check.holder = some (some .link)) := by decide +kernel

theorem test_met_SchedulingPlacesDeltas :
    let owing : State := seat { loose with revision := 2 } ready
    ([0] : List (Fin 64)).Pairwise (· < ·) ∧
    (∀ i : Fin 64, i ∈ ([0] : List (Fin 64)) ↔ ∃ c ∈ owing.check i,
      c.state ≠ .closing ∧ c.scope = .owned ∧ c.hold = none ∧ c.revision ≠ c.uplinked) ∧
    owing.uplink.records = [] ∧
    owing.scheduleDeltas.uplink.records = [⟨1, false, some 0, ⟨5, 1⟩, .delta 2⟩] := by
  decide +kernel

/-! ### Streams -/

/-- Waits for the theorems above it, as `pause1` does. -/
def pause3 : Fin 64 := ⟨3, by decide +kernel⟩

theorem test_met_StreamOpenSetsUpStream :
    (Sent one .console .streamOpen 0 ∧ Named one .console mine ∧
      (after one .console).streams.console.isActive = false ∧
      gives one (.streamOpenItemsRead (ex .console) 1 0 k51 0 0 48) .console = some .ok ∧
      (next one (.streamOpenItemsRead (ex .console) 1 0 k51 1 255 1)).streams.console =
        .active { reading with dir := .backward } ∧
      (next one (.streamOpenItemsRead (ex .console) 1 0 k51 0 47 1)).streams.console =
        .done { reading with cursor := 0, remaining := 0 }) ∧
    (Sent (streaming one .console (.active reading)) .console .streamOpen 0 ∧
      gives (streaming one .console (.active reading))
        (.streamOpenItemsRead (ex .console) 1 0 k51 0 0 1) .console = some .streamBusy) ∧
    (Sent one .tender .streamOpen 0 ∧ Named one .tender mine ∧
      gives one (.streamOpenItemsWrite (ex .tender) 0 k51 0 0 1) .tender = some .wrongPort) ∧
    (mine.holder = some .console ∧ mine.scope = .owned ∧ mine.state.Live ∧
      (next one (.streamOpenItemsWrite (ex .console) 0 k51 0 0 2)).streams.console =
        .active writing) := by decide +kernel

/-- The tests of STREAM_OPEN, each in turn the first that fails. -/
theorem test_met_StreamOpenRefused :
    let reads (target i : Byte) (k : Half) (dir start n : Byte) : Option ReplyOutcome :=
      gives one (.streamOpenItemsRead (ex .console) target i k dir start n) .console
    let writes (s : State) (p : Port) (i : Byte) (k : Half) (n : Byte) : Option ReplyOutcome :=
      gives s (.streamOpenItemsWrite (ex p) i k 9 99 n) p
    let busy := streaming one .console (.active reading)
    FailsFirst [((64 : Byte).toNat < 64, .badField)] .badField ∧
    ([reads 0 0 k51 0 0 1, reads 3 0 k51 0 0 1, reads 1 64 k51 0 0 1, reads 1 0 0x0001 0 0 1,
        reads 1 0 k51 0 0 0, reads 1 0 k51 0 0 49, reads 1 0 k51 2 0 1, reads 1 0 k51 0 48 1,
        reads 1 0 k51 0 255 1, writes one .link 64 k51 1, writes one .link 0 k51 49].all
      (fun o => decide (o = some .badField)) = true) ∧
    (reads 1 1 k51 0 0 1 = some .noMatch ∧ reads 1 0 0x0052 0 0 1 = some .noMatch ∧
      gives busy (.streamOpenItemsRead (ex .console) 1 1 k51 0 0 1) .console =
        some .streamBusy) ∧
    (writes one .link 1 k51 1 = some .wrongPort ∧ writes busy .console 1 k51 1 = some .streamBusy ∧
      writes one .console 1 k51 1 = some .noMatch ∧
      writes (seat loose ready) .console 0 k51 1 = some .notHolder ∧
      writes (seat { mine with scope := .foreign } ready) .console 0 k51 1 = some .notOwner ∧
      writes (seat { mine with state := .closing } ready) .console 0 k51 1 = some .state) := by
  refine ⟨.inl ⟨by decide, rfl⟩, ?_⟩
  and_intros <;> decide +kernel

theorem test_met_StreamNextAndCloseByChannel :
    let run (c : Channel) := streaming one .console c
    let get : Instr := .streamNext (ex .console)
    let close : Instr := .streamClose (ex .console)
    (Sent (run .idle) .console .streamNext 0 ∧
      gives (run .idle) get .console = some .streamIdle) ∧
    (Sent (run (.done reading)) .console .streamNext 0 ∧
      gives (run (.done reading)) get .console = some .empty) ∧
    (Sent (run (.aborted reading .gone)) .console .streamNext 0 ∧
      gives (run (.aborted reading .gone)) get .console = some .state) ∧
    (Sent (run (.active writing)) .console .streamNext 0 ∧
      gives (run (.active writing)) get .console = some .state) ∧
    (Sent (run (.active reading)) .console .streamNext 0 ∧
      (after (run (.active reading)) .console).check 0 = some mine ∧
      (next (run (.active reading)) get).streams.console = .done { reading with remaining := 0 }) ∧
    (Sent (run .idle) .console .streamClose 0 ∧
      gives (run .idle) close .console = some .streamIdle) ∧
    (Sent (run (.done reading)) .console .streamClose 0 ∧
      Sent (run (.aborted reading .gone)) .console .streamClose 0 ∧
      (next (run (.aborted reading .gone)) close).streams.console = .idle ∧
      (next (run (.active reading)) close).streams.console = .idle) := by decide +kernel

/-- An image of one item under way on the Link Port. -/
def building : State :=
  streaming { linked ready with floor := ⟨.up, some { parcel 6 17 1 with count := 1 }⟩ } .link
    (.active (imaging 1))

/-- `mine` with a write stream on it. -/
def writer : State := streaming one .console (.active writing)

theorem test_met_StreamPutTakesItemsInTurn :
    (Sent writer .console .streamPut ((2 : Byte).toNat * 27) ∧
      (after writer .console).streams.console = .active writing ∧
      ((after writer .console).check 0).isSome = true ∧
      CanAdd (after writer .console) mine cake ∧
      ((next writer (.streamPut (ex .console) 2 [cake, cake])).check 0).map
        (fun c => c.items.length) = some 3 ∧
      (next writer (.streamPut (ex .console) 2 [cake, cakes 100 0])).streams.console =
        .aborted { writing with remaining := 1, captured := some 2 } (.refused .badField) ∧
      (next writer (.streamPut (ex .console) 1 [cakes 100 0])).streams.console =
        .aborted writing (.refused .badField)) ∧
    (Sent building .link .streamPut (1 * 27) ∧
      (after building .link).floor.assembly = some { parcel 6 17 1 with count := 1 } ∧
      CanJoin (after building .link) { parcel 6 17 1 with count := 1 } cake ∧
      (next building (.streamPut (ex .link) 1 [cake])).streams.link = .done (imaging 0) ∧
      (next building (.streamPut (ex .link) 1 [{ cake with serial := 0 }])).floor.assembly = none ∧
      (next building (.streamPut (ex .link) 1 [{ cake with serial := 0 }])).streams.link =
        .aborted (imaging 1) (.refused .badField)) ∧
    ((next writer (.streamPut (ex .console) 1 [cakes 10 999999])).streams.console =
        .aborted writing (.refused .amountRange) ∧
      (next { building with pool := ⟨[]⟩ } (.streamPut (ex .link) 1 [cake])).streams.link =
        .aborted (imaging 1) (.refused .poolFull)) ∧
    (Sent one .link .streamPut (1 * 27) ∧
      gives one (.streamPut (ex .link) 0 []) .link = some .badField ∧
      gives one (.streamPut (ex .link) 3 []) .link = some .badField ∧
      gives one (.streamPut (ex .link) 1 [cake]) .link = some .streamIdle ∧
      gives (streaming one .link (.done reading)) (.streamPut (ex .link) 1 [cake]) .link =
        some .ok ∧
      gives (streaming one .link (.aborted reading .gone)) (.streamPut (ex .link) 1 [cake]) .link =
        some .state ∧
      gives (streaming one .link (.active reading)) (.streamPut (ex .link) 1 [cake]) .link =
        some .state) := by
  and_intros <;> decide +kernel

/-- The first test that an item fails, on a write stream and on the image stream. -/
theorem test_met_PutFails :
    PutFails (after writer .console) writing (cakes 100 0) .badField ∧
    PutFails (after writer .console) writing (cakes 10 999999) .amountRange ∧
    PutFails (after building .link) (imaging 1) { cake with serial := 0 } .badField := by
  have hw : (after writer .console).check 0 = some mine := by decide +kernel
  refine ⟨?_, ?_, ?_⟩
  · exact ⟨0, mine, rfl, hw, .inr ⟨rfl, .inr ⟨rfl, .inr ⟨.inl rfl, .inl ⟨by decide, rfl⟩⟩⟩⟩⟩
  · exact ⟨0, mine, rfl, hw, .inr ⟨rfl, .inr ⟨rfl, .inr ⟨.inl rfl, .inr ⟨by decide, .inr ⟨by decide,
      .inl ⟨by decide, rfl⟩⟩⟩⟩⟩⟩⟩
  · exact ⟨{ parcel 6 17 1 with count := 1 }, by decide +kernel, .inl ⟨by decide, rfl⟩⟩

/-! ### Tenders -/

/-- Sixteen finished tenders fill the ring. -/
def crowded : State := { one with
  ring := { one.ring with tenders := List.replicate 16 (charge (.finished .declined)), passed := 16 } }

theorem test_met_TenderPostReservesOrSettles :
    let post : PostWire := ⟨0, 1100, 0, 0⟩
    let tip : PostWire := ⟨0, 1, 2, 9999999⟩
    (Sent one .console .tenderPost 0 ∧ Named one .console mine ∧
      PostInRange post .none ∧ PostInRange tip (.fixed 9999999) ∧ PostInRange ⟨8, 1, 1, 0⟩ .prompt ∧
      (after one .console).ring.tenders.length < 16 ∧ (after one .console).commitments + 1 ≤ 48) ∧
    ((next one (.tenderPostCard (ex .console) 0 k51 1 post)).check 0).map Check.state =
      some .tendering ∧
    ((next one (.tenderPostCash (ex .console) 0 k51 post)).check 0).map Check.state =
      some .settled ∧
    ((next one (.tenderPostCash (ex .console) 0 k51 tip)).check 0).map Check.tips = some 9999999 ∧
    gives one (.tenderPostCash (ex .console) 0 k51 ⟨0, 1, 1, 0⟩) .console = some .badField ∧
    (Sent crowded .console .tenderPost 0 ∧ 16 ≤ (after crowded .console).ring.tenders.length ∧
      gives crowded (.tenderPostCard (ex .console) 0 k51 1 post) .console = some .ringFull ∧
      gives crowded (.tenderPostCash (ex .console) 0 k51 post) .console = some .ringFull) ∧
    (Sent (packed one) .console .tenderPost 0 ∧ 48 < (after (packed one) .console).commitments + 1 ∧
      gives (packed one) (.tenderPostCard (ex .console) 0 k51 1 post) .console =
        some .uplinkFull ∧
      gives (packed one) (.tenderPostCash (ex .console) 0 k51 post) .console =
        some .uplinkFull) := by decide +kernel

/-- The tests of TENDER_POST, each in turn the first that fails. -/
theorem test_met_TenderPostRefused :
    let card (c : Check) (cls : Byte) (post : PostWire) : Option ReplyOutcome :=
      gives (seat c ready) (.tenderPostCard (ex .console) 0 k51 cls post) .console
    let cash (c : Check) (post : PostWire) : Option ReplyOutcome :=
      gives (seat c ready) (.tenderPostCash (ex .console) 0 k51 post) .console
    let post (share : Byte) (base : Tri) : PostWire := ⟨share, base, 0, 0⟩
    FailsFirst (postTests one loose 0 1 True) .notHolder ∧
    FailsFirst (postTests one mine 0 1 False) .badField ∧
    ([card mine 3 (post 0 1), card mine 1 (post 9 1), card mine 1 (post 0 0), cash mine (post 0 0),
        card mine 1 (post 0 10000000), card mine 1 ⟨0, 1, 3, 0⟩, cash mine ⟨0, 1, 2, 10000000⟩,
        card mine 1 (post 1 1), cash mine (post 1 1), card halved 1 (post 0 1),
        cash halved (post 3 1)].all (fun o => decide (o = some .badField)) = true) ∧
    (card loose 1 (post 0 1) = some .notHolder ∧ cash loose (post 0 1) = some .notHolder) ∧
    (card { mine with state := .closing } 1 (post 0 1) = some .state ∧
      cash { mine with state := .conflict .retired } (post 0 1) = some .state) ∧
    (card mine 1 (post 0 1101) = some .overTender ∧ cash mine (post 0 1101) = some .overTender ∧
      cash halved (post 2 551) = some .overTender) := by
  refine ⟨.inr ⟨trivial, .inl ⟨by decide, rfl⟩⟩, .inl ⟨id, rfl⟩, ?_⟩
  and_intros <;> decide +kernel

/-- The whole due may be charged, with no plan on share 0 and with one on a share of it. -/
theorem test_met_MayCharge :
    MayCharge mine 0 1100 ∧ ¬ MayCharge mine 0 1101 ∧ MayCharge halved 2 550 ∧
    gives (seat halved ready) (.tenderPostCard (ex .console) 0 k51 1 ⟨2, 550, 0, 0⟩) .console =
      some .ok ∧
    gives (seat halved ready) (.tenderPostCard (ex .console) 0 k51 1 ⟨2, 551, 0, 0⟩) .console =
      some .overTender := by
  refine ⟨⟨rfl, Or.inl rfl, by decide, rfl⟩, fun h => absurd h.2.2.1 (by decide),
    ⟨rfl, Or.inl rfl, by decide, ⟨550, 0, 0, 0, 0⟩, by decide, rfl, by decide⟩, ?_, ?_⟩ <;>
  decide +kernel

theorem test_met_TenderTakeAndProgress :
    (Sent (ringing (.taken .none)) .tender .tenderTake 0 ∧
      (∃ t ∈ (after (ringing (.taken .none)) .tender).ring.tenders, t.isTaken = true) ∧
      gives (ringing (.taken .none)) (.tenderTake (ex .tender)) .tender = some .busy) ∧
    (Sent crowded .tender .tenderTake 0 ∧
      (∀ t ∈ (after crowded .tender).ring.tenders, t.isTaken = false) ∧
      gives crowded (.tenderTake (ex .tender)) .tender = some .empty) ∧
    (Sent (ringing .posted) .tender .tenderTake 0 ∧
      (after (ringing .posted) .tender).ring.tenders = [] ++ charge .posted :: [] ∧
      (after (ringing .posted) .tender).ring.passed = 0 ∧
      (next (ringing .posted) (.tenderTake (ex .tender))).ring.timer = some 30000) ∧
    (Sent (ringing (.taken .none)) .tender .tenderProgress 0 ∧
      (after (ringing (.taken .none)) .tender).ring.tenders = [] ++ charge (.taken .none) :: [] ∧
      (charge (.taken .none)).serial = (9 : Half).toNat ∧
      (next (ringing (.taken .none)) (.tenderProgress (ex .tender) 9 3)).ring.tenders =
        [charge (.taken .authorizing)] ∧
      gives (ringing (.taken .none)) (.tenderProgress (ex .tender) 8 1) .tender =
        some .unknownTender ∧
      gives (ringing (.taken .none)) (.tenderProgress (ex .tender) 0 1) .tender = some .badField ∧
      gives (ringing (.taken .none)) (.tenderProgress (ex .tender) 9 4) .tender =
        some .badField) := by decide +kernel

theorem test_met_TenderPeekFindsPosted :
    Sent (ringing .posted) .tender .tenderPeek 0 ∧
    (after (ringing .posted) .tender).ring.tenders = [] ++ charge .posted :: [] ∧
    gives (ringing .posted) (.tenderPeek (ex .tender)) .tender = some .ok ∧
    gives (ringing (.taken .none)) (.tenderPeek (ex .tender)) .tender = some .empty ∧
    ((ex .link).port ≠ .tender ∧ (one.enter (ex .link)).isSome = true ∧
      gives one (.tenderPeek (ex .link)) .link = some .wrongPort) := by decide +kernel

/-- The part with a TAKEN tender of 5.00 and offline approvals up to a limit. -/
def offlineUpTo (limit : Nat) : State := { ringing (.taken .none) with
  offline := { one.offline with singleLimit := limit, exposureCap := 1000, countCap := 1 } }

theorem test_met_ResultFinishesTakenTender :
    Sent (offlineUpTo 500) .tender .tenderResult 0 ∧
    ResultInRange 9 (answer 500 1) ∧
    (after (offlineUpTo 500) .tender).ring.tenders = [] ++ charge (.taken .none) :: [] ∧
    (charge (.taken .none)).serial = (9 : Half).toNat ∧
    (after (offlineUpTo 500) .tender).check 0 = some charged ∧
    ResultAmounts (answer 500 1) 500 .none ∧ ¬ ResultAmounts (answer 501 1) 500 .none ∧
    OfflineAdmits (after (offlineUpTo 500) .tender) (answer 500 1) ∧
    ((next (offlineUpTo 500) (.tenderResultApproved (ex .tender) 9 1 (answer 500 1))).check 0).map
      Check.approved = some 500 ∧
    (¬ OfflineAdmits (after (offlineUpTo 499) .tender) (answer 500 1) ∧
      gives (offlineUpTo 499) (.tenderResultApproved (ex .tender) 9 1 (answer 500 1)) .tender =
        some .limit) ∧
    ((answer 0 0).amount.toNat = 0 ∧
      ((next (offlineUpTo 0) (.tenderResultDeclined (ex .tender) 9 (answer 0 0))).check 0).map
        Check.state = some .opened) := by
  and_intros <;> decide +kernel

/-- Waits for the theorems above it, as `pause1` does. -/
def pause7 : Fin 64 := ⟨7, by decide +kernel⟩

/-- A result is refused for its fields, its serial, its amounts. -/
theorem test_met_ResultRefused :
    let s := offlineUpTo 500
    let yes (serial : Half) (outcome : Byte) (r : ResultWire) : Option ReplyOutcome :=
      gives s (.tenderResultApproved (ex .tender) serial outcome r) .tender
    let no (serial : Half) (r : ResultWire) : Option ReplyOutcome :=
      gives s (.tenderResultDeclined (ex .tender) serial r) .tender
    FailsFirst [(ResultInRange 0 (answer 1 0) ∧ (1 : Byte) = 1, .badField)] .badField ∧
    (¬ ResultInRange 9 { answer 1 0 with tail := 10000 } ∧
      yes 9 1 { answer 1 0 with tail := 10000 } = some .badField) ∧
    (yes 9 0 (answer 1 0) = some .badField ∧ no 0 (answer 0 0) = some .badField) ∧
    ((∀ t ∈ (after s .tender).ring.tenders, t.serial ≠ (8 : Half).toNat) ∧
      (after s .tender).ring.late = [] ∧ yes 8 1 (answer 1 0) = some .unknownTender ∧
      no 8 (answer 0 0) = some .unknownTender) ∧
    (yes 9 1 (answer 501 0) = some .badField ∧ no 9 (answer 1 0) = some .badField) := by
  refine ⟨.inl ⟨fun h => absurd h.1.1 (by decide), rfl⟩, ?_⟩
  and_intros <;> decide +kernel

theorem test_met_ConflictCancelsPosted :
    (ringing .posted).check 0 = some charged ∧
    (((ringing .posted).enterConflict 0 .retired).check 0).map Check.reserved = some 0 ∧
    ((ringing .posted).enterConflict 0 .retired).ring.tenders =
      [charge (.finished .cancelledByFloor)] := by decide +kernel

/-- A tender of 5.00 on entry 0 in the Late Window. -/
def lateOne : LateEntry := ⟨9, 0, ⟨5, 1⟩, 0, 500, .none⟩

/-- The part with that entry in its Late Window, and a check in entry 0. -/
def latent (c : Check) : State := { seat c ready with
  ring := { one.ring with late := [lateOne], nextSerial := 10 } }

theorem test_met_LateResultsRecorded :
    let short : Check := { mine with state := .tendering, reserved := 1100 }
    let moved : Check := { mine with key := ⟨6, 1⟩ }
    let late : Instr := .tenderResultApproved (ex .tender) 9 1 (answer 500 0)
    (Sent (latent mine) .tender .tenderResult 0 ∧ ResultInRange 9 (answer 500 0) ∧
      (after (latent mine) .tender).ring.tenders = [] ∧
      (after (latent mine) .tender).ring.late = [] ++ lateOne :: [] ∧
      ResultAmounts (answer 500 0) 500 .none ∧
      OfflineAdmits (after (latent mine) .tender) (answer 500 0) ∧
      (after (latent mine) .tender).check 0 = some mine ∧ mine.key = lateOne.key ∧
      ((next (latent mine) late).check 0).map Check.approved = some 500) ∧
    (Sent (latent short) .tender .tenderResult 0 ∧ short.state = .tendering ∧
      500 ≤ short.due ∧ short.due < 500 + short.reserved ∧
      ((next (latent short) late).check 0).map Check.state = some (.conflict .dueBelowPaid)) ∧
    (Sent (latent moved) .tender .tenderResult 0 ∧ moved.key ≠ lateOne.key ∧
      (next (latent moved) late).uplink.records.map UplinkRecord.index = [none]) ∧
    ((next (latent mine) (.tenderResultDeclined (ex .tender) 9 (answer 0 0))).ring.late = []) ∧
    (Sent (latent mine) .console .lateClear 0 ∧
      (next (latent mine) (.lateClear (ex .console))).ring.late = []) := by
  decide +kernel

/-- A late result is refused for its amounts, and where no offline approval is admitted. -/
theorem test_met_LateResultsRefused :
    let yes (r : ResultWire) : Option ReplyOutcome :=
      gives (latent mine) (.tenderResultApproved (ex .tender) 9 1 r) .tender
    (¬ ResultAmounts (answer 501 0) 500 .none ∧ yes (answer 501 0) = some .badField) ∧
    (gives (latent mine) (.tenderResultDeclined (ex .tender) 9 (answer 1 0)) .tender =
      some .badField) ∧
    (ResultAmounts (answer 500 1) 500 .none ∧
      ¬ OfflineAdmits (after (latent mine) .tender) (answer 500 1) ∧
      yes (answer 500 1) = some .limit) := by
  and_intros <;> decide +kernel

theorem test_met_TenderCancelReapStatus :
    let fin := ringing (.finished .declined)
    (Sent (ringing .posted) .console .tenderCancel 0 ∧ (9 : Half) ≠ 0 ∧
      (after (ringing .posted) .console).ring.tenders = [] ++ charge .posted :: [] ∧
      (after (ringing .posted) .console).check 0 = some charged ∧
      ((next (ringing .posted) (.tenderCancel (ex .console) 9)).check 0).map Check.state =
        some .opened ∧
      gives (ringing .posted) (.tenderCancel (ex .console) 8) .console = some .unknownTender) ∧
    (Sent (ringing (.taken .none)) .console .tenderCancel 0 ∧
      (next (ringing (.taken .none)) (.tenderCancel (ex .console) 9)).ring.tenders =
        [{ charge (.taken .none) with cancelRequested := true }]) ∧
    (Sent fin .console .tenderCancel 0 ∧
      gives fin (.tenderCancel (ex .console) 9) .console = some .state ∧
      gives fin (.tenderCancel (ex .console) 0) .console = some .badField) ∧
    (Sent fin .console .tenderReap 0 ∧ (next fin (.tenderReap (ex .console))).ring.tenders = [] ∧
      gives (ringing .posted) (.tenderReap (ex .console)) .console = some .empty ∧
      gives one (.tenderReap (ex .console)) .console = some .empty) ∧
    (Sent fin .console .tenderStatus 0 ∧
      gives fin (.tenderStatus (ex .console) 0) .console = some .badField ∧
      gives fin (.tenderStatus (ex .console) 9) .console = some .ok ∧
      gives fin (.tenderStatus (ex .console) 8) .console = some .unknownTender) ∧
    (Sent (latent mine) .console .tenderStatus 0 ∧
      gives (latent mine) (.tenderStatus (ex .console) 9) .console = some .ok) := by decide +kernel

theorem test_met_TenderTimeoutEntersLateWindow :
    let s := ringing (.taken .none)
    ((s.advance 30000).ring.timer = some 0 ∧
      (s.advance 30000).ring.tenders = [] ++ charge (.taken .none) :: [] ∧
      (s.advance 30000).check 0 =
        some { charged with hold := some ⟨.console, 0⟩ } ∧
      (next s (.tenderTimeout 30000)).ring.late = [lateOne]) ∧
    ((s.advance 29999).ring.timer ≠ some 0 ∧
      next s (.tenderTimeout 29999) = s.advance 29999) := by decide +kernel

theorem test_met_TotalsLatchReadClear :
    let t : Totals := ⟨1, 2, 3, 4, 5, 6, 7, 8⟩
    let s : State := { one with totals := ⟨t, none⟩ }
    let l := next s (.totalsLatch (ex .console))
    (Sent s .console .totalsLatch 0 ∧ (after s .console).totals.snapshot = none ∧
      l.totals = ⟨t, some t⟩) ∧
    (Sent l .console .totalsLatch 0 ∧ (after l .console).totals.snapshot = some t ∧
      next l (.totalsRead (ex .console)) = { next s (.totalsRead (ex .console)) with
        ports := (next l (.totalsRead (ex .console))).ports }) ∧
    (Sent s .console .totalsRead 0 ∧ Sent s .console .totalsClear 0 ∧
      (next l (.totalsClear (ex .console))).totals = ⟨Totals.zero, none⟩) ∧
    ((ex .link).port ≠ .console ∧ (s.enter (ex .link)).isSome = true ∧
      gives s (.totalsClear (ex .link)) .link = some .wrongPort) := by decide +kernel

/-! ### Link, images, retirements and the Uplink Queue -/

/-- The part with its link UP and an assembly whose IMAGE stream is DONE. -/
def imaged (a : Assembly) (s : State) : State :=
  streaming { s with floor := ⟨.up, some a⟩ } .link (.done (imaging 0))

theorem test_met_LinkUpAndImageAssembly :
    let image (count : Byte) : Instr := .imageBegin (ex .link) 0x0061 1 250 99 15 count
    (Sent one .link .linkState 0 ∧ (after one .link).floor.link = .down ∧
      gives one (.linkStateUp (ex .link) 2) .link = some .badField ∧
      (next one (.linkStateUp (ex .link) 1)).floor.link = .up ∧
      gives (linked one) (.linkStateUp (ex .link) 1) .link = some .ok) ∧
    (Sent (linked one) .link .imageBegin 0 ∧ (after (linked one) .link).floor.assembly = none ∧
      gives one (image 48) .link = some .linkDown ∧
      gives (linked one) (image 49) .link = some .badField ∧
      gives (imaged (parcel 6 17 1) one) (image 0) .link = some .busy ∧
      gives (streaming (linked one) .link (.active reading)) (image 0) .link = some .streamBusy ∧
      gives (linked one) (image 48) .link = some .ok ∧
      (next (linked one) (image 0)).streams.link.isActive = false) ∧
    (Sent (linked one) .link .imageAbort 0 ∧
      gives (linked one) (.imageAbort (ex .link)) .link = some .state ∧
      gives (imaged (parcel 6 17 1) one) (.imageAbort (ex .link)) .link = some .ok) := by
  decide +kernel

/-- Waits for the theorems above it, as `pause1` does. -/
def pause4 : Fin 64 := ⟨4, by decide +kernel⟩

theorem test_met_LinkDownReturnsSent :
    let s := queueing (linked one) [record 1 true (.delta 1), record 2 false (.close 2)]
    let m : State := { s with uplink := { s.uplink with mark := some 1 } }
    (Sent m .link .linkState 0 ∧ (after m .link).floor.link = .up ∧
      ((after m .link).uplink.records.map UplinkRecord.seq).Nodup ∧
      (after m .link).uplink.records = [] ++ record 1 true (.delta 1) :: [record 2 false (.close 2)] ∧
      (after m .link).uplink.mark = some (record 1 true (.delta 1)).seq ∧
      (next m (.linkStateDown (ex .link))).uplink.records = [record 2 false (.close 2)] ∧
      (next m (.linkStateDown (ex .link))).uplink.mark = some 2) ∧
    ((after s .link).uplink.mark = none) ∧
    (let d := queueing (linked one) [record 1 true (.delta 1), record 2 true (.delta 1),
        record 3 false (.delta 2)]
     let m : State := { d with uplink := { d.uplink with mark := some 1 } }
     (after m .link).uplink.records = [] ++ record 1 true (.delta 1) ::
        ([record 2 true (.delta 1)] ++ record 3 false (.delta 2) :: []) ∧
      (next m (.linkStateDown (ex .link))).uplink.records = [record 3 false (.delta 2)] ∧
      (next m (.linkStateDown (ex .link))).uplink.mark = some 3) ∧
    (Sent one .link .linkState 0 ∧ (after one .link).floor.link = .down ∧
      gives one (.linkStateDown (ex .link)) .link = some .ok) := by decide +kernel

theorem test_met_FloorChangesApplied :
    let owed : Check := { loose with pendingUplink := 1 }
    one.check 0 = some mine ∧
    (((seat paid ready).applyImage 0 2 17 1 4 []).check 0).map Check.state =
      some (.conflict .dueBelowPaid) ∧
    ((one.applyImage 0 2 17 1 4 []).check 0).map Check.state = some .opened ∧
    (0 < charged.reserved ∧ (((seat charged ready).applyRetire 0 2).check 0).map Check.state =
      some (.conflict .retired)) ∧
    (owed.reserved = 0 ∧ 0 < owed.pendingUplink ∧
      (((seat owed ready).applyRetire 0 2).check 0).map Check.state = some .closing) ∧
    (loose.reserved = 0 ∧ loose.pendingUplink = 0 ∧
      ((seat loose ready).applyRetire 0 2).check 0 = none) := by decide +kernel

theorem test_met_FreedEntryReleasesAll :
    one.check 0 = some mine ∧ (one.freeEntry 0).check 0 = none ∧
    (one.freeEntry 0).pool.free.length = 512 := by decide +kernel

/-- `loose`, known to the floor at revision 1. -/
def seen : Check := { loose with server := some 1 }

/-- `loose` while it is closing. -/
def closing : Check := { loose with state := .closing }

/-- `loose` with an edit the floor has not been told. -/
def owing : Check := { loose with revision := 2 }

/-- The premises of IMAGE_END and RETIRE on checks that may take, must defer or refuse a change. -/
theorem test_met_NoNewer_MustWait_TransferWaits :
    NoNewer seen 1 ∧ ¬ NoNewer loose 1 ∧ ¬ NoNewer closing 1 ∧ ¬ NoNewer mine 1 ∧
    MustWait mine ∧ MustWait { loose with state := .conflict .retired } ∧ ¬ MustWait loose ∧
    TransferWaits ready 0 owing ∧ ¬ TransferWaits ready 0 loose := by
  refine ⟨Or.inl ⟨1, rfl, Nat.le_refl 1⟩, ?_, ?_, ?_, Or.inr (Or.inl rfl), Or.inl ⟨_, rfl⟩, ?_,
    Or.inl (by decide), ?_⟩
  · rintro (⟨r, h, -⟩ | ⟨g, h, -⟩) <;> cases h
  · rintro (⟨r, h, -⟩ | ⟨g, h, -⟩) <;> cases h
  · rintro (⟨r, h, -⟩ | ⟨g, h, -⟩) <;> cases h
  · rintro (⟨k, h⟩ | h | h) <;> cases h
  · rintro (h | ⟨r, h, -⟩)
    · exact h rfl
    · cases h

theorem test_met_ImageEndAppliesRules :
    let finish : Instr := .imageEnd (ex .link)
    let five (s : State) := imaged (parcel 5 17 1) s
    let other (s : State) := imaged (parcel 5 3 1) s
    let foreign : Check := { loose with scope := .foreign, owner := 3 }
    let on (c : Check) (a : Assembly) := imaged a (seat c ready)
    (Sent (linked one) .link .imageEnd 0 ∧ (after (linked one) .link).floor.assembly = none ∧
      gives (linked one) finish .link = some .state ∧
      gives building finish .link = some .state) ∧
    (Sent (imaged (parcel 6 17 1) one) .link .imageEnd 0 ∧
      (after (imaged (parcel 6 17 1) one) .link).streams.link.isActive = false ∧
      (∀ i, ∀ c ∈ (after (imaged (parcel 6 17 1) one) .link).check i, c.key ≠ (⟨6, 1⟩ : Key)) ∧
      ((after (imaged (parcel 6 17 1) one) .link).allocate.map Prod.fst) = some 1 ∧
      gives (imaged (parcel 6 17 1) one) finish .link = some .ok ∧
      gives (imaged (parcel 6 17 1) { full with table := ⟨Vector.replicate 64 (some mine), 0, 0⟩ })
        finish .link = some .tableFull) ∧
    Sent (five (seat seen ready)) .link .imageEnd 0 ∧
    (gives (five (seat seen ready)) finish .link = some .stale) ∧
    (gives (five (seat closing ready)) finish .link = some .state) ∧
    (gives (five one) finish .link = some .deferred) ∧
    (loose.scope = .owned ∧
      ((next (five (seat loose ready)) finish).check 0).map Check.server = some (some 1)) ∧
    (gives (other (seat owing ready)) finish .link = some .deferred) ∧
    (((next (other (seat loose ready)) finish).check 0).map Check.scope = some .foreign) ∧
    (foreign.scope = .foreign ∧
      ((next (on foreign (parcel 5 17 1)) finish).check 0).map Check.scope = some .owned) := by
  decide +kernel

theorem test_met_RetireByTests :
    let ask (k : Half) : Instr := .retire (ex .link) k 1
    (Sent one .link .retire 0 ∧ gives one (ask 0x000F) .link = some .badField ∧
      gives one (ask k51) .link = some .linkDown ∧
      gives (linked one) (ask 0x0052) .link = some .noMatch) ∧
    (gives (linked (seat seen ready)) (ask k51) .link = some .stale) ∧
    (closing.state = .closing ∧
      ((next (linked (seat closing ready)) (ask k51)).check 0).map Check.server =
        some (some 1)) ∧
    (gives (linked one) (ask k51) .link = some .deferred) ∧
    ((next (linked (seat loose ready)) (ask k51)).check 0 = none) := by
  decide +kernel

theorem test_met_PendingImageRetried :
    let has (c : Check) (server : Nat) (b : PendingBody) : Check :=
      { c with image := some ⟨server, b⟩ }
    let image (owner : Nat) : PendingBody := .image owner 1 4 []
    let try' (c : Check) := (seat c ready).tryPending 0
    let shut : Check := { loose with state := .closing }
    (loose.image = none ∧ try' loose = seat loose ready) ∧
    (try' (has { loose with server := some 2 } 2 .retire) = seat { loose with server := some 2 } ready) ∧
    (try' (has shut 2 (image 17)) = seat shut ready) ∧
    (try' (has mine 2 (image 17)) = seat (has mine 2 (image 17)) ready) ∧
    (try' (has loose 2 (image 17)) = seat { loose with server := some 2 } ready) ∧
    (try' (has { loose with revision := 2 } 2 (image 3)) =
      seat (has { loose with revision := 2 } 2 (image 3)) ready) ∧
    (((try' (has loose 2 (image 3))).check 0).map Check.scope = some .foreign) ∧
    (try' (has shut 2 .retire) = seat { shut with server := some 2 } ready) ∧
    (try' (has mine 2 .retire) = seat (has mine 2 .retire) ready) ∧
    ((try' (has loose 2 .retire)).check 0 = none) := by decide +kernel

theorem test_met_UplinkNextAndMark :
    let s := queueing (linked one) [record 1 false (.close 1)]
    let t := next s (.uplinkNext (ex .link))
    (Sent one .link .uplinkNext 0 ∧ gives one (.uplinkNext (ex .link)) .link = some .linkDown) ∧
    (Sent s .link .uplinkNext 0 ∧ (after s .link).sentCount < (after s .link).uplink.window ∧
      (after s .link).uplink.records = [] ++ record 1 false (.close 1) :: [] ∧
      t.uplink.records = [record 1 true (.close 1)]) ∧
    (Sent t .link .uplinkNext 0 ∧ (after t .link).uplink.window ≤ (after t .link).sentCount ∧
      gives t (.uplinkNext (ex .link)) .link = some .windowFull) ∧
    (gives (linked one) (.uplinkNext (ex .link)) .link = some .empty) ∧
    (Sent s .console .mark 0 ∧ (after s .console).uplink.records = [] ++ [record 1 false (.close 1)] ∧
      (next s (.mark (ex .console))).uplink.mark = some 1) ∧
    (Sent one .console .mark 0 ∧ (after one .console).uplink.records = [] ∧
      gives one (.mark (ex .console)) .console = some .ok) := by decide +kernel

theorem test_met_UplinkAckRemovesRecords :
    let shut : Check := { loose with state := .closing, pendingUplink := 1 }
    let s := queueing (linked (seat shut ready))
      [record 1 true (.close 1), { record 2 false (.delta 1) with index := none }]
    let m (n : Nat) : State := { s with uplink := { s.uplink with mark := some n } }
    let ack (n : Half) : Instr := .uplinkAck (ex .link) n
    (Sent (m 1) .link .uplinkAck 0 ∧ gives (m 1) (ack 0) .link = some .badField ∧
      gives (m 1) (ack 2) .link = some .unknownSeq) ∧
    ((after (m 1) .link).uplink.records = [] ++ record 1 true (.close 1) ::
        [{ record 2 false (.delta 1) with index := none }] ∧
      (after (m 1) .link).check 0 = some shut ∧ shut.pendingUplink ≤ 1 ∧
      (next (m 1) (ack 1)).check 0 = none ∧ (next (m 1) (ack 1)).uplink.mark = none) ∧
    ((next (m 2) (ack 1)).uplink.mark = some 2) ∧
    (let n := queueing (linked (seat { loose with pendingUplink := 1 } ready))
        [record 1 true (.delta 1)]
     Sent n .link .uplinkAck 0 ∧ (next n (ack 1)).check 0 = some loose) ∧
    (let two := queueing (linked (seat { shut with pendingUplink := 2 } ready))
        [record 1 true (.delta 1), record 2 true (.close 1)]
     Sent two .link .uplinkAck 0 ∧ (next two (ack 1)).check 0 = some shut) ∧
    (let wait : Check := { loose with
       scope := .foreign, pendingUplink := 1, server := some 1, image := some ⟨2, .retire⟩ }
     let n := queueing (linked (seat wait ready)) [record 1 true (.resolve .keep 0)]
     Sent n .link .uplinkAck 0 ∧ (next n (ack 1)).check 0 = none) := by decide +kernel

/-! ### What every step keeps -/

theorem test_met_StepsKeepUplinkFigures :
    let s : State := { queueing (linked one) [record 1 true (.delta 1), record 2 false (.close 1)]
      with pending := [.uplinkAck (ex .link) 1] }
    s.SentFirst ∧ s.CommitmentsBounded ∧ s.ExposureAgrees ∧
    (stepped s).uplink.records = [record 2 false (.close 1)] := by decide +kernel

theorem test_met_StepsKeepKeysDistinct :
    let s : State := { readOne with pending := [.commitNew (ex .console)] }
    s.KeysDistinct ∧ s.ScopesAgree ∧ s.CursorInRange ∧
    (stepped s).ports.slot.console.outcome = .duplicateKey := by decide +kernel

/-- At reset the one chain is the free list. -/
theorem test_met_StepsKeepPoolPartition :
    let s : State := { ready with pending := [.nop (ex .link)] }
    s.PoolPartitioned ∧ (stepped s).ports.slot.link.outcome = .ok := by
  have h : (State.chainedRecords { ready with pending := [.nop (ex .link)] }) = List.range 512 := by
    decide +kernel
  refine ⟨?_, by decide +kernel⟩
  show (State.chainedRecords { ready with pending := [.nop (ex .link)] }).Perm (List.range 512)
  rw [h]

theorem test_met_StepsKeepSerials :
    let s : State := { one with pending := [.itemAdd (ex .console) 0 k51 cake] }
    s.SerialsRise ∧ ((stepped s).check 0).map (fun c => c.items.map Item.serial) = some [1, 2] := by
  decide +kernel

theorem test_met_StepsKeepHolds :
    let s : State := { seat { mine with waiters := [.tender] } ready with
      pending := [.release (ex .console) 0 k51] }
    s.HoldsAgree ∧ (stepped s).holds.count = ⟨0, 1, 0⟩ := by decide +kernel

theorem test_met_StepsKeepRingOrder :
    let s : State := { ringing .posted with pending := [.tenderTake (ex .tender)] }
    s.RingOrdered ∧ (stepped s).takenTender.isSome = true := by decide +kernel

/-- Waits for the theorems above it, as `pause1` does. -/
def pause5 : Fin 64 := ⟨5, by decide +kernel⟩

theorem test_met_StepsKeepAttachments :
    let s : State := { ringing .posted with pending := [.tenderCancel (ex .console) 9] }
    s.EntriesAttached ∧ ((stepped s).check 0).map Check.reserved = some 0 := by decide +kernel

theorem test_met_StepsKeepAssemblyLampSleep :
    let s : State := { imaged (parcel 6 17 1) one with
      pending := [.streamClose (ex .link)] }
    s.AssemblyStreams ∧ s.LampAgrees ∧ s.MasksInRange ∧ s.SleepQuiet ∧ s.StagingForm ∧
    (stepped s).floor.assembly = none := by decide +kernel

/-- Each line of R158's table, at the boundary of its condition. -/
theorem test_met_lamp_table :
    let near (exposure : Nat) : State := { ready with
      offline := { ready.offline with exposureCap := 40000, exposure := exposure } }
    let queue (n : Nat) (s : State) : State := queueing s (List.replicate n (record 1 false (.close 1)))
    ((near 30000).tablePattern = .fast ∧ (near 29999).tablePattern = .dark) ∧
    ((queue 40 ready).tablePattern = .fast ∧ (queue 39 ready).tablePattern = .slow) ∧
    ((queue 1 (linked ready)).tablePattern = .steady ∧ ready.tablePattern = .dark) ∧
    (queue 40 (inMode .doze false none)).tablePattern = .dark ∧
    (queue 1 ready).relamp.uplink.lamp = ⟨.slow, 0⟩ := by decide +kernel

end Sys2Proof.Tests
end

section
/-!
SUPPORT. STAGE_SET, READ, STAGE_GET and EXCHANGE (R28 to R31): what each rule answers in each of its
cases, and what an exchange that is taken and answered leaves of the staging records.
-/

namespace Sys2Proof.Machine

/-! ### The instructions and their rules -/

theorem exec_stageSet (x : Exch) (selection : Byte) (key : Half) (covers seats : Byte) (s : State) :
    exec (.stageSet x selection key covers seats) s =
      request .stageSet x 0 (stageSetRule selection key covers seats) s := rfl

theorem exec_read (x : Exch) (index : Byte) (s : State) :
    exec (.read x index) s = request .read x 0 (readRule index) s := rfl

theorem exec_stageGet (x : Exch) (selector : Byte) (s : State) :
    exec (.stageGet x selector) s = execStageGet x selector s := rfl

theorem exec_exchange (x : Exch) (s : State) : exec (.exchange x) s = execExchange x s := rfl

/-- The four requests that load, show, edit and swap the records come from the Console Port alone. -/
theorem permitted_iff_console_of_staging (q : Req)
    (hq : q = .stageSet ∨ q = .read ∨ q = .stageGet ∨ q = .exchange) (p : Port) :
    q.permitted p = true ↔ p = .console := by
  rcases hq with rfl | rfl | rfl | rfl <;> simp [Req.permitted]

/-! ### The staging records along an exchange -/

theorem State.enter_staging {s u : State} {x : Exch} (h : s.enter x = some u) :
    u.staging = s.staging := by
  obtain ⟨-, rfl | ⟨-, rfl⟩ | ⟨-, -, rfl⟩⟩ := s.enter_cases x u h <;> simp

@[simp] theorem State.replied_staging (w : State) (q : Req) (x : Exch) (o : ReplyOutcome)
    (body : List Byte) : (w.replied q x o body).staging = w.staging := by
  simp [State.replied]

/-! ### Byte indices -/

theorem idx?_of_lt {b : Byte} (h : b.toNat < 64) : idx? b = some ⟨b.toNat, h⟩ := dif_pos h

theorem idx?_of_le {b : Byte} (h : 64 ≤ b.toNat) : idx? b = none := dif_neg (Nat.not_lt.2 h)

/-! ### STAGE_SET -/

/-- An invalid record prepared by STAGE_SET keeps its probe index alone. -/
theorem StagingRecord.prepared_eq (r : StagingRecord) :
    r.prepared = if r.valid then r else
      { valid := true, target := none, probe := r.probe, origKey := none, captured := 0, key := none
        covers := 0, seats := 0, scopeCopy := none, stateCopy := none } := rfl

/-- A selection that is empty or beyond the three fields, or selects a key of table 0, is refused. -/
theorem stageSetRule_refused {selection : Byte} {key : Half} (covers seats : Byte) (u : State)
    (h : selection = 0 ∨ 7 < selection.toNat ∨
      (selection.getLsbD 0 = true ∧ (Key.ofWire key).table = 0)) :
    stageSetRule selection key covers seats u = u.refuse .badField := by
  refine State.tested_of_firstFailure _ ?_
  by_cases hrange : 1 ≤ selection.toNat ∧ selection.toNat ≤ 7
  · obtain rfl | habove | ⟨hkey, htable⟩ := h
    · exact absurd hrange.1 (by decide)
    · omega
    · simp [firstFailure, hrange, hkey, keyNamed, htable]
  · simp [firstFailure, hrange]

/-- A selection of one to three fields, with a key that names a table where it selects the key, is
written into the prepared primary record. -/
theorem stageSetRule_accepted {selection : Byte} {key : Half} (covers seats : Byte) (u : State)
    (hlow : 1 ≤ selection.toNat) (hhigh : selection.toNat ≤ 7)
    (hkey : selection.getLsbD 0 = true → (Key.ofWire key).table ≠ 0) :
    stageSetRule selection key covers seats u =
      (u.setPrimary (u.staging.primary.prepared.write selection key covers seats)).accept
        (u.staging.primary.prepared.write selection key covers seats).wire := by
  refine State.tested_of_all _ _ _ ?_
  cases hsel : selection.getLsbD 0 with
  | false => simp [hlow, hhigh]
  | true => simpa [hlow, hhigh, keyNamed] using hkey hsel

/-! ### READ -/

/-- A READ without an index, or from a FREE entry, finds nothing. -/
theorem State.readFrom_of_free {u : State} {chosen : Option (Fin 64)}
    (h : ∀ i, chosen = some i → u.check i = none) : u.readFrom chosen = u.refuse .noMatch := by
  cases chosen with
  | none => rfl
  | some i => simp [State.readFrom, h i rfl]

/-- A READ from an entry with a check loads the primary record. -/
theorem State.readFrom_of_check {u : State} {i : Fin 64} {c : Check} (h : u.check i = some c) :
    u.readFrom (some i) =
      (u.setPrimary (u.staging.primary.load i c)).accept (u.staging.primary.load i c).wire := by
  simp [State.readFrom, h]

/-- An index that is neither an entry's nor the probe choice is refused. -/
theorem readRule_of_out_of_range {index : Byte} (u : State) (h : 64 ≤ index.toNat)
    (hprobe : index ≠ 0xFE) : readRule index u = u.refuse .badField := by
  unfold readRule
  rw [if_neg hprobe, idx?_of_le h]

/-- The probe choice and an entry's index are read from the entry they choose. -/
theorem readRule_of_in_range {index : Byte} (u : State) (h : index.toNat < 64 ∨ index = 0xFE) :
    readRule index u =
      u.readFrom (if index = 0xFE then u.staging.primary.probe else idx? index) := by
  unfold readRule
  split
  · rfl
  · next hprobe => rw [idx?_of_lt (h.resolve_right hprobe)]

/-- An index that chooses an entry is an entry's or the probe choice. -/
theorem in_range_of_chosen {index : Byte} {probe : Option (Fin 64)} {i : Fin 64}
    (h : (if index = 0xFE then probe else idx? index) = some i) :
    index.toNat < 64 ∨ index = 0xFE := by
  by_contra hout
  obtain ⟨hge, hprobe⟩ := not_or.1 hout
  rw [if_neg hprobe, idx?_of_le (Nat.not_lt.1 hge)] at h
  exact absurd h (Option.some_ne_none i).symm

/-! ### EXCHANGE -/

/-- An EXCHANGE that is taken and admitted swaps the records and carries the new primary. -/
theorem exec_exchange_of_served {x : Exch} {s u : State} (he : s.enter x = some u)
    (hs : u.Serves .exchange x 0) :
    exec (.exchange x) s =
      .next ({ u with staging :=
          { primary := u.staging.alternate, alternate := u.staging.primary } }.replied
        .exchange x .ok u.staging.alternate.wire) := by
  rw [exec_exchange]
  exact request_of_served he hs rfl

/-- What EXCHANGE leaves of the records, whatever taking it and replying to it do besides. -/
theorem staging_of_exec_exchange {x : Exch} {s u t : State} (he : s.enter x = some u)
    (hs : u.Serves .exchange x 0) (ht : exec (.exchange x) s = .next t) :
    t.staging = { primary := s.staging.alternate, alternate := s.staging.primary } := by
  rw [exec_exchange_of_served he hs] at ht
  cases ht
  rw [State.replied_staging, State.enter_staging he]

/-! ### The obligations -/

/-- Settles O20, by the two answers of STAGE_SET's rule. -/
theorem stageSetWritesSelected : Obligations.StageSetWritesSelected := by
  unfold Obligations.StageSetWritesSelected
  refine ⟨permitted_iff_console_of_staging .stageSet (.inl rfl), ?_⟩
  intro x selection key covers seats s u he hs
  refine ⟨fun hbad => ?_, fun hlow hhigh hkey => ?_⟩
  · rw [exec_stageSet]
    exact request_of_served he hs (stageSetRule_refused covers seats u hbad)
  · rw [exec_stageSet, ← StagingRecord.prepared_eq]
    exact request_of_served he hs (stageSetRule_accepted covers seats u hlow hhigh hkey)

/-- Settles O21, request by request; the double EXCHANGE swaps twice. -/
theorem stagingReadGetExchange : Obligations.StagingReadGetExchange := by
  unfold Obligations.StagingReadGetExchange
  refine ⟨?permitted, ?read, ?stageGet, fun x s u he hs => exec_exchange_of_served he hs, ?twice⟩
  case permitted =>
    intro q hq
    exact permitted_iff_console_of_staging q (.inr (by simpa using hq))
  case read =>
    intro x index s u he hs
    refine ⟨fun hge hprobe => ?_, fun hin hfree => ?_, fun i c hi hc => ?_⟩ <;> rw [exec_read]
    · exact request_of_served he hs (readRule_of_out_of_range u hge hprobe)
    · exact request_of_served he hs
        ((readRule_of_in_range u hin).trans (State.readFrom_of_free hfree))
    · refine request_of_served he hs ?_
      rw [readRule_of_in_range u (in_range_of_chosen hi), hi, State.readFrom_of_check hc]
      rfl
  case stageGet =>
    intro x selector s u he hs
    rw [exec_stageGet]
    refine ⟨fun h0 => ?_, fun h1 => ?_, fun hbeyond => ?_⟩
    · exact request_of_served he hs (if_pos h0)
    · subst h1
      exact request_of_served he hs rfl
    · have h0 : selector ≠ 0 := by rintro rfl; exact absurd hbeyond (by decide)
      have h1 : selector ≠ 1 := by rintro rfl; exact absurd hbeyond (by decide)
      exact request_of_served he hs ((if_neg h0).trans (if_neg h1))
  case twice =>
    intro x y s u t v w he hs ht he' hs' hw
    rw [staging_of_exec_exchange he' hs' hw, staging_of_exec_exchange he hs ht]

end Sys2Proof.Machine
end

section
/-!
SUPPORT. RENEW (R69): what a request about an entry answers where index and key name none, and what
RENEW answers its holder and every other port.
-/

namespace Sys2Proof.Machine

/-! ### Names that name no entry -/

/-- An index beyond the table or a key of table 0 is refused, whatever the request would do. -/
theorem State.onNamed_of_out_of_range {u : State} {index : Byte} {key : Half}
    (k : Fin 64 → Check → Ans) (h : 64 ≤ index.toNat ∨ (Key.ofWire key).table = 0) :
    u.onNamed index key k = u.refuse .badField := by
  have hnamed : u.named index key = .error .badField := by
    unfold State.named
    obtain hindex | htable := h
    · rw [idx?_of_le hindex]
    · cases idx? index <;> simp [keyNamed, htable]
  rw [State.onNamed, hnamed]

/-- An entry that is FREE or carries another key is refused, whatever the request would do. -/
theorem State.onNamed_of_no_match {u : State} {index : Byte} {key : Half} {i : Fin 64}
    (k : Fin 64 → Check → Ans) (hindex : index.toNat = i.val) (htable : (Key.ofWire key).table ≠ 0)
    (hother : ∀ c ∈ u.check i, c.key ≠ Key.ofWire key) :
    u.onNamed index key k = u.refuse .noMatch := by
  have hidx : idx? index = some i := by
    rw [idx?_of_lt (hindex ▸ i.isLt)]
    exact congrArg some (Fin.ext hindex)
  have hkey : keyNamed key = true := decide_eq_true htable
  have hnamed : u.named index key = .error .noMatch := by
    unfold State.named
    cases hc : u.check i with
    | none => simp [hidx, hkey, hc]
    | some c => simp [hidx, hkey, hc, hother c hc]
  rw [State.onNamed, hnamed]

/-! ### RENEW -/

/-- What RENEW answers once its index and key name an entry. -/
def State.renewCases (u : State) (p : Port) (i : Fin 64) (c : Check) : Ans :=
  u.tested [(decide (c.holder = some p), .notHolder)] ((u.restartLease i).accept [])

theorem exec_renew (x : Exch) (index : Byte) (key : Half) (s : State) :
    exec (.renew x index key) s =
      request .renew x 0 (fun u => u.onNamed index key (u.renewCases x.port)) s := rfl

/-- Restarting the lease of a held entry leaves its holder a hold at full length. -/
theorem State.restartLease_of_holder {u : State} {p : Port} {i : Fin 64} {c : Check}
    (hc : u.check i = some c) (hp : c.holder = some p) :
    u.restartLease i = u.putCheck i (some { c with hold := u.freshHold p }) := by
  obtain ⟨hold, hhold, rfl⟩ := Option.map_eq_some_iff.1 hp
  rw [State.restartLease, State.modCheck_of_check _ _ _ _ hc, hhold]
  rfl

theorem State.renewCases_of_not_holder {u : State} {p : Port} {c : Check} (i : Fin 64)
    (h : c.holder ≠ some p) : u.renewCases p i c = u.refuse .notHolder :=
  State.tested_of_firstFailure _ (by simp [firstFailure, h])

theorem State.renewCases_of_holder {u : State} {p : Port} {i : Fin 64} {c : Check}
    (hc : u.check i = some c) (hp : c.holder = some p) :
    u.renewCases p i c =
      (u.putCheck i (some { c with hold := u.freshHold p })).accept [] := by
  rw [← State.restartLease_of_holder hc hp]
  exact State.tested_of_all _ _ _ (by simp [hp])

/-! ### The obligation -/

/-- Settles O29, along RENEW's tests: the index and key, the entry's key, the holder. -/
theorem renewRestartsLease : Obligations.RenewRestartsLease := by
  unfold Obligations.RenewRestartsLease
  refine ⟨fun p => by cases p <;> rfl, ?_⟩
  intro x index key s u he hs
  simp only [exec_renew]
  refine ⟨fun hout => ?outOfRange, fun i hindex htable =>
    ⟨fun hother => ?noMatch, fun c hc hkey => ⟨fun hp => ?notHolder, fun hp => ?holder⟩⟩⟩
  case outOfRange => exact request_of_served he hs (State.onNamed_of_out_of_range _ hout)
  case noMatch =>
    exact request_of_served he hs (State.onNamed_of_no_match _ hindex htable hother)
  case notHolder =>
    have hnames : u.Names index key i c := ⟨hindex, htable, hc, hkey⟩
    exact request_of_served he hs
      ((State.onNamed_of_names hnames).trans (State.renewCases_of_not_holder i hp))
  case holder =>
    have hnames : u.Names index key i c := ⟨hindex, htable, hc, hkey⟩
    refine ⟨u.putCheck i (some { c with hold := u.freshHold x.port }), ?_, by simp,
      u.onlyEntry_putCheck i _, rfl⟩
    exact request_of_served he hs
      ((State.onNamed_of_names hnames).trans (State.renewCases_of_holder hc hp))

end Sys2Proof.Machine
end

section
/-!
SUPPORT. TENDER_TAKE, TENDER_PEEK and TENDER_PROGRESS (R89 to R91): which descriptor of the ring the
model finds TAKEN and which POSTED first, what each rule answers then, and a request on a wrong port.
-/

namespace Sys2Proof.Machine

/-! ### Requests on a wrong port -/

/-- A request that its port may not issue is refused before any other test of it. -/
theorem request_of_not_permitted {q : Req} {x : Exch} {extra : Nat} {rule : State → Ans}
    {s u : State} (he : s.enter x = some u) (hp : q.permitted x.port = false) :
    request q x extra rule s = .next (u.replied q x .wrongPort []) := by
  have hanswer : answerRequest q x extra rule u = u.refuse .wrongPort := by
    simp [answerRequest, hp]
  simp only [request, State.exchange, he, hanswer]
  rfl

/-- The requests about the ring's taking side come from the Tender Port alone. -/
theorem permitted_iff_tender_of_taking (q : Req)
    (hq : q = .tenderTake ∨ q = .tenderPeek ∨ q = .tenderProgress) (p : Port) :
    q.permitted p = true ↔ p = .tender := by
  rcases hq with rfl | rfl | rfl <;> exact beq_iff_eq

/-! ### The first of a kind in a list -/

/-- The first element with a property stands behind those without it. -/
theorem findIdx?_of_first {α : Type} {f : α → Bool} {pre post : List α} {a : α}
    (hpre : ∀ b ∈ pre, f b = false) (ha : f a = true) :
    (pre ++ a :: post).findIdx? f = some pre.length := by
  simp [List.findIdx?_append, List.findIdx?_eq_none_iff.2 hpre, List.findIdx?_cons, ha]

theorem set_at_length {α : Type} (pre post : List α) (a b : α) :
    (pre ++ a :: post).set pre.length b = pre ++ b :: post := by
  simp

/-! ### POSTED and TAKEN descriptors -/

theorem Tender.isPosted_iff (t : Tender) : t.isPosted = true ↔ t.phase = .posted :=
  decide_eq_true_iff

theorem Tender.not_isPosted_iff (t : Tender) : t.isPosted = false ↔ t.phase ≠ .posted :=
  decide_eq_false_iff_not

theorem Tender.isTaken_of_phase {t : Tender} {g : Stage} (h : t.phase = .taken g) :
    t.isTaken = true := by
  simp [Tender.isTaken, h]

/-- No descriptor is found TAKEN where none is. -/
theorem State.takenTender_of_none {u : State} (h : ∀ t ∈ u.ring.tenders, t.isTaken = false) :
    u.takenTender = none := by
  rw [State.takenTender, List.findIdx?_eq_none_iff.2 h]

/-- The first TAKEN descriptor is found, at its place. -/
theorem State.takenTender_of_first {u : State} {pre post : List Tender} {t : Tender}
    (hring : u.ring.tenders = pre ++ t :: post) (hpre : ∀ d ∈ pre, d.isTaken = false)
    (ht : t.isTaken = true) : u.takenTender = some (pre.length, t) := by
  rw [State.takenTender, hring, findIdx?_of_first hpre ht]
  simp

/-- Either no descriptor is TAKEN and none is found, or the first that is. -/
theorem State.takenTender_cases (u : State) :
    (u.takenTender = none ∧ ∀ t ∈ u.ring.tenders, t.isTaken = false) ∨
      ∃ k t, u.takenTender = some (k, t) ∧ t ∈ u.ring.tenders ∧ t.isTaken = true := by
  cases hfind : u.ring.tenders.find? Tender.isTaken with
  | none =>
    have hnone : ∀ t ∈ u.ring.tenders, t.isTaken = false := by simpa using hfind
    exact .inl ⟨State.takenTender_of_none hnone, hnone⟩
  | some t =>
    obtain ⟨ht, pre, post, hring, hpre⟩ := List.find?_eq_some_iff_append.1 hfind
    have hfirst := State.takenTender_of_first hring (by simpa using hpre) ht
    exact .inr ⟨pre.length, t, hfirst, List.mem_of_find?_eq_some hfind, ht⟩

/-- A TAKEN descriptor with another serial, or none, is none with the serial. -/
theorem State.takenWith_of_no_serial {u : State} {n : Nat}
    (h : ∀ t ∈ u.ring.tenders, t.isTaken = true → t.serial ≠ n) : u.takenWith n = none := by
  obtain ⟨hnone, -⟩ | ⟨k, t, hsome, hmem, ht⟩ := u.takenTender_cases
  · rw [State.takenWith, hnone, Option.filter_none]
  · rw [State.takenWith, hsome, Option.filter_some, if_neg (by simpa using h t hmem ht)]

/-- The TAKEN descriptor is found by its serial. -/
theorem State.takenWith_of_serial {u : State} {k n : Nat} {t : Tender}
    (h : u.takenTender = some (k, t)) (hn : t.serial = n) : u.takenWith n = some (k, t) := by
  rw [State.takenWith, h, Option.filter_some, if_pos (by simpa using hn)]

/-- Where no descriptor from the take index on is POSTED none is found. -/
theorem State.firstPosted_of_none {u : State}
    (h : ∀ t ∈ u.ring.tenders.drop u.ring.passed, t.phase ≠ .posted) : u.firstPosted = none := by
  rw [State.firstPosted,
    List.findIdx?_eq_none_iff.2 fun t ht => t.not_isPosted_iff.2 (h t ht)]

/-- The first POSTED descriptor from the take index on is found, at its place in the ring. -/
theorem State.firstPosted_of_first {u : State} {pre post : List Tender} {t : Tender}
    (hring : u.ring.tenders = pre ++ t :: post) (hpassed : u.ring.passed ≤ pre.length)
    (hpre : ∀ d ∈ pre.drop u.ring.passed, d.phase ≠ .posted) (ht : t.phase = .posted) :
    u.firstPosted = some (pre.length, t) := by
  have hfind : (u.ring.tenders.drop u.ring.passed).findIdx? Tender.isPosted =
      some (pre.drop u.ring.passed).length := by
    rw [hring, List.drop_append_of_le_length hpassed]
    exact findIdx?_of_first (fun d hd => d.not_isPosted_iff.2 (hpre d hd)) (t.isPosted_iff.2 ht)
  have hplace : u.ring.passed + (pre.drop u.ring.passed).length = pre.length := by
    rw [List.length_drop, Nat.add_sub_cancel' hpassed]
  rw [State.firstPosted, hfind]
  simp only [hplace, hring]
  simp

/-! ### TENDER_PEEK -/

/-- TENDER_PEEK's own rule (R90). -/
def tenderPeekRule (u : State) : Ans :=
  match u.firstPosted with
  | some (_, t) => u.accept t.headWire
  | none => u.refuse .empty

theorem exec_tenderPeek (x : Exch) (s : State) :
    exec (.tenderPeek x) s = request .tenderPeek x 0 tenderPeekRule s := rfl

theorem tenderPeekRule_of_none {u : State} (h : u.firstPosted = none) :
    tenderPeekRule u = u.refuse .empty := by
  rw [tenderPeekRule, h]

theorem tenderPeekRule_of_posted {u : State} {k : Nat} {t : Tender}
    (h : u.firstPosted = some (k, t)) : tenderPeekRule u = u.accept t.headWire := by
  rw [tenderPeekRule, h]

/-! ### TENDER_TAKE -/

theorem exec_tenderTake (x : Exch) (s : State) :
    exec (.tenderTake x) s = request .tenderTake x 0 tenderTakeRule s := rfl

/-- One descriptor may be TAKEN at a time. -/
theorem tenderTakeRule_busy {u : State} (h : ∃ t ∈ u.ring.tenders, t.isTaken = true) :
    tenderTakeRule u = u.refuse .busy := by
  obtain ⟨t, hmem, ht⟩ := h
  obtain ⟨-, hnone⟩ | ⟨k, d, hsome, -, -⟩ := u.takenTender_cases
  · exact absurd ht (by simp [hnone t hmem])
  · exact State.tested_of_firstFailure _ (by simp [hsome])

/-- With none POSTED the take index catches up with the post index. -/
theorem tenderTakeRule_empty {u : State} (htaken : u.takenTender = none)
    (hposted : u.firstPosted = none) :
    tenderTakeRule u =
      ⟨.empty, [], { u with ring := { u.ring with passed := u.ring.tenders.length } }⟩ := by
  rw [tenderTakeRule, State.tested_of_all _ _ _ (by simp [htaken]), hposted]
  rfl

/-- The first POSTED descriptor becomes TAKEN, at the place where it was found. -/
theorem tenderTakeRule_takes {u : State} {k : Nat} {t : Tender} (htaken : u.takenTender = none)
    (hposted : u.firstPosted = some (k, t)) :
    tenderTakeRule u =
      ({ u with ring := { u.ring with
          tenders := u.ring.tenders.set k { t with phase := .taken .none }
          passed := k + 1
          timer := some (u.modes.tenderSecs * 1000) } } : State).accept t.headWire := by
  rw [tenderTakeRule, State.tested_of_all _ _ _ (by simp [htaken]), hposted]
  rfl

/-! ### TENDER_PROGRESS -/

theorem exec_tenderProgress (x : Exch) (serial : Half) (stage : Byte) (s : State) :
    exec (.tenderProgress x serial stage) s =
      request .tenderProgress x 0 (progressRule serial stage) s := rfl

theorem stage?_of_out_of_range {stage : Byte} (h : stage = 0 ∨ 3 < stage.toNat) :
    stage? stage = none := by
  have hother (b : Byte) (hb : 1 ≤ b.toNat ∧ b.toNat ≤ 3) : stage ≠ b := by
    rintro rfl
    obtain rfl | habove := h
    · exact absurd hb.1 (by decide)
    · omega
  rw [stage?, if_neg (hother 1 (by decide)), if_neg (hother 2 (by decide)),
    if_neg (hother 3 (by decide))]

theorem stage?_of_in_range {stage : Byte} (hlow : 1 ≤ stage.toNat) (hhigh : stage.toNat ≤ 3) :
    stage? stage =
      some (if stage = 1 then .cardRead else if stage = 2 then .pinEntry else .authorizing) := by
  unfold stage?
  split
  · rfl
  · next h1 =>
    split
    · rfl
    · next h2 => rw [if_pos (by bv_omega)]

theorem progressRule_bad_field {serial : Half} {stage : Byte} (u : State)
    (h : serial = 0 ∨ stage = 0 ∨ 3 < stage.toNat) :
    progressRule serial stage u = u.refuse .badField := by
  unfold progressRule
  cases hstage : stage? stage with
  | none => rfl
  | some g =>
    obtain hserial | hout := h
    · exact State.tested_of_firstFailure _ (by simp [hserial])
    · exact absurd (stage?_of_out_of_range hout) (by simp [hstage])

theorem progressRule_unknown {serial : Half} {stage : Byte} {g : Stage} {u : State}
    (hserial : serial ≠ 0) (hstage : stage? stage = some g)
    (htaken : u.takenWith serial.toNat = none) :
    progressRule serial stage u = u.refuse .unknownTender := by
  simp only [progressRule, hstage, htaken]
  exact State.tested_of_all _ _ _ (by simpa using hserial)

/-- The TAKEN descriptor gets the stage reported and the timer its full length. -/
theorem progressRule_reports {serial : Half} {stage : Byte} {g : Stage} {u : State} {k : Nat}
    {t : Tender} (hserial : serial ≠ 0) (hstage : stage? stage = some g)
    (htaken : u.takenWith serial.toNat = some (k, t)) :
    progressRule serial stage u =
      ({ u with ring := { u.ring with
          tenders := u.ring.tenders.set k { t with phase := .taken g }
          timer := some (u.modes.tenderSecs * 1000) } } : State).accept
        (beFlag t.cancelRequested) := by
  simp only [progressRule, hstage, htaken]
  exact State.tested_of_all _ _ _ (by simpa using hserial)

/-! ### The obligations -/

/-- Settles O37, request by request along each rule's tests. -/
theorem tenderTakeAndProgress : Obligations.TenderTakeAndProgress := by
  unfold Obligations.TenderTakeAndProgress
  refine ⟨?permitted, fun x s u he => ⟨fun hs => ⟨?busy, ?empty, ?takes⟩,
    fun serial stage hs => ⟨?badField, fun hserial hlow hhigh => ⟨?unknown, ?reports⟩⟩⟩⟩
  case permitted =>
    intro q hq
    obtain rfl | rfl : q = .tenderTake ∨ q = .tenderProgress := by simpa using hq
    · exact permitted_iff_tender_of_taking _ (.inl rfl)
    · exact permitted_iff_tender_of_taking _ (.inr (.inr rfl))
  case busy =>
    intro htaken
    rw [exec_tenderTake]
    exact request_of_served he hs (tenderTakeRule_busy htaken)
  case empty =>
    intro hfree hnone
    rw [exec_tenderTake]
    exact request_of_served he hs
      (tenderTakeRule_empty (State.takenTender_of_none hfree) (State.firstPosted_of_none hnone))
  case takes =>
    intro pre t post hfree hring hpassed hpre ht
    have hfirst := State.firstPosted_of_first hring hpassed hpre ht
    rw [exec_tenderTake, ← set_at_length pre post t, ← hring]
    exact request_of_served he hs
      (tenderTakeRule_takes (State.takenTender_of_none hfree) hfirst)
  case badField =>
    intro hbad
    rw [exec_tenderProgress]
    exact request_of_served he hs (progressRule_bad_field u hbad)
  case unknown =>
    intro hother
    rw [exec_tenderProgress]
    exact request_of_served he hs (progressRule_unknown hserial (stage?_of_in_range hlow hhigh)
      (State.takenWith_of_no_serial hother))
  case reports =>
    intro pre t post g hring hpre ht hn told
    have hfirst := State.takenTender_of_first hring hpre (Tender.isTaken_of_phase ht)
    rw [exec_tenderProgress, ← set_at_length pre post t, ← hring]
    exact request_of_served he hs (progressRule_reports hserial (stage?_of_in_range hlow hhigh)
      (State.takenWith_of_serial hfirst hn))

/-- Settles O38, by the port and by what is found POSTED from the take index on. -/
theorem tenderPeekFindsPosted : Obligations.TenderPeekFindsPosted := by
  unfold Obligations.TenderPeekFindsPosted
  intro x s u he
  simp only [exec_tenderPeek]
  refine ⟨fun hport => ?wrongPort, fun hs => ⟨fun hnone => ?empty, ?found⟩⟩
  case wrongPort =>
    refine request_of_not_permitted he (Bool.eq_false_iff.2 fun hp => hport ?_)
    exact (permitted_iff_tender_of_taking .tenderPeek (.inr (.inl rfl)) _).1 hp
  case empty =>
    exact request_of_served he hs (tenderPeekRule_of_none (State.firstPosted_of_none hnone))
  case found =>
    intro pre t post hring hpassed hpre ht
    exact request_of_served he hs
      (tenderPeekRule_of_posted (State.firstPosted_of_first hring hpassed hpre ht))

end Sys2Proof.Machine
end

section
/-!
SUPPORT. TOTALS_LATCH, TOTALS_READ and TOTALS_CLEAR (R116 to R118): what each rule answers with a
snapshot held and with none, and the bytes that carry the eight counters.
-/

namespace Sys2Proof.Machine

/-! ### The instructions, their port and their rules -/

theorem exec_totalsLatch (x : Exch) (s : State) :
    exec (.totalsLatch x) s = request .totalsLatch x 0 totalsLatchRule s := rfl

theorem exec_totalsRead (x : Exch) (s : State) :
    exec (.totalsRead x) s = request .totalsRead x 0 totalsReadRule s := rfl

/-- TOTALS_CLEAR's own rule (R118). -/
def totalsClearRule (u : State) : Ans :=
  (u.setTotals ⟨Totals.zero, none⟩).accept []

theorem exec_totalsClear (x : Exch) (s : State) :
    exec (.totalsClear x) s = request .totalsClear x 0 totalsClearRule s := rfl

/-- The three requests about the Shift Totals come from the Console Port alone. -/
theorem permitted_iff_console_of_totals (q : Req)
    (hq : q = .totalsLatch ∨ q = .totalsRead ∨ q = .totalsClear) (p : Port) :
    q.permitted p = true ↔ p = .console := by
  rcases hq with rfl | rfl | rfl <;> exact beq_iff_eq

/-- On another port than the Console Port each of the three is refused, whatever its rule. -/
theorem request_totals_of_wrong_port {q : Req} {x : Exch} {rule : State → Ans} {s u : State}
    (hq : q = .totalsLatch ∨ q = .totalsRead ∨ q = .totalsClear) (he : s.enter x = some u)
    (hport : x.port ≠ .console) :
    request q x 0 rule s = .next (u.replied q x .wrongPort []) :=
  request_of_not_permitted he (Bool.eq_false_iff.2 fun hp =>
    hport ((permitted_iff_console_of_totals q hq x.port).1 hp))

/-- TOTALS_READ's body is the flag, then the eight counters in their order. -/
theorem Totals.wire_eq_flag_append (t : Totals) (latched : Bool) :
    t.wire latched = beFlag latched ++ (be4 t.card ++ be4 t.offline ++ be4 t.cash ++ be4 t.tip ++
      be2 t.approvals ++ be2 t.declines ++ be2 t.timeouts ++ be2 t.lateApprovals) := by
  simp only [Totals.wire, List.append_assoc]

/-! ### What the rules answer -/

/-- With no snapshot held the live counters are copied into one. -/
theorem totalsLatchRule_of_none {u : State} (h : u.totals.snapshot = none) :
    totalsLatchRule u = (u.setTotals ⟨u.totals.live, some u.totals.live⟩).accept [1] := by
  rw [totalsLatchRule, h]
  rfl

/-- A snapshot that is held is kept as it is. -/
theorem totalsLatchRule_of_held {u : State} (h : u.totals.snapshot.isSome = true) :
    totalsLatchRule u = u.accept [0] := by
  obtain ⟨t, ht⟩ := Option.isSome_iff_exists.1 h
  rw [totalsLatchRule, ht]
  rfl

/-- With no snapshot held the live counters are carried and nothing is changed. -/
theorem totalsReadRule_of_none {u : State} (h : u.totals.snapshot = none) :
    totalsReadRule u = u.accept (u.totals.live.wire false) := by
  rw [totalsReadRule, h]

/-- A snapshot that is held is carried and discarded. -/
theorem totalsReadRule_of_some {u : State} {t : Totals} (h : u.totals.snapshot = some t) :
    totalsReadRule u = (u.setTotals ⟨u.totals.live, none⟩).accept (t.wire true) := by
  rw [totalsReadRule, h]

/-! ### The obligation -/

/-- Settles O44, by the port, the request and whether a snapshot is held. -/
theorem totalsLatchReadClear : Obligations.TotalsLatchReadClear := by
  unfold Obligations.TotalsLatchReadClear
  intro x s u he eight hold
  simp only [exec_totalsLatch, exec_totalsRead, exec_totalsClear]
  refine ⟨fun hport => ?wrongPort, fun hs => ⟨fun hnone => ?latches, fun hheld => ?latched⟩,
    fun hs => ⟨fun hnone => ?readsLive, fun t ht => ?readsSnapshot⟩, fun hs => ?clears⟩
  case wrongPort =>
    exact ⟨request_totals_of_wrong_port (.inl rfl) he hport,
      request_totals_of_wrong_port (.inr (.inl rfl)) he hport,
      request_totals_of_wrong_port (.inr (.inr rfl)) he hport⟩
  case latches => exact request_of_served he hs (totalsLatchRule_of_none hnone)
  case latched => exact request_of_served he hs (totalsLatchRule_of_held hheld)
  case readsLive =>
    refine request_of_served he hs ((totalsReadRule_of_none hnone).trans ?_)
    rw [Totals.wire_eq_flag_append]
    rfl
  case readsSnapshot =>
    refine request_of_served he hs ((totalsReadRule_of_some ht).trans ?_)
    rw [Totals.wire_eq_flag_append]
    rfl
  case clears => exact request_of_served he hs rfl

end Sys2Proof.Machine
end

section
/-!
SUPPORT. Delta scheduling (R149): what an append changes, which entries are eligible, and the relation
between a state and the one in which the entries of a list have each been given their DELTA record,
which the scheduling carries along the entries in ascending order.
-/

namespace Sys2Proof.Machine

/-! ### The append of a record -/

theorem State.appendRecord_uplink (s : State) (index : Option (Fin 64)) (key : Key)
    (body : RecordBody) :
    (s.appendRecord index key body).uplink =
      { s.uplink with
        records := s.uplink.records ++ [⟨s.uplink.nextSeq, false, index, key, body⟩]
        nextSeq := nextNumber s.uplink.nextSeq } := by
  unfold State.appendRecord
  (repeat' split) <;> simp

theorem State.appendRecord_attn (s : State) (index : Option (Fin 64)) (key : Key)
    (body : RecordBody) :
    (s.appendRecord index key body).attn =
      { s.attn with
        flags := s.attn.flags.set .link
          (withFlag s.attn.flags.link (decide (s.floor.link = .up)) .uplinkReady .link) } := by
  unfold State.appendRecord
  by_cases hup : s.floor.link = .up
  · cases index <;> simp [hup, State.raise_attn, PerPort.get, withFlag]
  · cases index <;> simp [hup, PerPort.set, withFlag]

/-- A record that names an entry raises its pending uplink count, and does no more to the table. -/
theorem State.appendRecord_table (s : State) (i : Fin 64) (key : Key) (body : RecordBody) :
    (s.appendRecord (some i) key body).table =
      (s.modCheck i fun c => { c with pendingUplink := c.pendingUplink + 1 }).table := by
  have hraised : (s.appendRecord (some i) key body).table =
      ((s.setUplink (s.appendRecord (some i) key body).uplink).modCheck i
        fun c => { c with pendingUplink := c.pendingUplink + 1 }).table := by
    rw [State.appendRecord_uplink]
    simp only [State.appendRecord]
    split <;> simp
  rw [hraised, State.modCheck, State.modCheck, State.setUplink_check]
  split <;> rfl

theorem State.appendRecord_check (s : State) (i j : Fin 64) (key : Key) (body : RecordBody) :
    (s.appendRecord (some i) key body).check j =
      if j = i then (s.check i).map fun c => { c with pendingUplink := c.pendingUplink + 1 }
      else s.check j := by
  rw [← State.check_modCheck, State.check, State.appendRecord_table, State.check]

theorem State.onlyEntry_appendRecord (s : State) (i : Fin 64) (key : Key) (body : RecordBody) :
    OnlyEntry s (s.appendRecord (some i) key body) i :=
  (s.onlyEntry_modCheck i _).trans (State.onlyEntry_of_table (s.appendRecord_table i key body))

/-! ### Eligible entries -/

theorem UplinkRecord.callsFor_iff (r : UplinkRecord) (i : Fin 64) :
    r.callsFor i = true ↔ r.index = some i ∧ (r.body.code = 1 ∨ r.body.code = 3) := by
  unfold UplinkRecord.callsFor
  cases r.body <;> simp [RecordBody.code]

/-- No QUEUED DELTA or CLOSE record of a list names the entry. -/
theorem any_queued_callsFor_eq_false_iff (records : List UplinkRecord) (i : Fin 64) :
    records.any (fun r => !r.sent && r.callsFor i) = false ↔
      ∀ r ∈ records, r.sent = false → r.index = some i → r.body.code ≠ 1 ∧ r.body.code ≠ 3 := by
  simp [← Bool.not_eq_true, UplinkRecord.callsFor_iff]

theorem State.deltaEligible_iff (u : State) (i : Fin 64) :
    u.deltaEligible i = true ↔ ∃ c ∈ u.check i,
      c.state ≠ .closing ∧ c.scope = .owned ∧ c.hold = none ∧ c.revision ≠ c.uplinked ∧
        ∀ r ∈ u.uplink.records, r.sent = false → r.index = some i →
          r.body.code ≠ 1 ∧ r.body.code ≠ 3 := by
  unfold State.deltaEligible
  cases hc : u.check i with
  | none => simp
  | some c =>
    simp only [Option.mem_def, Option.some.injEq, exists_eq_left', Bool.and_eq_true,
      Bool.not_eq_true', any_queued_callsFor_eq_false_iff, Check.owesDelta, decide_eq_true_eq,
      Option.isNone_iff_eq_none]
    tauto

/-! ### The records placed -/

/-- The records are QUEUED DELTA records for the entries of a list, in its order, under the sequence
numbers that follow. -/
structure State.DeltasFor (u : State) (placed : List (Fin 64)) (new : List UplinkRecord) :
    Prop where
  index : new.map UplinkRecord.index = placed.map some
  content : ∀ r ∈ new, r.sent = false ∧ ∃ i c, r.index = some i ∧ u.check i = some c ∧
    r.key = c.key ∧ r.body = .delta c.revision
  number : ∀ k r, new[k]? = some r → r.seq = Nat.repeat nextNumber k u.uplink.nextSeq

theorem State.DeltasFor.nil (u : State) : u.DeltasFor [] [] :=
  ⟨rfl, by simp, by simp⟩

theorem State.DeltasFor.length_eq {u : State} {placed : List (Fin 64)} {new : List UplinkRecord}
    (h : u.DeltasFor placed new) : new.length = placed.length := by
  simpa using congrArg List.length h.index

/-- One entry more, and its record under the next sequence number. -/
theorem State.DeltasFor.snoc {u : State} {placed : List (Fin 64)} {new : List UplinkRecord}
    {i : Fin 64} {c : Check} (h : u.DeltasFor placed new) (hc : u.check i = some c) :
    u.DeltasFor (placed ++ [i]) (new ++
      [⟨Nat.repeat nextNumber new.length u.uplink.nextSeq, false, some i, c.key,
        .delta c.revision⟩]) where
  index := by simp [h.index]
  content := by
    intro r hr
    obtain hr | hr := List.mem_append.1 hr
    · exact h.content r hr
    · obtain rfl := List.mem_singleton.1 hr
      exact ⟨rfl, i, c, rfl, hc, rfl, rfl⟩
  number := by
    intro k r hr
    rw [List.getElem?_append] at hr
    split at hr
    · exact h.number k r hr
    · obtain ⟨hk, rfl⟩ := List.getElem?_eq_some_iff.1 hr
      have hlast : k = new.length := by simp at hk; omega
      simp [hlast]

/-- The records placed call for no entry outside the list. -/
theorem State.DeltasFor.not_callsFor {u : State} {placed : List (Fin 64)}
    {new : List UplinkRecord} {i : Fin 64} (h : u.DeltasFor placed new) (hi : i ∉ placed) :
    new.any (fun r => !r.sent && r.callsFor i) = false := by
  rw [any_queued_callsFor_eq_false_iff]
  intro r hr _ hindex
  have hmem : some i ∈ placed.map some := by
    rw [← h.index, ← hindex]
    exact List.mem_map_of_mem hr
  exact absurd (by simpa using hmem) hi

/-! ### The state with the records placed -/

/-- The check of an entry whose current revision is announced by a DELTA record. -/
def Check.announced (c : Check) : Check :=
  { c with uplinked := c.revision, pendingUplink := c.pendingUplink + 1 }

/-- `w` is `u` with a DELTA record placed for each entry of a list. -/
structure DeltasPlaced (u w : State) (placed : List (Fin 64)) : Prop where
  check : ∀ i, w.check i = (u.check i).map fun c => if i ∈ placed then c.announced else c
  uplink : ∃ new, u.DeltasFor placed new ∧
    w.uplink = { u.uplink with
      records := u.uplink.records ++ new
      nextSeq := Nat.repeat nextNumber new.length u.uplink.nextSeq }
  attn : w.attn = { u.attn with
    flags := u.attn.flags.set .link (withFlag u.attn.flags.link
      (decide (u.floor.link = .up) && !placed.isEmpty) .uplinkReady .link) }
  cursor : w.table.cursor = u.table.cursor
  pinFloor : w.table.pinFloor = u.table.pinFloor
  ring : w.ring = u.ring
  floor : w.floor = u.floor

theorem DeltasPlaced.refl (u : State) : DeltasPlaced u u [] where
  check i := by simp
  uplink := ⟨[], .nil u, by simp [Nat.repeat]⟩
  attn := by simp [PerPort.set, withFlag]
  cursor := rfl
  pinFloor := rfl
  ring := rfl
  floor := rfl

section
variable {u w : State} {placed : List (Fin 64)} {i : Fin 64}

theorem DeltasPlaced.commitments_eq (h : DeltasPlaced u w placed) :
    w.commitments = u.commitments + placed.length := by
  obtain ⟨new, hnew, huplink⟩ := h.uplink
  have hrecords : w.uplink.records.length = u.uplink.records.length + placed.length := by
    simp [huplink, hnew.length_eq]
  simp only [State.commitments, hrecords, h.ring]
  omega

theorem DeltasPlaced.check_of_not_mem (h : DeltasPlaced u w placed) (hi : i ∉ placed) :
    w.check i = u.check i := by
  simp [h.check i, hi]

/-- A record for one entry makes no other entry eligible or ineligible. -/
theorem DeltasPlaced.deltaEligible_eq (h : DeltasPlaced u w placed) (hi : i ∉ placed) :
    w.deltaEligible i = u.deltaEligible i := by
  obtain ⟨new, hnew, huplink⟩ := h.uplink
  simp only [State.deltaEligible, h.check_of_not_mem hi, huplink, List.any_append,
    hnew.not_callsFor hi, Bool.or_false]

/-- UPLINK_READY set once more is set. -/
theorem withFlag_append_singleton (flags : Half) (up : Bool) (c : Cause) (p : Port) :
    withFlag (withFlag flags (up && !placed.isEmpty) c p) up c p =
      withFlag flags (up && !(placed ++ [i]).isEmpty) c p := by
  cases up <;> cases placed <;> simp [withFlag, BitVec.or_assoc]

/-- An eligible entry with room in the queue gets its record. -/
theorem DeltasPlaced.scheduleAt_of_eligible (h : DeltasPlaced u w placed) (hi : i ∉ placed)
    (hroom : u.commitments + placed.length < 48) (helig : u.deltaEligible i = true) :
    DeltasPlaced u (w.scheduleAt i) (placed ++ [i]) := by
  obtain ⟨c, hc, -⟩ := (u.deltaEligible_iff i).1 helig
  have hwc : w.check i = some c := (h.check_of_not_mem hi).trans hc
  have hplaces : w.scheduleAt i =
      (w.appendRecord (some i) c.key (.delta c.revision)).modCheck i
        (fun c => { c with uplinked := c.revision }) := by
    rw [← h.commitments_eq] at hroom
    rw [← h.deltaEligible_eq hi] at helig
    simp [State.scheduleAt, hwc, helig, Config.uplinkSize, hroom]
  have honly : OnlyEntry w (w.scheduleAt i) i :=
    hplaces ▸ (w.onlyEntry_appendRecord i _ _).trans (State.onlyEntry_modCheck _ i _)
  obtain ⟨hothers, hcursor, hpinFloor⟩ := honly
  constructor
  case check =>
    intro j
    by_cases hj : j = i
    · subst hj
      simp [hplaces, State.appendRecord_check, hwc, show u.check j = some c from hc,
        Check.announced]
    · simp [hothers j hj, hj, h.check j]
  case uplink =>
    obtain ⟨new, hnew, huplink⟩ := h.uplink
    refine ⟨_, hnew.snoc hc, ?_⟩
    simp [hplaces, State.appendRecord_uplink, huplink, Nat.repeat]
  case attn =>
    rw [← withFlag_append_singleton]
    simp [hplaces, State.appendRecord_attn, h.attn, h.floor, PerPort.set]
  case cursor => exact hcursor.trans h.cursor
  case pinFloor => exact hpinFloor.trans h.pinFloor
  case ring => simp [h.ring]
  case floor => simp [h.floor]

/-- An entry that is not eligible, or finds the queue full, changes nothing. -/
theorem DeltasPlaced.scheduleAt_of_not (h : DeltasPlaced u w placed) (hi : i ∉ placed)
    (hnot : ¬ (u.commitments + placed.length < 48 ∧ u.deltaEligible i = true)) :
    w.scheduleAt i = w := by
  rw [← h.commitments_eq, ← h.deltaEligible_eq hi] at hnot
  unfold State.scheduleAt
  split
  · exact if_neg hnot
  · rfl

/-- Along a list of entries, the eligible ones get their records while there is room. -/
theorem DeltasPlaced.foldl_scheduleAt (l : List (Fin 64)) (h : DeltasPlaced u w placed)
    (hnodup : (placed ++ l).Nodup) :
    DeltasPlaced u (l.foldl State.scheduleAt w)
      (placed ++ (l.filter u.deltaEligible).take (48 - (u.commitments + placed.length))) := by
  induction l generalizing w placed with
  | nil => simpa using h
  | cons i rest ih =>
    have hi : i ∉ placed := fun hmem =>
      List.disjoint_of_nodup_append hnodup hmem List.mem_cons_self
    have hrest : (placed ++ rest).Nodup :=
      hnodup.sublist ((List.sublist_cons_self i rest).append_left placed)
    rw [List.foldl_cons]
    by_cases helig : u.deltaEligible i = true
    · by_cases hroom : u.commitments + placed.length < 48
      · have hnext := ih (h.scheduleAt_of_eligible hi hroom helig) (by simpa using hnodup)
        have hleft : 48 - (u.commitments + placed.length) =
            48 - (u.commitments + (placed ++ [i]).length) + 1 := by
          simp only [List.length_append, List.length_singleton]
          omega
        rw [List.filter_cons_of_pos helig, hleft, List.take_succ_cons]
        simpa using hnext
      · have hfull : 48 - (u.commitments + placed.length) = 0 := by omega
        have hnext := ih h hrest
        rw [h.scheduleAt_of_not hi (fun hboth => hroom hboth.1)]
        simpa [hfull] using hnext
    · rw [h.scheduleAt_of_not hi (fun hboth => helig hboth.2), List.filter_cons_of_neg helig]
      exact ih h hrest

end

/-- Delta scheduling places the records of the first eligible entries that there is room for. -/
theorem State.deltasPlaced_scheduleDeltas (u : State) :
    DeltasPlaced u u.scheduleDeltas
      ((allIdx.filter u.deltaEligible).take (48 - u.commitments)) := by
  simpa [State.scheduleDeltas] using
    (DeltasPlaced.refl u).foldl_scheduleAt allIdx (List.nodup_finRange 64)

/-- The ascending list of the eligible entries is the one that scheduling goes along. -/
theorem State.eq_filter_deltaEligible {u : State} {el : List (Fin 64)}
    (hasc : el.Pairwise (· < ·)) (hmem : ∀ i, i ∈ el ↔ u.deltaEligible i = true) :
    el = allIdx.filter u.deltaEligible :=
  hasc.eq_of_mem_iff ((List.sortedLT_finRange 64).pairwise.filter _) fun i => by
    simp [hmem i, allIdx]

/-! ### The obligation -/

/-- Settles O32: scheduling goes along its own list of eligible entries, which is the list given. -/
theorem schedulingPlacesDeltas : Obligations.SchedulingPlacesDeltas := by
  unfold Obligations.SchedulingPlacesDeltas
  intro u eligible el hasc hmem
  have hel : el = allIdx.filter u.deltaEligible :=
    State.eq_filter_deltaEligible hasc fun i => (hmem i).trans (u.deltaEligible_iff i).symm
  have hplaced := hel ▸ u.deltasPlaced_scheduleDeltas
  obtain ⟨new, hnew, huplink⟩ := hplaced.uplink
  refine ⟨hplaced.check, ⟨new, ?records, hnew.index, hnew.content, hnew.number, ?uplink⟩,
    hplaced.attn, hplaced.cursor, hplaced.pinFloor, ?frame⟩
  case records => rw [huplink]
  case uplink => rw [huplink]
  case frame => apply State.ext_fields <;> simp

end Sys2Proof.Machine
end

section
/-!
SUPPORT. ATTN_READ, ATTN_CLEAR and ATTN_ENABLE (R176 to R178): which masks a port has, when its ATTN
line is low at an exchange that is taken, and what each rule answers to a mask.
-/

namespace Sys2Proof.Machine

/-! ### The instructions and their ports -/

/-- ATTN_READ's own rule (R176). -/
def attnReadRule (p : Port) (u : State) : Ans :=
  u.accept (be2 (u.attn.flags.get p).toNat ++ be2 (u.attn.enables.get p).toNat ++
    be1 (priorityNumber (u.attn.flags.get p) (u.attn.enables.get p)))

theorem exec_attnRead (x : Exch) (s : State) :
    exec (.attnRead x) s = request .attnRead x 0 (attnReadRule x.port) s := rfl

theorem exec_attnClear (x : Exch) (mask : Half) (s : State) :
    exec (.attnClear x mask) s = request .attnClear x 0 (attnClearRule x.port mask) s := rfl

theorem exec_attnEnable (x : Exch) (mask : Half) (s : State) :
    exec (.attnEnable x mask) s = request .attnEnable x 0 (attnEnableRule x.port mask) s := rfl

/-- The three requests about attention come from every port. -/
theorem permitted_of_attn (q : Req) (hq : q = .attnRead ∨ q = .attnClear ∨ q = .attnEnable)
    (p : Port) : q.permitted p = true := by
  rcases hq with rfl | rfl | rfl <;> rfl

/-! ### The masks of a port -/

/-- A mask below the power of two is one with no bit at or above the port's number of causes. -/
theorem maskOk_iff (p : Port) (mask : Half) :
    maskOk p mask = true ↔ ∀ n, causeCount p ≤ n → mask.getLsbD n = false := by
  rw [maskOk, decide_eq_true_iff]
  constructor
  · intro hlt n hn
    rw [← BitVec.testBit_toNat]
    exact Nat.testBit_lt_two_pow (hlt.trans_le (Nat.pow_le_pow_right two_pos hn))
  · intro hclear
    refine Nat.lt_pow_two_of_testBit _ fun n hn => ?_
    rw [BitVec.testBit_toNat]
    exact hclear n hn

theorem maskOk_eq_false {p : Port} {mask : Half}
    (h : ∃ n, causeCount p ≤ n ∧ mask.getLsbD n = true) : maskOk p mask = false := by
  obtain ⟨n, hn, hset⟩ := h
  refine Bool.eq_false_iff.2 fun hok => ?_
  exact absurd hset (by simp [(maskOk_iff p mask).1 hok n hn])

/-! ### The ATTN line -/

/-- An exchange is taken only while RESET is released, and taking it leaves RESET so. -/
theorem State.enter_resetHeld {s u : State} {x : Exch} (h : s.enter x = some u) :
    u.modes.resetHeld = false := by
  obtain ⟨hreleased, rfl | ⟨-, rfl⟩ | ⟨-, -, rfl⟩⟩ := s.enter_cases x u h
  · simpa using hreleased
  · simpa [State.wakeUp, State.setMode] using hreleased
  · simpa [State.beginWake] using hreleased

theorem State.attnLow_iff {w : State} (p : Port) (h : w.modes.resetHeld = false) :
    w.attnLow p = true ↔ w.attn.flags.get p &&& w.attn.enables.get p ≠ 0 := by
  simp [State.attnLow, h]

/-- After a clear the line is low where a flag left is enabled. -/
theorem State.attnLow_lower_iff {u : State} (p : Port) (mask : Half)
    (h : u.modes.resetHeld = false) :
    (u.lower p mask).attnLow p = true ↔
      u.attn.flags.get p &&& ~~~mask &&& u.attn.enables.get p ≠ 0 := by
  rw [State.attnLow_iff p (by simpa using h)]
  simp [State.lower]

/-- Under a new enable mask the line is low where the mask enables a set flag. -/
theorem State.attnLow_setEnables_iff {u : State} (p : Port) (mask : Half)
    (h : u.modes.resetHeld = false) :
    (u.setAttn { u.attn with enables := u.attn.enables.set p mask }).attnLow p = true ↔
      u.attn.flags.get p &&& mask ≠ 0 := by
  rw [State.attnLow_iff p (by simpa using h)]
  simp

/-! ### What the rules answer -/

theorem attnClearRule_refused {p : Port} {mask : Half} (u : State) (h : maskOk p mask = false) :
    attnClearRule p mask u = u.refuse .badField :=
  State.tested_of_firstFailure _ (by simp [firstFailure, h])

theorem attnEnableRule_refused {p : Port} {mask : Half} (u : State) (h : maskOk p mask = false) :
    attnEnableRule p mask u = u.refuse .badField :=
  State.tested_of_firstFailure _ (by simp [firstFailure, h])

/-- The reply to a clear carries the flags that are left, read from the state after the clear. -/
theorem attnClearRule_clears {p : Port} {mask : Half} (u : State) (h : maskOk p mask = true) :
    attnClearRule p mask u =
      (u.lower p mask).accept (be2 (u.attn.flags.get p &&& ~~~mask).toNat) := by
  rw [attnClearRule, State.tested_of_all _ _ _ (by simp [h])]
  simp [State.lower]

/-- The mask is replaced whole, and the flags that the reply carries are as they were. -/
theorem attnEnableRule_replaces {p : Port} {mask : Half} (u : State) (h : maskOk p mask = true) :
    attnEnableRule p mask u =
      (u.setAttn { u.attn with enables := u.attn.enables.set p mask }).accept
        (be2 mask.toNat ++ be2 (u.attn.flags.get p).toNat) :=
  State.tested_of_all _ _ _ (by simp [h])

/-! ### The obligation -/

/-- Settles O10, request by request; a mask is refused or taken by the test on its bits. -/
theorem attnClearAndEnable : Obligations.AttnClearAndEnable := by
  unfold Obligations.AttnClearAndEnable
  refine ⟨fun p => ⟨permitted_of_attn _ (.inl rfl) p, permitted_of_attn _ (.inr (.inl rfl)) p,
    permitted_of_attn _ (.inr (.inr rfl)) p⟩, ?read, ?clear, ?enable⟩
  case read =>
    intro x s u he hs
    rw [exec_attnRead]
    exact request_of_served he hs rfl
  case clear =>
    intro x mask s u he hs
    rw [exec_attnClear]
    refine ⟨fun hbad => ?refused, fun hclear => ⟨?answered, ?line⟩⟩
    case refused =>
      exact request_of_served he hs (attnClearRule_refused u (maskOk_eq_false hbad))
    case answered =>
      exact request_of_served he hs
        (attnClearRule_clears u ((maskOk_iff x.port mask).2 hclear))
    case line => exact State.attnLow_lower_iff x.port mask (State.enter_resetHeld he)
  case enable =>
    intro x mask s u he hs
    rw [exec_attnEnable]
    refine ⟨fun hbad => ?refused, fun hclear => ⟨?answered, ?line⟩⟩
    case refused =>
      exact request_of_served he hs (attnEnableRule_refused u (maskOk_eq_false hbad))
    case answered =>
      exact request_of_served he hs
        (attnEnableRule_replaces u ((maskOk_iff x.port mask).2 hclear))
    case line => exact State.attnLow_setEnables_iff x.port mask (State.enter_resetHeld he)

end Sys2Proof.Machine
end

section
/-!
SUPPORT. NOP and STATUS on every port (R173, R183): their admission outside SLEEP, and each counted or
derived figure of STATUS's reply as the figure of 10.3 that it stands for.
-/

namespace Sys2Proof.Machine

/-! ### The instructions and their admission -/

theorem exec_nop (x : Exch) (s : State) :
    exec (.nop x) s = request .nop x 0 (fun u => u.accept []) s := rfl

theorem exec_status (x : Exch) (s : State) :
    exec (.status x) s = request .status x 0 (fun u => u.accept u.statusBody) s := rfl

/-- Outside SLEEP no configuration step keeps out a request that R181 names for all of them. -/
theorem State.admission_of_alwaysAdmitted {u : State} {q : Req} (hmode : u.modes.mode ≠ .sleep)
    (hq : alwaysAdmitted q = true) : u.admission q = none := by
  rw [State.admission, if_neg hmode]
  by_cases hready : u.modes.step = .ready
  · rw [if_pos hready]
  · rw [if_neg hready, if_pos hq]

/-! ### The figures of STATUS's reply -/

theorem hasHolder_check (u : State) (i : Fin 64) :
    hasHolder (u.check i) = (u.holderOf i).isSome := by
  cases hcheck : u.check i with
  | none => simp [hasHolder, State.holderOf, hcheck]
  | some c => simp [hasHolder, State.holderOf, Check.holder, hcheck]

/-- The entries counted as held are those with a holder. -/
theorem State.countEntries_hasHolder (u : State) :
    u.countEntries hasHolder = (allIdx.filter fun i => (u.holderOf i).isSome).length := by
  simp only [State.countEntries, hasHolder_check]

/-- A TAKEN descriptor is found exactly where the ring has one. -/
theorem State.takenTender_isSome (u : State) :
    u.takenTender.isSome = u.ring.tenders.any Tender.isTaken := by
  obtain ⟨hfound, hnone⟩ | ⟨k, t, hfound, hmem, ht⟩ := u.takenTender_cases
  · rw [hfound, List.any_eq_false.2 fun t hmem => by simp [hnone t hmem]]
    rfl
  · rw [hfound, List.any_eq_true.2 ⟨t, hmem, ht⟩]
    rfl

/-- Any channel is one of the three ports' channels. -/
theorem State.anyActive_eq (u : State) :
    u.anyActive = (u.streams.console.isActive || u.streams.tender.isActive ||
      u.streams.link.isActive) := by
  have hports : u.anyActive =
      [Port.console, .tender, .link].any fun p => (u.streams.get p).isActive := rfl
  simp [hports, PerPort.get, Bool.or_assoc]

/-! ### The obligation -/

/-- Settles O9: both requests pass to rules that change nothing, and STATUS's body is the layout of
10.3 figure by figure. -/
theorem portReadsAnswered : Obligations.PortReadsAnswered := by
  unfold Obligations.PortReadsAnswered
  refine ⟨fun _ => rfl, fun u hmode => State.admission_of_alwaysAdmitted hmode rfl,
    fun x s u he => ⟨fun hs => ?nop, fun hs => ?status⟩⟩
  case nop =>
    rw [exec_nop]
    exact request_of_served he hs rfl
  case status =>
    rw [exec_status, ← u.takenTender_isSome, ← u.countEntries_hasHolder, ← u.anyActive_eq]
    exact request_of_served he hs rfl

end Sys2Proof.Machine
end

section
/-!
SUPPORT. Every command as a request or an event: the rule that a request's command is answered by, the
blocks that each rule leaves unchanged, and the principle by which what every rule and every event
keeps is kept by every step.
-/

namespace Sys2Proof.Machine

/-! ### The rules of the requests -/

/-- What answers a request: its code, its exchange, the length that its count adds, its own rule. -/
structure Served where
  req : Req
  exch : Exch
  extra : Nat
  rule : State → Ans

/-- The rules that the meanings write in place. -/
def stageGetRule (selector : Byte) (s : State) : Ans :=
  if selector = 0 then s.accept s.staging.primary.wire
  else if selector = 1 then s.accept s.staging.alternate.wire
  else s.refuse .badField

def exchangeRule (s : State) : Ans :=
  (s.setStaging ⟨s.staging.alternate, s.staging.primary⟩).accept s.staging.alternate.wire

def holdRule (p : Port) (index : Byte) (key : Half) (s : State) : Ans :=
  s.onNamed index key (s.holdCases p)

def renewRule (p : Port) (index : Byte) (key : Half) (s : State) : Ans :=
  s.onNamed index key (s.renewCases p)

def powerDozeRule (mode : Byte) (s : State) : Ans :=
  s.tested [(decide (mode = 1), .badField)] ((s.setMode .doze).accept [])

def powerSleepRule (s : State) : Ans :=
  s.tested [(!s.sleepBlocked, .busy)] ((s.setMode .sleep).accept [])

def lateClearRule (s : State) : Ans :=
  (s.setRing { s.ring with late := [] }).accept (be1 s.ring.late.length)

/-- The request that a command is; none for the frames that carry no request and for the events. -/
def requestOf : Instr → Option Served
  | .nop x => some ⟨.nop, x, 0, fun s => s.accept []⟩
  | .status x => some ⟨.status, x, 0, fun s => s.accept s.statusBody⟩
  | .attnRead x => some ⟨.attnRead, x, 0, attnReadRule x.port⟩
  | .attnClear x mask => some ⟨.attnClear, x, 0, attnClearRule x.port mask⟩
  | .attnEnable x mask => some ⟨.attnEnable, x, 0, attnEnableRule x.port mask⟩
  | .portReset x => some ⟨.portReset, x, 0, portResetRule x.port⟩
  | .config1 x tid pin => some ⟨.config1, x, 0, config1Rule tid pin⟩
  | .config2 x tax lease timeout => some ⟨.config2, x, 0, config2Rule tax lease timeout⟩
  | .config3 x single cap count => some ⟨.config3, x, 0, config3Rule single cap count⟩
  | .config4 x window wakes => some ⟨.config4, x, 0, config4Rule window wakes⟩
  | .powerDoze x mode => some ⟨.power, x, 0, powerDozeRule mode⟩
  | .powerSleep x => some ⟨.power, x, 0, powerSleepRule⟩
  | .probe x key any => some ⟨.probe, x, 0, probeRule x.port key any⟩
  | .checkInfo x index share => some ⟨.checkInfo, x, 0, checkInfoRule index share⟩
  | .read x index => some ⟨.read, x, 0, readRule index⟩
  | .stageGet x selector => some ⟨.stageGet, x, 0, stageGetRule selector⟩
  | .stageSet x selection key covers seats =>
    some ⟨.stageSet, x, 0, stageSetRule selection key covers seats⟩
  | .exchange x => some ⟨.exchange, x, 0, exchangeRule⟩
  | .commit x => some ⟨.commit, x, 0, commitRule⟩
  | .commitNew x => some ⟨.commitNew, x, 0, commitNewRule⟩
  | .checkClose x index key => some ⟨.checkClose, x, 0, checkCloseRule index key⟩
  | .resolveKeep x index key resolution =>
    some ⟨.resolve, x, 0, resolveKeepRule index key resolution⟩
  | .resolveClose x index key => some ⟨.resolve, x, 0, resolveCloseRule index key⟩
  | .itemAdd x index key item => some ⟨.itemAdd, x, 0, itemAddRule index key item⟩
  | .itemVoid x index key serial => some ⟨.itemVoid, x, 0, itemVoidRule index key serial⟩
  | .splitSet x index key basis count elems =>
    some ⟨.splitSet, x, count.toNat * splitElemBytes basis, splitSetRule index key basis count elems⟩
  | .splitClear x index key => some ⟨.splitClear, x, 0, splitClearRule index key⟩
  | .hold x index key => some ⟨.hold, x, 0, holdRule x.port index key⟩
  | .renew x index key => some ⟨.renew, x, 0, renewRule x.port index key⟩
  | .release x index key => some ⟨.release, x, 0, releaseRule x.port index key⟩
  | .streamOpenItemsRead x target index key dir start count =>
    some ⟨.streamOpen, x, 0, openReadRule x.port target index key dir start count⟩
  | .streamOpenItemsWrite x index key _ _ count =>
    some ⟨.streamOpen, x, 0, openWriteRule x.port index key count⟩
  | .streamNext x => some ⟨.streamNext, x, 0, streamNextRule x.port⟩
  | .streamPut x count items =>
    some ⟨.streamPut, x, count.toNat * itemWireBytes, streamPutRule x.port count items⟩
  | .streamClose x => some ⟨.streamClose, x, 0, streamCloseRule x.port⟩
  | .tenderPostCard x index key cls post => some ⟨.tenderPost, x, 0, postCardRule index key cls post⟩
  | .tenderPostCash x index key post => some ⟨.tenderPost, x, 0, postCashRule index key post⟩
  | .tenderCancel x serial => some ⟨.tenderCancel, x, 0, tenderCancelRule serial⟩
  | .tenderReap x => some ⟨.tenderReap, x, 0, tenderReapRule⟩
  | .tenderStatus x serial => some ⟨.tenderStatus, x, 0, tenderStatusRule serial⟩
  | .tenderTake x => some ⟨.tenderTake, x, 0, tenderTakeRule⟩
  | .tenderPeek x => some ⟨.tenderPeek, x, 0, tenderPeekRule⟩
  | .tenderProgress x serial stage => some ⟨.tenderProgress, x, 0, progressRule serial stage⟩
  | .tenderResultApproved x serial outcome result =>
    some ⟨.tenderResult, x, 0, resultApprovedRule serial outcome result⟩
  | .tenderResultDeclined x serial result =>
    some ⟨.tenderResult, x, 0, resultDeclinedRule serial result⟩
  | .lateClear x => some ⟨.lateClear, x, 0, lateClearRule⟩
  | .totalsLatch x => some ⟨.totalsLatch, x, 0, totalsLatchRule⟩
  | .totalsRead x => some ⟨.totalsRead, x, 0, totalsReadRule⟩
  | .totalsClear x => some ⟨.totalsClear, x, 0, totalsClearRule⟩
  | .linkStateUp x value => some ⟨.linkState, x, 0, linkUpRule value⟩
  | .linkStateDown x => some ⟨.linkState, x, 0, linkDownRule⟩
  | .imageBegin x key server owner covers seats count =>
    some ⟨.imageBegin, x, 0, imageBeginRule key server owner covers seats count⟩
  | .imageEnd x => some ⟨.imageEnd, x, 0, imageEndRule⟩
  | .imageAbort x => some ⟨.imageAbort, x, 0, imageAbortRule⟩
  | .retire x key server => some ⟨.retire, x, 0, retireRule key server⟩
  | .uplinkNext x => some ⟨.uplinkNext, x, 0, uplinkNextRule⟩
  | .uplinkAck x seq => some ⟨.uplinkAck, x, 0, uplinkAckRule seq⟩
  | .mark x => some ⟨.mark, x, 0, markRule⟩
  | _ => none

/-- A command that is a request is answered as that request. -/
theorem exec_of_request {c : Instr} {r : Served} (h : requestOf c = some r) (s : State) :
    exec c s = request r.req r.exch r.extra r.rule s := by
  cases c <;> simp only [requestOf, Option.some.injEq, reduceCtorEq] at h <;> subst h <;> rfl

/-- The command of a valid frame is a request of the frame's own code. -/
theorem requestOf_command (q : Req) (x : Exch) (b : List Byte) :
    ∃ extra rule, requestOf (q.command x b) = some ⟨q, x, extra, rule⟩ := by
  cases q <;> simp only [Req.command] <;> (try split) <;> exact ⟨_, _, rfl⟩

/-! ### What a rule leaves unchanged -/

/-- A request's tests keep what the request keeps where they all hold. -/
theorem State.tested_keeps {P : State → Prop} {s : State} {tests : List (Bool × ReplyOutcome)}
    {k : Ans} (hs : P s) (hk : (∀ t ∈ tests, t.1 = true) → P k.state) :
    P (s.tested tests k).state := by
  unfold State.tested
  split
  · exact hs
  · next h => exact hk ((firstFailure_eq_none_iff tests).1 h)

/-- A request about an entry keeps what it keeps where index and key name one. -/
theorem State.onNamed_keeps {P : State → Prop} {s : State} {index : Byte} {key : Half}
    {k : Fin 64 → Check → Ans} (hs : P s)
    (hk : ∀ i c, s.check i = some c → P (k i c).state) : P (s.onNamed index key k).state := by
  unfold State.onNamed
  split
  · exact hs
  · next i c h => exact hk i c ((s.named_ok_iff index key i c).1 h).2.2.1

/-- The blocks of the state. -/
inductive Block where
  | pending | ports | attn | table | staging | pool | holds | ring | offline | totals | floor
  | uplink | streams | modes

/-- Every block but those of a list is the same in two states. -/
def SameBut (touched : List Block) (s t : State) : Prop :=
  (.pending ∉ touched → t.pending = s.pending) ∧ (.ports ∉ touched → t.ports = s.ports) ∧
    (.attn ∉ touched → t.attn = s.attn) ∧ (.table ∉ touched → t.table = s.table) ∧
    (.staging ∉ touched → t.staging = s.staging) ∧ (.pool ∉ touched → t.pool = s.pool) ∧
    (.holds ∉ touched → t.holds = s.holds) ∧ (.ring ∉ touched → t.ring = s.ring) ∧
    (.offline ∉ touched → t.offline = s.offline) ∧ (.totals ∉ touched → t.totals = s.totals) ∧
    (.floor ∉ touched → t.floor = s.floor) ∧ (.uplink ∉ touched → t.uplink = s.uplink) ∧
    (.streams ∉ touched → t.streams = s.streams) ∧ (.modes ∉ touched → t.modes = s.modes)

@[simp] theorem SameBut.refl (touched : List Block) (s : State) : SameBut touched s s := by
  simp [SameBut]

section
variable {touched : List Block} {s : State}

theorem State.tested_same {tests : List (Bool × ReplyOutcome)} {k : Ans}
    (hk : SameBut touched s k.state) : SameBut touched s (s.tested tests k).state :=
  State.tested_keeps (.refl _ _) fun _ => hk

theorem State.onNamed_same {index : Byte} {key : Half} {k : Fin 64 → Check → Ans}
    (hk : ∀ i c, SameBut touched s (k i c).state) :
    SameBut touched s (s.onNamed index key k).state :=
  State.onNamed_keeps (.refl _ _) fun i c _ => hk i c

end

/-! Operations beyond those of Ops.lean. -/

/-- `afterEdit` changes no block but attn, table, streams. -/
theorem State.afterEdit_same (s : State) (i : Fin 64) :
    SameBut [.attn, .table, .streams] s (s.afterEdit i) := by
  simp [SameBut, State.afterEdit]

theorem State.continueStream_same (s : State) (p : Port) (st : Stream) :
    SameBut [.attn, .streams] s (s.continueStream p st) := by
  unfold State.continueStream
  split <;> simp [SameBut]

theorem State.failStream_same (s : State) (p : Port) (st : Stream) (o : ReplyOutcome) :
    SameBut [.attn, .streams] s (s.failStream p st o) := by
  simp [SameBut, State.failStream]

theorem State.endQuietly_same (s : State) (i : Fin 64) :
    SameBut [.attn, .table, .holds, .streams] s (s.endQuietly i) := by
  simp [SameBut, State.endQuietly]

theorem State.addItem_same (s : State) (i : Fin 64) (c : Check) (w : ItemWire) :
    SameBut [.attn, .table, .pool, .streams] s (s.addItem i c w) := by
  simp [SameBut, State.addItem, State.afterEdit]

theorem State.readNext_same (s : State) (p : Port) (st : Stream) :
    SameBut [.attn, .table, .streams] s (s.readNext p st).state := by
  unfold State.readNext State.continueStream
  dsimp only
  (repeat' split) <;> simp [SameBut, State.accept]

theorem State.putWriteItem_same (s : State) (p : Port) (st : Stream) (w : ItemWire) :
    SameBut [.attn, .table, .pool, .streams] s (s.putWriteItem p st w).1 := by
  unfold State.putWriteItem State.continueStream
  dsimp only
  (repeat' split) <;> simp [SameBut, State.failStream, State.addItem, State.afterEdit]

theorem State.putImageItem_same (s : State) (p : Port) (st : Stream) (w : ItemWire) :
    SameBut [.attn, .pool, .floor, .streams] s (s.putImageItem p st w).1 := by
  unfold State.putImageItem State.continueStream
  dsimp only
  (repeat' split) <;> simp [SameBut, State.failStream]

theorem SameBut.trans {touched : List Block} {s t w : State} (h : SameBut touched s t)
    (k : SameBut touched t w) : SameBut touched s w := by
  simp only [SameBut] at *
  obtain ⟨h1, h2, h3, h4, h5, h6, h7, h8, h9, h10, h11, h12, h13, h14⟩ := h
  obtain ⟨k1, k2, k3, k4, k5, k6, k7, k8, k9, k10, k11, k12, k13, k14⟩ := k
  exact ⟨fun h => (k1 h).trans (h1 h), fun h => (k2 h).trans (h2 h), fun h => (k3 h).trans (h3 h),
    fun h => (k4 h).trans (h4 h), fun h => (k5 h).trans (h5 h), fun h => (k6 h).trans (h6 h),
    fun h => (k7 h).trans (h7 h), fun h => (k8 h).trans (h8 h), fun h => (k9 h).trans (h9 h),
    fun h => (k10 h).trans (h10 h), fun h => (k11 h).trans (h11 h),
    fun h => (k12 h).trans (h12 h), fun h => (k13 h).trans (h13 h),
    fun h => (k14 h).trans (h14 h)⟩

/-- A block that is the same but for fewer blocks is the same but for more. -/
theorem SameBut.mono {few more : List Block} {s t : State} (h : SameBut few s t)
    (hsub : ∀ b ∈ few, b ∈ more) : SameBut more s t := by
  have hnot (b : Block) : b ∉ more → b ∉ few := fun hb hf => hb (hsub b hf)
  simp only [SameBut] at *
  obtain ⟨h1, h2, h3, h4, h5, h6, h7, h8, h9, h10, h11, h12, h13, h14⟩ := h
  exact ⟨fun h => h1 (hnot _ h), fun h => h2 (hnot _ h), fun h => h3 (hnot _ h),
    fun h => h4 (hnot _ h), fun h => h5 (hnot _ h), fun h => h6 (hnot _ h),
    fun h => h7 (hnot _ h), fun h => h8 (hnot _ h), fun h => h9 (hnot _ h),
    fun h => h10 (hnot _ h), fun h => h11 (hnot _ h), fun h => h12 (hnot _ h),
    fun h => h13 (hnot _ h), fun h => h14 (hnot _ h)⟩

theorem State.putItems_same (p : Port) (items : List ItemWire) (s : State) :
    SameBut [.attn, .table, .pool, .floor, .streams] s (State.putItems p items s).1 := by
  induction items generalizing s with
  | nil => exact .refl _ s
  | cons w rest ih =>
    have hitem (st : Stream) : SameBut [.attn, .table, .pool, .floor, .streams] s
        (if st.target = .image then s.putImageItem p st w else s.putWriteItem p st w).1 := by
      split
      · exact (s.putImageItem_same p st w).mono (by simp)
      · exact (s.putWriteItem_same p st w).mono (by simp)
    unfold State.putItems
    split
    · next st _ =>
      dsimp only
      split
      · exact (hitem st).trans (ih _)
      · exact hitem st
    · exact .refl _ s

theorem State.resetShare_same (s : State) (p : Port) :
    SameBut [.attn, .table, .staging, .pool, .ring, .totals, .floor, .uplink] s
      (s.resetShare p) := by
  cases p <;> simp [SameBut, State.resetShare]

/-- What each element of a fold leaves unchanged, the fold does. -/
theorem SameBut.foldl {α : Type} {touched : List Block} (f : State → α → State)
    (h : ∀ s a, SameBut touched s (f s a)) (s : State) (l : List α) :
    SameBut touched s (l.foldl f s) :=
  foldl_preserves f (SameBut touched s) (fun b a hb => hb.trans (h b a)) s l (.refl _ s)

theorem State.releaseAll_same (s : State) (p : Port) :
    SameBut [.attn, .table, .pool, .holds, .ring, .uplink, .streams] s (s.releaseAll p) := by
  unfold State.releaseAll
  refine SameBut.trans ?_ (SameBut.foldl (State.releaseAt p) (fun u i => ?_) _ _)
  · split <;> simp [SameBut]
  · unfold State.releaseAt
    split <;> simp [SameBut]

theorem State.settleRecord_same (s : State) (r : UplinkRecord) :
    SameBut [.table, .offline] s (s.settleRecord r) := by
  unfold State.settleRecord
  (repeat' split) <;> simp [SameBut]

theorem State.freeIfDone_same (s : State) (i : Fin 64) :
    SameBut [.attn, .table, .pool, .holds, .streams] s (s.freeIfDone i) := by
  unfold State.freeIfDone
  (repeat' split) <;> simp [SameBut]

theorem State.retryNamed_same (gone : List UplinkRecord) (s : State) (i : Fin 64) :
    SameBut [.attn, .table, .pool, .holds, .ring, .streams] s (State.retryNamed gone s i) := by
  unfold State.retryNamed
  split <;> simp [SameBut]

theorem State.deliver_same (s : State) (gone : List UplinkRecord) :
    SameBut [.attn, .uplink] s (s.deliver gone) := by
  unfold State.deliver
  (repeat' split) <;> simp [SameBut]

theorem State.readyAgain_same (s : State) : SameBut [.attn] s s.readyAgain := by
  unfold State.readyAgain
  split <;> simp [SameBut]

theorem State.afterAck_same (s : State) (gone : List UplinkRecord) :
    SameBut [.attn, .table, .pool, .holds, .ring, .uplink, .streams] s (s.afterAck gone) := by
  unfold State.afterAck
  have hfree := SameBut.foldl _ State.freeIfDone_same s allIdx
  have htry := SameBut.foldl _ (State.retryNamed_same gone) (allIdx.foldl State.freeIfDone s) allIdx
  refine (hfree.mono (by simp)).trans ((htry.mono (by simp)).trans (SameBut.trans ?_
    (((State.deliver_same _ gone).mono (by simp)).trans ((State.readyAgain_same _).mono (by simp)))))
  simp [SameBut]

theorem State.settleImage_same (s : State) (i : Fin 64) :
    SameBut [.attn, .table, .ring] s (s.settleImage i) := by
  simp [SameBut]

theorem State.allocate_same {s u : State} {i : Fin 64} (h : s.allocate = some (i, u)) :
    SameBut [.attn, .table, .pool, .streams] s u := by
  unfold State.allocate at h
  split at h
  · obtain ⟨-, rfl⟩ := Prod.mk.inj (Option.some.inj h)
    exact .refl _ s
  · split at h
    · obtain ⟨-, rfl⟩ := Prod.mk.inj (Option.some.inj h)
      simp [SameBut]
    · cases h

/-- `countApproval` changes no block but offline, totals. -/
@[simp] theorem State.countApproval_frame (s : State) (w : ResultWire) (late : Bool) :
      (s.countApproval w late).pending = s.pending ∧ (s.countApproval w late).ports = s.ports ∧
      (s.countApproval w late).attn = s.attn ∧ (s.countApproval w late).table = s.table ∧
      (s.countApproval w late).staging = s.staging ∧ (s.countApproval w late).pool = s.pool ∧
      (s.countApproval w late).holds = s.holds ∧ (s.countApproval w late).ring = s.ring ∧
      (s.countApproval w late).floor = s.floor ∧ (s.countApproval w late).uplink = s.uplink ∧
      (s.countApproval w late).streams = s.streams ∧
      (s.countApproval w late).modes = s.modes := by
  unfold State.countApproval State.exposeOffline
  split <;> simp

theorem State.applyLate_same (s : State) (i : Fin 64) (amount tip : Nat) :
    SameBut [.attn, .table, .ring] s (s.applyLate i amount tip) := by
  unfold State.applyLate
  dsimp only
  (repeat' split) <;> simp [SameBut]

theorem State.approveTarget_same (s : State) (g : ResultTarget) (w : ResultWire) :
    SameBut [.attn, .table, .ring, .offline, .totals, .uplink] s (s.approveTarget g w) := by
  cases g with
  | taken k t =>
    simp only [State.approveTarget, State.approveTaken]
    simp [SameBut, State.finishTaken]
  | late e =>
    simp only [State.approveTarget, State.approveLate]
    split
    · refine SameBut.trans (t := (s.dropLate e).appendRecord (some e.index) e.key
        (settlementOf w e.serial true false)) (by simp [SameBut, State.dropLate]) ?_
      refine ((State.applyLate_same _ e.index w.amount.toNat w.tip.toNat).mono (by simp)).trans ?_
      simp [SameBut]
    · simp [SameBut, State.dropLate]

theorem State.declineTarget_same (s : State) (g : ResultTarget) :
    SameBut [.attn, .table, .ring, .totals] s (s.declineTarget g) := by
  cases g <;> simp [SameBut, State.declineTarget, State.declineTaken, State.finishTaken,
    State.dropLate]

theorem State.endImage_same (s : State) (a : Assembly) :
    SameBut [.attn, .table, .pool, .ring, .floor, .streams] s (s.endImage a).state := by
  have hplace : SameBut [.attn, .table, .pool, .ring, .floor, .streams] s
      (s.placeImage a).state := by
    unfold State.placeImage
    split
    · simp [SameBut]
    · next i u h =>
      refine ((State.allocate_same h).mono (by simp)).trans ?_
      simp [SameBut, State.accept, State.takeAssembly]
  unfold State.endImage
  (repeat' split)
  · exact hplace
  · unfold State.endImageAt
    dsimp only
    (repeat' split) <;> simp [SameBut, State.accept, State.takeAssembly]
  · exact hplace

/-! ### What every rule leaves unchanged -/

/-- The blocks that the rule of a request may change. -/
def touchedBy : Instr → List Block
  | .attnClear .. | .attnEnable .. => [.attn]
  | .portReset .. =>
    [.attn, .table, .staging, .pool, .holds, .ring, .totals, .floor, .uplink, .streams]
  | .config1 .. => [.table, .modes, .pool, .floor, .streams]
  | .config2 .. | .powerDoze .. | .powerSleep .. => [.modes]
  | .config3 .. => [.offline, .modes]
  | .config4 .. => [.attn, .uplink, .modes]
  | .probe .. | .read .. | .stageSet .. | .exchange .. => [.staging]
  | .commit .. => [.attn, .table, .staging, .streams]
  | .commitNew .. => [.attn, .table, .staging, .pool, .holds, .streams]
  | .checkClose .. | .resolveClose .. => [.attn, .table, .holds, .uplink, .streams]
  | .resolveKeep .. => [.attn, .table, .uplink, .streams]
  | .itemAdd .. => [.attn, .table, .pool, .streams]
  | .itemVoid .. | .splitSet .. | .splitClear .. | .streamNext .. => [.attn, .table, .streams]
  | .hold .. => [.table, .holds]
  | .renew .. => [.table]
  | .release .. => [.attn, .table, .pool, .holds, .ring, .uplink, .streams]
  | .streamOpenItemsRead .. | .streamOpenItemsWrite .. | .streamClose .. | .imageAbort .. =>
    [.pool, .floor, .streams]
  | .streamPut .. => [.attn, .table, .pool, .floor, .streams]
  | .tenderPostCard .. | .tenderCancel .. => [.attn, .table, .ring]
  | .tenderPostCash .. => [.attn, .table, .ring, .totals, .uplink]
  | .tenderReap .. | .tenderTake .. | .tenderProgress .. | .lateClear .. => [.ring]
  | .tenderResultApproved .. => [.attn, .table, .ring, .offline, .totals, .uplink]
  | .tenderResultDeclined .. => [.attn, .table, .ring, .totals]
  | .totalsLatch .. | .totalsRead .. | .totalsClear .. => [.totals]
  | .linkStateUp .. => [.attn, .floor]
  | .linkStateDown .. => [.attn, .table, .pool, .floor, .uplink, .streams]
  | .imageBegin .. => [.floor, .streams]
  | .imageEnd .. => [.attn, .table, .pool, .ring, .floor, .streams]
  | .retire .. => [.attn, .table, .pool, .holds, .ring, .streams]
  | .uplinkNext .. => [.attn, .table, .uplink]
  | .uplinkAck .. => [.attn, .table, .pool, .holds, .ring, .offline, .uplink, .streams]
  | .mark .. => [.attn, .uplink]
  | _ => []

theorem portResetRule_same (p : Port) (s : State) :
    SameBut [.attn, .table, .staging, .pool, .holds, .ring, .totals, .floor, .uplink, .streams] s
      (portResetRule p s).state := by
  have hclose : SameBut [.pool, .floor, .streams] s (s.closeChannel p) := by simp [SameBut]
  refine (hclose.mono (by simp)).trans (((State.resetShare_same _ p).mono (by simp)).trans
    (((State.releaseAll_same _ p).mono (by simp)).trans ?_))
  simp [SameBut, portResetRule, State.accept]

theorem config1Rule_same (tid pin : Byte) (s : State) :
    SameBut [.table, .modes, .pool, .floor, .streams] s (config1Rule tid pin s).state := by
  refine State.tested_same ?_
  dsimp only
  split <;> simp [SameBut, State.accept, State.closeAll]

theorem config3Rule_same (single : Tri) (cap : Quad) (count : Byte) (s : State) :
    SameBut [.offline, .modes] s (config3Rule single cap count s).state := by
  unfold config3Rule
  split <;> simp [SameBut, State.accept]

theorem config4Rule_same (window wakes : Byte) (s : State) :
    SameBut [.attn, .uplink, .modes] s (config4Rule window wakes s).state := by
  refine State.tested_same ?_
  dsimp only
  split <;> simp [SameBut, State.accept]

theorem probeRule_same (p : Port) (key : Half) (any : Byte) (s : State) :
    SameBut [.staging] s (probeRule p key any s).state := by
  refine State.tested_same ?_
  dsimp only
  unfold State.loadProbe
  (repeat' split) <;> simp [SameBut, State.accept]

theorem checkInfoRule_same (index share : Byte) (s : State) :
    SameBut [] s (checkInfoRule index share s).state := by
  unfold checkInfoRule
  split
  · exact .refl _ s
  · refine State.tested_same ?_
    (repeat' split) <;> simp [State.accept, State.refuse]

theorem readRule_same (index : Byte) (s : State) :
    SameBut [.staging] s (readRule index s).state := by
  unfold readRule State.readFrom
  (repeat' split) <;> simp [SameBut, State.accept, State.refuse, State.setPrimary]

theorem commitRule_same (s : State) :
    SameBut [.attn, .table, .staging, .streams] s (commitRule s).state := by
  unfold commitRule State.commitTo
  dsimp only
  split
  · split
    · exact .refl _ s
    · refine State.tested_same ?_
      split <;> simp [SameBut, State.accept, State.setPrimary]
  · exact .refl _ s

theorem commitNewRule_same (s : State) :
    SameBut [.attn, .table, .staging, .pool, .holds, .streams] s (commitNewRule s).state := by
  refine State.tested_same ?_
  split
  · next h =>
    refine ((State.allocate_same h).mono (by simp)).trans ?_
    simp [SameBut, State.accept, State.setPrimary]
  · exact .refl _ s

theorem checkCloseRule_same (index : Byte) (key : Half) (s : State) :
    SameBut [.attn, .table, .holds, .uplink, .streams] s (checkCloseRule index key s).state := by
  refine State.onNamed_same fun i c => State.tested_same ?_
  unfold State.placeClose
  split <;> simp [SameBut, State.accept, State.endQuietly, State.convertDelta]

theorem resolveKeepRule_same (index : Byte) (key : Half) (resolution : Byte) (s : State) :
    SameBut [.attn, .table, .uplink, .streams] s
      (resolveKeepRule index key resolution s).state := by
  refine State.tested_same (State.onNamed_same fun i c => State.tested_same ?_)
  dsimp only
  split <;> simp [SameBut, State.accept]

theorem holdRule_same (p : Port) (index : Byte) (key : Half) (s : State) :
    SameBut [.table, .holds] s (holdRule p index key s).state := by
  refine State.onNamed_same fun i c => ?_
  unfold State.holdCases
  (repeat' split)
  · simp [SameBut, State.accept]
  · exact .refl _ s
  · exact State.tested_same (by simp [SameBut, State.accept])
  · exact State.tested_same (by simp [SameBut, State.joinList])

theorem releaseRule_same (p : Port) (index : Byte) (key : Half) (s : State) :
    SameBut [.attn, .table, .pool, .holds, .ring, .uplink, .streams] s
      (releaseRule p index key s).state := by
  unfold releaseRule
  split
  · exact .refl _ s
  · refine State.tested_same ?_
    unfold State.releaseCases
    (repeat' split) <;> simp [SameBut, State.accept, State.refuse, State.endHold]

theorem openReadRule_same (p : Port) (target index : Byte) (key : Half) (dir start count : Byte)
    (s : State) :
    SameBut [.pool, .floor, .streams] s (openReadRule p target index key dir start count s).state := by
  unfold openReadRule
  split
  · exact .refl _ s
  · exact State.tested_same (State.onNamed_same fun i c => by simp [SameBut, State.accept])

theorem streamNextRule_same (p : Port) (s : State) :
    SameBut [.attn, .table, .streams] s (streamNextRule p s).state := by
  unfold streamNextRule
  (repeat' split)
  case isTrue => exact s.readNext_same p _
  all_goals exact .refl _ s

theorem streamPutRule_same (p : Port) (count : Byte) (items : List ItemWire) (s : State) :
    SameBut [.attn, .table, .pool, .floor, .streams] s (streamPutRule p count items s).state := by
  refine State.tested_same ?_
  (repeat' split)
  case isFalse => exact State.putItems_same p _ s
  all_goals exact .refl _ s

theorem streamCloseRule_same (p : Port) (s : State) :
    SameBut [.pool, .floor, .streams] s (streamCloseRule p s).state := by
  unfold streamCloseRule
  dsimp only
  split <;> simp [SameBut, State.accept, State.refuse]

theorem tenderCancelRule_same (serial : Half) (s : State) :
    SameBut [.attn, .table, .ring] s (tenderCancelRule serial s).state := by
  refine State.tested_same ?_
  (repeat' split) <;> simp [SameBut, State.accept, State.refuse, State.cancelTender]

theorem tenderReapRule_same (s : State) : SameBut [.ring] s (tenderReapRule s).state := by
  unfold tenderReapRule
  split
  · exact .refl _ s
  · exact State.tested_same (by simp [SameBut, State.accept])

theorem tenderStatusRule_same (serial : Half) (s : State) :
    SameBut [] s (tenderStatusRule serial s).state := by
  refine State.tested_same ?_
  (repeat' split) <;> exact .refl _ s

theorem tenderTakeRule_same (s : State) : SameBut [.ring] s (tenderTakeRule s).state := by
  refine State.tested_same ?_
  split <;> simp [SameBut, State.accept]

theorem tenderPeekRule_same (s : State) : SameBut [] s (tenderPeekRule s).state := by
  unfold tenderPeekRule
  split <;> exact .refl _ s

theorem progressRule_same (serial : Half) (stage : Byte) (s : State) :
    SameBut [.ring] s (progressRule serial stage s).state := by
  unfold progressRule
  split
  · exact .refl _ s
  · refine State.tested_same ?_
    split <;> simp [SameBut, State.accept, State.refuse]

theorem resultApprovedRule_same (serial : Half) (outcome : Byte) (w : ResultWire) (s : State) :
    SameBut [.attn, .table, .ring, .offline, .totals, .uplink] s
      (resultApprovedRule serial outcome w s).state := by
  refine State.tested_same ?_
  split
  · exact .refl _ s
  · exact State.tested_same (State.approveTarget_same s _ w)

theorem resultDeclinedRule_same (serial : Half) (w : ResultWire) (s : State) :
    SameBut [.attn, .table, .ring, .totals] s (resultDeclinedRule serial w s).state := by
  refine State.tested_same ?_
  split
  · exact .refl _ s
  · exact State.tested_same (State.declineTarget_same s _)

theorem linkUpRule_same (value : Byte) (s : State) :
    SameBut [.attn, .floor] s (linkUpRule value s).state := by
  refine State.tested_same ?_
  dsimp only
  (repeat' split) <;> simp [SameBut, State.accept]

theorem linkDownRule_same (s : State) :
    SameBut [.attn, .table, .pool, .floor, .uplink, .streams] s (linkDownRule s).state := by
  unfold linkDownRule State.abortImage State.failStream
  (repeat' split) <;> simp [SameBut, State.accept]

theorem imageEndRule_same (s : State) :
    SameBut [.attn, .table, .pool, .ring, .floor, .streams] s (imageEndRule s).state := by
  unfold imageEndRule
  split
  · exact .refl _ s
  · next a _ =>
    refine State.tested_same ((s.endImage_same a).trans ?_)
    simp [SameBut]

theorem retireRule_same (key server : Half) (s : State) :
    SameBut [.attn, .table, .pool, .holds, .ring, .streams] s (retireRule key server s).state := by
  refine State.tested_same ?_
  unfold State.retireAt
  (repeat' split) <;> simp [SameBut, State.accept, State.refuse]

theorem uplinkNextRule_same (s : State) :
    SameBut [.attn, .table, .uplink] s (uplinkNextRule s).state := by
  refine State.tested_same ?_
  split <;> simp [SameBut, State.accept, State.refuse]

theorem uplinkAckRule_same (seq : Half) (s : State) :
    SameBut [.attn, .table, .pool, .holds, .ring, .offline, .uplink, .streams] s
      (uplinkAckRule seq s).state := by
  refine State.tested_same ?_
  split
  · exact .refl _ s
  · next gone kept _ =>
    have hsettled := SameBut.foldl _ State.settleRecord_same
      (s.setUplink { s.uplink with records := kept }) gone
    let removed := s.setUplink { s.uplink with records := kept }
    let settled := gone.foldl State.settleRecord removed
    have hqueue : SameBut [.uplink] s removed := by simp [SameBut, removed]
    have hsettled : SameBut [.table, .offline] removed settled :=
      SameBut.foldl _ State.settleRecord_same removed gone
    have hfirst : SameBut [.attn, .table, .pool, .holds, .ring, .offline, .uplink, .streams] s
        settled := (hqueue.mono (by simp)).trans (hsettled.mono (by simp))
    dsimp only [State.accept]
    exact hfirst.trans ((State.afterAck_same settled gone).mono (by simp))

theorem markRule_same (s : State) : SameBut [.attn, .uplink] s (markRule s).state := by
  unfold markRule
  split <;> simp [SameBut, State.accept]

theorem totalsLatchRule_same (s : State) : SameBut [.totals] s (totalsLatchRule s).state := by
  unfold totalsLatchRule
  split <;> simp [SameBut, State.accept]

theorem totalsReadRule_same (s : State) : SameBut [.totals] s (totalsReadRule s).state := by
  unfold totalsReadRule
  split <;> simp [SameBut, State.accept]

/-- No rule changes a block that it is not listed with. -/
theorem rule_same {c : Instr} {r : Served} (h : requestOf c = some r) (s : State) :
    SameBut (touchedBy c) s (r.rule s).state := by
  cases c <;> simp only [requestOf, Option.some.injEq, reduceCtorEq] at h <;> subst h
  case nop | status | attnRead => exact .refl _ s
  case attnClear | attnEnable | config2 | powerDoze | powerSleep | stageSet | imageBegin |
      imageAbort =>
    exact State.tested_same (by simp [SameBut, touchedBy, State.accept, State.setPrimary])
  case stageGet => simp only [stageGetRule]; (repeat' split) <;> exact .refl _ s
  case exchange | lateClear | totalsClear =>
    simp [SameBut, touchedBy, State.accept, exchangeRule, lateClearRule, totalsClearRule]
  case resolveClose | itemAdd | splitClear | renew =>
    refine State.onNamed_same fun i c => State.tested_same ?_
    simp [SameBut, touchedBy, State.accept, State.endQuietly, State.addItem, State.afterEdit]
  case itemVoid | tenderPostCard | tenderPostCash =>
    refine State.tested_same (State.onNamed_same fun i c => State.tested_same ?_)
    simp [SameBut, touchedBy, State.accept, State.afterEdit, State.postCard, State.postCash,
      State.pushTender]
  case splitSet =>
    refine State.onNamed_same fun i c => State.tested_same ?_
    split <;> simp [SameBut, touchedBy, State.accept, State.refuse, State.afterEdit]
  case streamOpenItemsWrite =>
    exact State.tested_same (State.onNamed_same fun i c => State.tested_same
      (by simp [SameBut, touchedBy, State.accept]))
  case portReset => exact portResetRule_same _ s
  case config1 => exact config1Rule_same _ _ s
  case config3 => exact config3Rule_same _ _ _ s
  case config4 => exact config4Rule_same _ _ s
  case probe => exact probeRule_same _ _ _ s
  case checkInfo => exact checkInfoRule_same _ _ s
  case read => exact readRule_same _ s
  case commit => exact commitRule_same s
  case commitNew => exact commitNewRule_same s
  case checkClose => exact checkCloseRule_same _ _ s
  case resolveKeep => exact resolveKeepRule_same _ _ _ s
  case hold => exact holdRule_same _ _ _ s
  case release => exact releaseRule_same _ _ _ s
  case streamOpenItemsRead => exact openReadRule_same _ _ _ _ _ _ _ s
  case streamNext => exact streamNextRule_same _ s
  case streamPut => exact streamPutRule_same _ _ _ s
  case streamClose => exact streamCloseRule_same _ s
  case tenderCancel => exact tenderCancelRule_same _ s
  case tenderReap => exact tenderReapRule_same s
  case tenderStatus => exact tenderStatusRule_same _ s
  case tenderTake => exact tenderTakeRule_same s
  case tenderPeek => exact tenderPeekRule_same s
  case tenderProgress => exact progressRule_same _ _ s
  case tenderResultApproved => exact resultApprovedRule_same _ _ _ s
  case tenderResultDeclined => exact resultDeclinedRule_same _ _ s
  case totalsLatch => exact totalsLatchRule_same s
  case totalsRead => exact totalsReadRule_same s
  case linkStateUp => exact linkUpRule_same _ s
  case linkStateDown => exact linkDownRule_same s
  case imageEnd => exact imageEndRule_same s
  case retire => exact retireRule_same _ _ s
  case uplinkNext => exact uplinkNextRule_same s
  case uplinkAck => exact uplinkAckRule_same _ s
  case mark => exact markRule_same s

/-! ### What every step keeps -/

/-- What the exchange around a rule does not break: its slot, its flags, a wake and the lamp. -/
structure KeptByExchange (P : State → Prop) : Prop where
  ports : ∀ s v, P s → P (s.setPorts v)
  raise : ∀ s p c, P s → P (s.raise p c)
  lower : ∀ s p m, P s → P (s.lower p m)
  lamp : ∀ s, P s → P s.relamp
  wake : ∀ s, s.modes.mode = .doze → P s → P (s.setMode .active)
  begins : ∀ s, s.modes.mode = .sleep → P s → P s.beginWake

/-- What the exchange and every request's rule keep, every command that comes in a frame keeps. -/
theorem exec_request_keeps {P : State → Prop} (hx : KeptByExchange P) {c : Instr} {r : Served}
    (hc : requestOf c = some r)
    (own : ∀ s, r.req.permitted r.exch.port = true → s.admission r.req = none → P s →
      P (r.rule s).state)
    {s t : State} (h : exec c s = .next t) (hs : P s) : P t :=
  request_keeps P r.req r.exch r.extra r.rule hx.ports hx.raise hx.lower hx.lamp hx.wake hx.begins
    own s t ((exec_of_request hc s).symm.trans h) hs

theorem KeptByExchange.consume {P : State → Prop} (hx : KeptByExchange P) {s : State} (x : Exch)
    (hs : P s) : P (s.consume x) := hx.lower _ _ _ (hx.ports _ _ hs)

theorem KeptByExchange.placeReply {P : State → Prop} (hx : KeptByExchange P) {s : State} (p : Port)
    (r : Reply) (quiet : Bool) (hs : P s) : P (s.placeReply p r quiet) := by
  unfold State.placeReply
  dsimp only
  split
  · exact hx.ports _ _ hs
  · exact hx.raise _ _ _ (hx.ports _ _ hs)

theorem KeptByExchange.wakeUp {P : State → Prop} (hx : KeptByExchange P) {s : State}
    (hm : s.modes.mode = .doze) (hs : P s) : P s.wakeUp := hx.raise _ _ _ (hx.wake _ hm hs)

theorem KeptByExchange.enter {P : State → Prop} (hx : KeptByExchange P) {s u : State} {x : Exch}
    (h : s.enter x = some u) (hs : P s) : P u := by
  obtain ⟨-, rfl | ⟨hm, rfl⟩ | ⟨hm, -, rfl⟩⟩ := s.enter_cases x u h
  · exact hx.consume x hs
  · exact hx.consume x (hx.wakeUp hm hs)
  · exact hx.consume x (hx.begins _ hm hs)

/-- A frame that carries no request changes the slot, the flags and the modes alone. -/
theorem KeptByExchange.exchange {P : State → Prop} (hx : KeptByExchange P) {s : State} {x : Exch}
    (r : Reply) (quiet : Bool) (hs : P s) :
    P (s.exchange x fun u => u.placeReply x.port r quiet) := by
  unfold State.exchange
  split
  · next h => exact hx.lamp _ (hx.placeReply _ _ _ (hx.enter h hs))
  · exact hs

theorem KeptByExchange.afterExpiry {P : State → Prop} (hx : KeptByExchange P) {s : State}
    (hs : P s) : P s.afterExpiry := by
  unfold State.afterExpiry
  split
  · next hm => exact hx.wakeUp hm hs
  · exact hs

/-- What the events keep that come in no frame, beside what an exchange does not break. -/
structure KeptByEvents (P : State → Prop) : Prop extends KeptByExchange P where
  pending : ∀ s v, P s → P (s.setPending v)
  advance : ∀ s dt, P s → P (s.advance dt)
  line : ∀ s high, P s → P (s.setWakeLine high)
  awake : ∀ s, s.modes.mode = .sleep → P s → P (s.setModes { s.modes with wakeTimer := none, mode := .active })
  expire : ∀ s i, s.modes.mode ≠ .sleep → P s → P (s.expireLease i)
  timeOut : ∀ s, s.modes.mode ≠ .sleep → P s → P (s.timeOutTaken true)
  initial : ∀ (s : State) held, P s → P (s.initial held)

theorem State.mode_of_asleep {s : State} (h : s.asleep = true) : s.modes.mode = .sleep := by
  simp only [State.asleep, Bool.and_eq_true, decide_eq_true_eq] at h
  exact h.1.2

theorem State.mode_of_timebaseRuns {s : State} (h : s.timebaseRuns = true) :
    s.modes.mode ≠ .sleep := by
  simp only [State.timebaseRuns, Bool.and_eq_true, decide_eq_true_eq] at h
  exact h.2

/-- What the events keep, every event keeps. -/
theorem exec_event_keeps {P : State → Prop} (he : KeptByEvents P) {c : Instr}
    (hc : requestOf c = none) {u t : State} (h : exec c u = .next t) (hs : P u) : P t := by
  have hx : KeptByExchange P := he.toKeptByExchange
  cases c <;> simp only [requestOf, reduceCtorEq] at hc
  case coldReset cause =>
    cases cause with
    | powerUp => cases h; exact he.initial _ _ hs
    | asserted micros =>
      cases h
      split
      · exact hs
      · exact he.initial _ _ hs
  all_goals cases h
  case badFrame | unknownRequest => exact hx.exchange _ _ hs
  case exchangeDiscarded | wakeByChipSelect =>
    split
    · next hasleep => exact hx.begins _ (State.mode_of_asleep (Bool.and_eq_true_iff.1 hasleep).1) hs
    · exact hs
  case leaseExpiry =>
    dsimp only
    split
    · next hdue =>
      have hmode := State.mode_of_timebaseRuns (Bool.and_eq_true_iff.1 hdue).1
      exact hx.lamp _ (hx.afterExpiry (he.expire _ _ hmode (he.advance _ _ hs)))
    · exact he.advance _ _ hs
  case tenderTimeout =>
    dsimp only
    split
    · next hdue =>
      have hmode := State.mode_of_timebaseRuns (Bool.and_eq_true_iff.1 hdue).1
      exact hx.lamp _ (hx.afterExpiry (he.timeOut _ hmode (he.advance _ _ hs)))
    · exact he.advance _ _ hs
  case wakeAssert =>
    have hline := he.line u true hs
    dsimp only
    (repeat' split)
    · exact hline
    · exact hline
    · next hmode => exact hx.lamp _ (hx.wakeUp hmode hline)
    · next hmode _ => exact hx.begins _ hmode hline
    · exact hline
  case wakeTimerExpiry =>
    dsimp only
    split
    · next hdue =>
      simp only [Bool.and_eq_true, decide_eq_true_eq] at hdue
      have hawake := he.awake (u.advance _) hdue.1.2 (he.advance _ _ hs)
      exact hx.lamp _ (hx.raise _ .console .wake hawake)
    · exact he.advance _ _ hs
  case resetRelease =>
    split
    · exact he.initial _ _ hs
    · exact hs
  case wakeLineFall => exact he.line _ _ hs

/-- What every event and every request's rule keep, every step keeps. -/
theorem step_keeps {P : State → Prop} (he : KeptByEvents P)
    (own : ∀ c r, requestOf c = some r → ∀ s, r.req.permitted r.exch.port = true →
      s.admission r.req = none → P s → P (r.rule s).state)
    {s t : State} (h : step s = .next t) (hs : P s) : P t := by
  unfold step at h
  split at h
  · cases h
    exact he.pending _ _ (he.advance _ _ hs)
  · next c rest _ =>
    have hrest := he.pending s rest hs
    cases hc : requestOf c with
    | some r => exact exec_request_keeps he.toKeptByExchange hc (own c r hc) h hrest
    | none => exact exec_event_keeps he hc h hrest

end Sys2Proof.Machine
end

section
/-!
SUPPORT. The step, every command's answer, and the values and laws at reset (R180).
-/

namespace Sys2Proof.Machine

/-! ### Every command answers -/

/-- No meaning ends in a fault or a refusal. -/
theorem exec_answers (c : Instr) (s : State) : ∃ t : State, exec c s = .next t := by
  cases c
  case coldReset cause => cases cause <;> exact ⟨_, rfl⟩
  all_goals exact ⟨_, rfl⟩

/-- What neither taking an exchange nor placing its reply nor the lamp changes. -/
theorem keptByExchange_of_blocks {α : Type} (f : State → α)
    (h : ∀ (s : State) ports attn uplink modes,
      f { s with ports := ports, attn := attn, uplink := uplink, modes := modes } = f s) (a : α) :
    KeptByExchange (fun s => f s = a) where
  ports s v hs := (h s v s.attn s.uplink s.modes).trans hs
  raise s p c hs := (h s s.ports (s.raise p c).attn s.uplink s.modes).trans hs
  lower s p m hs := (h s s.ports (s.lower p m).attn s.uplink s.modes).trans hs
  lamp s hs := (h s s.ports s.attn s.relamp.uplink s.modes).trans hs
  wake s _ hs := (h s s.ports s.attn s.uplink (s.setMode .active).modes).trans hs
  begins s _ hs := (h s s.ports s.attn s.uplink s.beginWake.modes).trans hs

/-- No event changes the queue of commands. -/
theorem exec_event_pending {c : Instr} (hc : requestOf c = none) {s t : State}
    (h : exec c s = .next t) : t.pending = s.pending := by
  have hx := keptByExchange_of_blocks State.pending (fun _ _ _ _ _ => rfl) s.pending
  have hexpire (u : State) (i : Fin 64) : (u.expireLease i).pending = u.pending := by
    unfold State.expireLease
    split <;> simp
  cases c <;> simp only [requestOf, reduceCtorEq] at hc
  case coldReset cause =>
    cases cause with
    | powerUp => cases h; rfl
    | asserted micros => cases h; split <;> rfl
  all_goals cases h
  case badFrame | unknownRequest => exact hx.exchange _ _ rfl
  case wakeAssert => dsimp only; (repeat' split) <;> simp [State.setWakeLine]
  case leaseExpiry | tenderTimeout | wakeTimerExpiry => dsimp only; split <;> simp [hexpire]
  case exchangeDiscarded | wakeByChipSelect | resetRelease => split <;> rfl
  case wakeLineFall => rfl

theorem exec_pending {c : Instr} {s t : State} (h : exec c s = .next t) :
    t.pending = s.pending := by
  cases hc : requestOf c with
  | none => exact exec_event_pending hc h
  | some r =>
    refine exec_request_keeps (P := fun t => t.pending = s.pending)
      (keptByExchange_of_blocks State.pending (fun _ _ _ _ _ => rfl) _) hc (fun u _ _ hu => ?_) h rfl
    have hsame := (rule_same hc u).1
    refine (hsame ?_).trans hu
    cases c <;> simp [touchedBy]

/-! ### Reset -/

@[simp] theorem State.reset_check (i : Fin 64) : State.reset.check i = none := by
  simp [State.check, State.reset, Vector.get]

/-! ### The obligations -/

/-- Settles O1: the queue's front is what `step` looks at. -/
theorem stepTakesFrontCommand : Obligations.StepTakesFrontCommand := by
  unfold Obligations.StepTakesFrontCommand
  intro c rest s hqueue
  rw [step, hqueue]
  rfl

/-- Settles O3: no meaning stops, and neither a rule nor an event touches the queue. -/
theorem everyCommandAnswersNext : Obligations.EveryCommandAnswersNext := by
  unfold Obligations.EveryCommandAnswersNext
  intro c s
  obtain ⟨t, ht⟩ := exec_answers c s
  exact ⟨t, ht, exec_pending ht⟩

/-- Settles O4, block by block. -/
theorem resetHoldsInitialValues : Obligations.ResetHoldsInitialValues := by
  unfold Obligations.ResetHoldsInitialValues
  have hports : ∀ p, State.reset.streams.get p = .idle ∧
      State.reset.ports.slot.get p = ⟨0, 0, .none, []⟩ ∧
      (State.reset.attn.flags.get p = 0 ∧ State.reset.attn.enables.get p = 0 ∧
        State.reset.attnLow p = false) ∧
      State.reset.modes.wakeEnable.get p = false ∧
      State.reset.holds.count.get p = 0 ∧ State.reset.holds.waits.get p = none := by
    intro p
    cases p <;> exact ⟨rfl, rfl, ⟨rfl, rfl, rfl⟩, rfl, rfl, rfl⟩
  refine ⟨State.reset_check, rfl, rfl, rfl, rfl, by simp [State.reset], by simp [State.reset],
    fun p => (hports p).2.2.2.2, rfl, rfl, rfl, rfl, rfl, rfl, rfl, rfl, rfl, rfl, rfl, rfl, rfl,
    rfl, rfl, rfl, fun p => (hports p).1, fun p => (hports p).2.1, fun p => (hports p).2.2.1, rfl,
    rfl, fun p => (hports p).2.2.2.1, rfl, rfl, rfl, rfl, rfl⟩

/-- Settles O5: a part with every entry FREE and every collection empty meets each law. -/
theorem lawsHoldAtReset : Obligations.LawsHoldAtReset := by
  unfold Obligations.LawsHoldAtReset
  have hfree : ∀ i, ∀ c ∈ State.reset.check i, False := by simp
  have hport (p : Port) : State.reset.PortRecordOk p := by
    have hheld : State.reset.heldBy p = 0 := by
      simp [State.heldBy, State.holderOf]
    refine ⟨hheld ▸ ?_, ?_, fun i => ?_⟩
    · cases p <;> rfl
    · cases p <;> simp [State.reset, PerPort.all, PerPort.get]
    · have hwaits : State.reset.holds.waits.get p = none := by cases p <;> rfl
      simp [State.waitsOn, hwaits]
  have hchained : State.reset.chainedRecords = List.range 512 := by
    have hpool : State.reset.pool.free = List.range 512 := by simp only [State.reset]
    have hassembly : State.reset.floor.assembly = none := rfl
    simp [State.chainedRecords, entryRecords, State.assemblyRecords, hpool, hassembly]
  have hpartition : State.reset.PoolPartitioned := by
    unfold State.PoolPartitioned
    rw [hchained]
    exact .refl _
  have hnotaken : State.reset.takenTender = none := rfl
  refine ⟨fun i _ c hc => (hfree i c hc).elim, ⟨fun h => by cases h; rfl, fun h => by cases h; rfl⟩,
    fun i c hc => (hfree i c hc).elim,
    ⟨fun _ => by simp [State.allFree], fun h => absurd rfl h, fun i c hc => (hfree i c hc).elim⟩,
    ⟨by decide, by decide, by decide⟩,
    ⟨fun i => ⟨fun _ => ⟨rfl, rfl⟩, fun c hc => (hfree i c hc).elim⟩,
      fun i c hc => (hfree i c hc).elim, by simp [State.reset]⟩,
    hpartition, ⟨fun i c hc => (hfree i c hc).elim, by simp [State.reset]⟩,
    ⟨⟨hport .console, hport .tender, hport .link⟩, fun i c hc => (hfree i c hc).elim⟩,
    ?ring, ?sent, ?bounded, ?exposure, rfl, ⟨rfl, rfl, rfl⟩,
    ⟨⟨rfl, rfl⟩, ⟨rfl, rfl⟩, ⟨rfl, rfl⟩⟩, ?sleep⟩
  case ring => refine ⟨?_, ?_, ?_, ?_, ?_, ?_, rfl⟩ <;> simp [State.reset, Config.ringSize]
  case sent => exact ⟨⟨by decide, by decide⟩, by decide, by decide⟩
  case bounded => exact ⟨by decide, by decide⟩
  case exposure => exact ⟨rfl, rfl, by decide, by decide⟩
  case sleep => exact ⟨nofun, nofun⟩

end Sys2Proof.Machine
end

section
/-!
SUPPORT. How an exchange is taken in each mode (R170, R171, R184 to R186), what the bytes of a
chip-select period are read as (R170, R172, R173), and the operating modes, cold reset and the wake
(R180, R184 to R186).
-/

namespace Sys2Proof.Machine

/-! ### Taking an exchange -/

/-- A request whose exchange is not taken changes nothing. -/
theorem request_of_not_entered {q : Req} {x : Exch} {extra : Nat} {rule : State → Ans} {s : State}
    (h : s.enter x = none) : request q x extra rule s = .next s := by
  simp [request, State.exchange, h]

theorem exec_command_of_not_entered {x : Exch} {s : State} (h : s.enter x = none) (q : Req)
    (b : List Byte) : exec (q.command x b) s = .next s := by
  obtain ⟨extra, rule, hrequest⟩ := requestOf_command q x b
  rw [exec_of_request hrequest]
  exact request_of_not_entered h

section
variable {s : State} {x : Exch}

theorem State.enter_of_resetHeld (h : s.modes.resetHeld = true) : s.enter x = none := by
  simp [State.enter, h]

/-- The consumption of the slot, from a state that differs by WAKE and the modes at most. -/
theorem State.consumed_of_consume {v : State} {woke : Bool} (x : Exch)
    (hports : v.ports = s.ports)
    (hflags : ∀ p, v.attn.flags.get p =
      withFlag (s.attn.flags.get p) (woke && decide (p = .console)) .wake p)
    (henables : v.attn.enables = s.attn.enables)
    (hsame : v = { s with ports := v.ports, attn := v.attn, modes := v.modes }) :
    Consumed s (v.consume x) x woke := by
  refine ⟨?_, ?_, fun p => ?_, henables, ?_⟩
  · simp [State.consume, State.lower, hports, Reply.noReply]
  · simp [State.consume, State.lower, hports, Reply.noReply]
  · by_cases hp : p = x.port
    · subst hp
      simp [State.consume, State.lower, hflags]
    · simp [State.consume, State.lower, hflags, hp]
  · rw [hsame]
    rfl

theorem State.consumed_consume (s : State) (x : Exch) : Consumed s (s.consume x) x false :=
  State.consumed_of_consume x rfl (fun p => by simp [withFlag]) rfl rfl

theorem State.consumed_wakeUp (s : State) (x : Exch) : Consumed s (s.wakeUp.consume x) x true := by
  refine State.consumed_of_consume x rfl (fun p => ?_) rfl rfl
  cases p <;> simp [State.wakeUp, withFlag, State.setMode]

theorem State.consumed_beginWake (s : State) (x : Exch) :
    Consumed s (s.beginWake.consume x) x false :=
  State.consumed_of_consume x rfl (fun p => by simp [withFlag]) rfl rfl

end

/-- Settles O6, mode by mode. -/
theorem exchangeTakenByMode : Obligations.ExchangeTakenByMode := by
  unfold Obligations.ExchangeTakenByMode
  intro s x
  refine ⟨exec_command_of_not_entered, State.enter_of_resetHeld, State.enter_of_cut s x,
    fun hheld hcut => ⟨fun hmode => ?active, fun hmode hoff => ?dozeOn, fun hmode hon => ?dozeWakes,
      fun hmode hrunning => ?waking, fun hmode hstopped hon => ?wakes,
      fun hmode hstopped hoff => ?sleeps⟩⟩
  case active =>
    exact ⟨s.consume x, by simp [State.enter, hheld, hcut, hmode], s.consumed_consume x, by simp⟩
  case dozeOn =>
    exact ⟨s.consume x, by simp [State.enter, hheld, hcut, hmode, hoff], s.consumed_consume x,
      by simp⟩
  case dozeWakes =>
    exact ⟨s.wakeUp.consume x, by simp [State.enter, hheld, hcut, hmode, hon],
      s.consumed_wakeUp x, by simp [State.wakeUp, State.setMode]⟩
  case waking =>
    exact ⟨s.consume x, by simp [State.enter, hheld, hcut, hmode, hrunning], s.consumed_consume x,
      by simp⟩
  case wakes =>
    exact ⟨s.beginWake.consume x, by simp [State.enter, hheld, hcut, hmode, hstopped, hon],
      s.consumed_beginWake x, by simp [State.beginWake, Config.wakeMillis]⟩
  case sleeps => simp [State.enter, hheld, hcut, hmode, hstopped, hoff]

/-! ### Reading a chip-select period -/

theorem Req.ofCode_code (q : Req) : Req.ofCode q.code = some q := by
  cases q <;> rfl

theorem Req.ofCode_of_unused {code : Byte} (h : ∀ q : Req, q.code ≠ code) :
    Req.ofCode code = none :=
  List.find?_eq_none.2 fun q _ => by simpa using h q

/-- The frame check is the CRC's agreement and a body length of at most 59. -/
theorem frameOk_iff (bytes : List Byte) :
    frameOk bytes = true ↔
      crc16 (bytes.take 62) = (bytes.getD 62 0 ++ bytes.getD 63 0 : BitVec 16) ∧
        (bytes.getD 2 0).toNat ≤ 59 := by
  simp [frameOk, halfAt, byteAt]

theorem decodeChipSelect_of_length {bytes : List Byte} (p : Port) (early cut : Bool)
    (h : bytes.length = 64) :
    decodeChipSelect p early cut bytes =
      if frameOk bytes then
        match Req.ofCode (bytes.getD 0 0) with
        | none => .unknownRequest ⟨p, bytes.getD 1 0, bytes.getD 2 0, early, cut⟩ (bytes.getD 0 0)
        | some r =>
          r.command ⟨p, bytes.getD 1 0, bytes.getD 2 0, early, cut⟩ ((bytes.take 62).drop 3)
      else .badFrame ⟨p, bytes.getD 1 0, bytes.getD 2 0, early, cut⟩ (bytes.getD 0 0) := by
  unfold decodeChipSelect
  rw [if_neg (not_not.2 h)]
  rfl

/-- Settles O7, by the length of the period, the frame check and the code. -/
theorem framesReadAndAnswered : Obligations.FramesReadAndAnswered := by
  unfold Obligations.FramesReadAndAnswered
  refine ⟨fun p early cut bytes => ⟨fun hlength => if_pos hlength, fun hlength => ?frame⟩,
    fun x code s u he => ?answered, fun x code s he => ?ignored, fun p n s => ?discarded⟩
  case frame =>
    rw [decodeChipSelect_of_length p early cut hlength]
    refine ⟨fun hbad => if_neg fun hok => ?_, fun hcrc hlen hunused => ?_,
      fun q hcrc hlen hcode => ?_⟩
    · obtain ⟨hcrc, hlen⟩ := (frameOk_iff bytes).1 hok
      exact hbad.elim (fun h => h hcrc) (fun h => absurd hlen (Nat.not_le.2 h))
    · rw [if_pos ((frameOk_iff bytes).2 ⟨hcrc, hlen⟩), Req.ofCode_of_unused hunused]
    · rw [if_pos ((frameOk_iff bytes).2 ⟨hcrc, hlen⟩), ← hcode, Req.ofCode_code]
  case answered =>
    constructor <;> simp [exec, execBadFrame, execUnknownRequest, State.exchange, he]
  case ignored =>
    constructor <;> simp [exec, execBadFrame, execUnknownRequest, State.exchange, he]
  case discarded =>
    have hexec : exec (.exchangeDiscarded p n) s =
        .next (if s.asleep && s.modes.wakeEnable.get p then s.beginWake else s) := rfl
    rw [hexec]
    refine ⟨fun hmode => ?_, fun hoff => ?_, fun hheld hmode hstopped hon => ?_⟩
    · simp [State.asleep, hmode]
    · simp [hoff]
    · simp [State.asleep, hheld, hmode, hstopped, hon, State.beginWake, State.setModes,
        Config.wakeMillis]

/-! ### POWER -/

theorem exec_powerDoze (x : Exch) (mode : Byte) (s : State) :
    exec (.powerDoze x mode) s = request .power x 0 (powerDozeRule mode) s := rfl

theorem exec_powerSleep (x : Exch) (s : State) :
    exec (.powerSleep x) s = request .power x 0 powerSleepRule s := rfl

/-- What refuses SLEEP, in the words of R185. -/
theorem State.sleepBlocked_iff (u : State) :
    u.sleepBlocked = true ↔ (∃ i, (u.holderOf i).isSome = true) ∨
      u.ring.tenders.any Tender.isTaken = true ∨ (∃ p, (u.streams.get p).isActive = true) ∨
        u.floor.assembly.isSome = true := by
  have hactive : u.anyActive = true ↔ ∃ p, (u.streams.get p).isActive = true := by
    rw [State.anyActive_eq]
    constructor
    · intro h
      simp only [Bool.or_eq_true] at h
      obtain (h | h) | h := h
      · exact ⟨.console, h⟩
      · exact ⟨.tender, h⟩
      · exact ⟨.link, h⟩
    · rintro ⟨p, h⟩
      cases p <;> simp_all [PerPort.get]
  have hheld : 0 < u.countEntries hasHolder ↔ ∃ i, (u.holderOf i).isSome = true := by
    rw [State.countEntries_hasHolder, List.length_pos_iff_exists_mem]
    simp [allIdx]
  simp only [State.sleepBlocked, Bool.or_eq_true, decide_eq_true_eq, hheld,
    State.takenTender_isSome, hactive, or_assoc]

/-- Settles O13, by the tests of POWER. -/
theorem powerChangesMode : Obligations.PowerChangesMode := by
  unfold Obligations.PowerChangesMode
  refine ⟨fun x mode s u he hs => ⟨fun hone => ?_, fun hother => ?_⟩,
    fun x s u he hs => ⟨fun hbusy => ?_, fun hquiet => ?_⟩⟩
  · rw [exec_powerDoze]
    exact request_of_served he hs (State.tested_of_all _ _ _ (by simp [hone]))
  · rw [exec_powerDoze]
    exact request_of_served he hs (State.tested_of_firstFailure _ (by
      rw [firstFailure, decide_eq_false hother]; rfl))
  · rw [exec_powerSleep]
    refine request_of_served he hs (State.tested_of_firstFailure _ ?_)
    simp [firstFailure, (u.sleepBlocked_iff).2 hbusy]
  · rw [exec_powerSleep]
    refine request_of_served he hs (State.tested_of_all _ _ _ ?_)
    simpa using fun h => hquiet ((u.sleepBlocked_iff).1 h)

/-! ### Reset, the WAKE line and the wake timer -/

/-- Settles O14. -/
theorem coldResetInitializesEveryBlock : Obligations.ColdResetInitializesEveryBlock := by
  unfold Obligations.ColdResetInitializesEveryBlock
  intro initial s
  refine ⟨rfl, fun micros hlong => ?_, fun micros hshort => ?_, fun hheld => ?_, fun hfree => ?_,
    fun hheld => ⟨fun x => State.enter_of_resetHeld hheld, fun p => ?_, ?_⟩⟩
  · exact congrArg Host.Outcome.next (if_neg (Nat.not_lt.2 hlong))
  · exact congrArg Host.Outcome.next (if_pos hshort)
  · exact congrArg Host.Outcome.next (if_pos hheld)
  · exact congrArg Host.Outcome.next (if_neg (by simp [hfree]))
  · simp [State.attnLow, hheld]
  · simp [State.lampLit, hheld]

/-- The wake from DOZE or SLEEP, written out: ACTIVE, with WAKE at the Console Port. -/
theorem State.wakeUp_eq (s : State) :
    s.wakeUp = { s with
      modes := { s.modes with mode := .active }
      attn := { s.attn with flags := { s.attn.flags with
        console := s.attn.flags.console ||| Cause.wake.bit .console } } } := rfl

/-- In SLEEP the wake timer alone runs. -/
theorem State.advance_of_sleep {s : State} (dt : Nat) (hheld : s.modes.resetHeld = false)
    (hmode : s.modes.mode = .sleep) :
    s.advance dt =
      s.setModes { s.modes with wakeTimer := s.modes.wakeTimer.map (fun n => n - dt) } := by
  simp [State.advance, hheld, hmode, runTimer]

section
variable {s : State}

theorem exec_wakeAssert_of_quiet
    (h : s.modes.wakeLine = true ∨ s.modes.resetHeld = true ∨ s.modes.mode = .active) :
    exec .wakeAssert s = .next (s.setWakeLine true) := by
  obtain h | h | h := h <;> simp [exec, execWakeAssert, h]

theorem exec_wakeAssert_of_doze (hlow : s.modes.wakeLine = false)
    (hheld : s.modes.resetHeld = false) (hmode : s.modes.mode = .doze) :
    exec .wakeAssert s = .next (s.setWakeLine true).wakeUp.relamp := by
  simp [exec, execWakeAssert, hlow, hheld, hmode]

theorem exec_wakeAssert_of_sleep (hlow : s.modes.wakeLine = false)
    (hheld : s.modes.resetHeld = false) (hmode : s.modes.mode = .sleep) :
    exec .wakeAssert s =
      .next (if s.modes.wakeTimer.isSome then s.setWakeLine true
        else (s.setWakeLine true).beginWake) := by
  cases htimer : s.modes.wakeTimer <;>
    simp [exec, execWakeAssert, hlow, hheld, hmode, htimer, State.asleep, State.setWakeLine]

/-- The expiry in SLEEP, on what the elapsed time leaves of the timer. -/
theorem exec_wakeTimerExpiry_of_sleep {n : Nat} (elapsed : Nat)
    (hheld : s.modes.resetHeld = false) (hmode : s.modes.mode = .sleep)
    (htimer : s.modes.wakeTimer = some n) :
    exec (.wakeTimerExpiry elapsed) s =
      .next (if n - elapsed = 0 then (s.setModes { s.modes with wakeTimer := none }).wakeUp.relamp
        else s.setModes { s.modes with wakeTimer := some (n - elapsed) }) := by
  simp only [exec, execWakeTimerExpiry, State.advance_of_sleep elapsed hheld hmode, htimer,
    State.setModes_modes, hheld, hmode, timerDue, Option.map_some, Option.some.injEq]
  by_cases hdue : n - elapsed = 0
  · simp only [hdue]
    rfl
  · simp [hdue]

end

/-- Settles O15, by the level of the line, the mode and the timer. -/
theorem wakeSourcesAndTimer : Obligations.WakeSourcesAndTimer := by
  unfold Obligations.WakeSourcesAndTimer
  refine ⟨fun s => ⟨rfl, fun hquiet => ?quiet, fun hlow hheld hmode => ?doze,
    fun hlow hheld hmode => ?sleep, fun p => ?chipSelect⟩,
    fun s elapsed n hheld hmode htimer => ⟨fun hdue => ?expires, fun hearly => ?runs⟩⟩
  case quiet => exact (exec_wakeAssert_of_quiet hquiet).trans rfl
  case doze => exact (exec_wakeAssert_of_doze hlow hheld hmode).trans rfl
  case sleep =>
    rw [exec_wakeAssert_of_sleep hlow hheld hmode]
    split <;> rfl
  case chipSelect =>
    have hexec : exec (.wakeByChipSelect p) s =
        .next (if s.asleep && s.modes.wakeEnable.get p then s.beginWake else s) := rfl
    have hwakes : (s.asleep && s.modes.wakeEnable.get p) = true ↔
        s.modes.resetHeld = false ∧ s.modes.mode = .sleep ∧ s.modes.wakeTimer = none ∧
          s.modes.wakeEnable.get p = true := by
      simp [State.asleep, and_assoc]
    rw [hexec]
    exact ⟨fun h => congrArg Host.Outcome.next (if_pos (hwakes.2 h)),
      fun h => congrArg Host.Outcome.next (if_neg fun h' => h (hwakes.1 h'))⟩
  case expires =>
    rw [exec_wakeTimerExpiry_of_sleep elapsed hheld hmode htimer,
      if_pos (Nat.sub_eq_zero_of_le hdue)]
    rfl
  case runs =>
    rw [exec_wakeTimerExpiry_of_sleep elapsed hheld hmode htimer,
      if_neg (Nat.sub_ne_zero_of_lt hearly)]
    rfl

end Sys2Proof.Machine
end

section
/-!
SUPPORT. The part's clocks (R72, R100, R158, R185, R186): what a number of milliseconds changes, and the
expiries that one millisecond brings.
-/

namespace Sys2Proof.Machine

/-! ### Milliseconds pass -/

section
variable {s : State}

theorem State.advance_of_held (dt : Nat) (hheld : s.modes.resetHeld = true) : s.advance dt = s := by
  simp [State.advance, hheld]

/-- While the timebase runs, leases, tender timer, wake timer and lamp run with it. -/
theorem State.advance_of_running (dt : Nat) (hheld : s.modes.resetHeld = false)
    (hmode : s.modes.mode ≠ .sleep) :
    s.advance dt =
      { s with
        table := { s.table with checks := s.table.checks.map (Option.map (Check.runLease dt)) }
        ring := { s.ring with timer := s.ring.timer.map (fun n => n - dt) }
        uplink := { s.uplink with lamp := s.uplink.lamp.advance dt }
        modes := { s.modes with wakeTimer := s.modes.wakeTimer.map (fun n => n - dt) } } := by
  simp only [State.advance, hheld, hmode, if_false, Bool.false_eq_true]
  rfl

theorem State.advance_check_of_running (dt : Nat) (hheld : s.modes.resetHeld = false)
    (hmode : s.modes.mode ≠ .sleep) (i : Fin 64) :
    (s.advance dt).check i = (s.check i).map (Check.runLease dt) := by
  rw [State.advance_of_running dt hheld hmode]
  simp [State.check, Vector.get_eq_getElem]

/-- The table of leases does not run in SLEEP. -/
theorem State.advance_check_of_sleep (dt : Nat) (hheld : s.modes.resetHeld = false)
    (hmode : s.modes.mode = .sleep) (i : Fin 64) : (s.advance dt).check i = s.check i := by
  rw [State.advance_of_sleep dt hheld hmode, State.setModes_check]

theorem Lamp.advance_pattern (l : Lamp) (dt : Nat) : (l.advance dt).pattern = l.pattern := by
  unfold Lamp.advance
  split <;> rfl

theorem Lamp.advance_phase_of_blinking {l : Lamp} (dt : Nat)
    (h : l.pattern = .slow ∨ l.pattern = .fast) : (l.advance dt).phase = (l.phase + dt) % 1000 := by
  obtain h | h := h <;> simp [Lamp.advance, h]

/-- When the lamp is lit, by pattern and phase (R158). -/
theorem Lamp.lit_iff (l : Lamp) :
    l.lit = true ↔ l.pattern = .steady ∨ (l.pattern = .slow ∧ l.phase % 1000 < 500) ∨
      (l.pattern = .fast ∧ l.phase % 250 < 125) := by
  unfold Lamp.lit
  cases l.pattern <;> simp

/-! ### The expiries of one millisecond -/

/-- A timer that one millisecond brings to 0 stood at 1. -/
theorem timerDue_newly (t : Option Nat) :
    (timerDue (t.map (fun n => n - 1)) && !timerDue t) = true ↔ t = some 1 := by
  cases t with
  | none => simp [timerDue]
  | some n =>
    simp only [timerDue, Option.map_some, Bool.and_eq_true, Bool.not_eq_true', decide_eq_true_eq,
      decide_eq_false_iff_not, Option.some.injEq]
    omega

/-- A clock that stands still makes no timer due. -/
theorem timerDue_not_newly (t : Option Nat) : (timerDue t && !timerDue t) = false := by
  cases timerDue t <;> rfl

/-- A lease that one millisecond brings to 0 stood at 1, and the timebase ran. -/
theorem State.leaseDue_newly (s : State) (i : Fin 64) :
    ((s.advance 1).leaseDue i && !s.leaseDue i) = true ↔
      (∃ c h, s.check i = some c ∧ c.hold = some h ∧ h.lease = 1) ∧
        s.modes.resetHeld = false ∧ s.modes.mode ≠ .sleep := by
  by_cases hruns : s.modes.resetHeld = false ∧ s.modes.mode ≠ .sleep
  · obtain ⟨hheld, hmode⟩ := hruns
    simp only [State.leaseDue, State.advance_check_of_running 1 hheld hmode]
    cases hc : s.check i with
    | none => simp
    | some c =>
      cases hh : c.hold with
      | none => simp [Check.runLease, hh]
      | some h =>
        simp only [Option.map_some, Check.runLease, hh, Option.any_some, Bool.and_eq_true,
          Bool.not_eq_true', decide_eq_true_eq, decide_eq_false_iff_not, Option.some.injEq,
          hheld, hmode, ne_eq, not_false_eq_true, and_true]
        constructor
        · rintro ⟨h0, h1⟩
          exact ⟨c, h, rfl, hh, by omega⟩
        · rintro ⟨d, g, rfl, hd, hlease⟩
          rw [hh, Option.some.injEq] at hd
          subst hd
          omega
  · have hstill : (s.advance 1).leaseDue i = s.leaseDue i := by
      cases hheld : s.modes.resetHeld with
      | true => rw [State.advance_of_held 1 hheld]
      | false =>
        have hmode : s.modes.mode = .sleep := by
          by_contra h
          exact hruns ⟨hheld, h⟩
        simp only [State.leaseDue, State.advance_check_of_sleep 1 hheld hmode]
    constructor
    · intro h
      rw [hstill] at h
      cases hdue : s.leaseDue i <;> simp [hdue] at h
    · rintro ⟨-, h⟩
      exact absurd h hruns

/-- The tender timer that one millisecond brings to 0 stood at 1, and the timebase ran. -/
theorem State.tenderDue_newly (s : State) :
    (timerDue (s.advance 1).ring.timer && !timerDue s.ring.timer) = true ↔
      s.ring.timer = some 1 ∧ s.modes.resetHeld = false ∧ s.modes.mode ≠ .sleep := by
  cases hheld : s.modes.resetHeld with
  | true => simp [State.advance_of_held 1 hheld]
  | false =>
    by_cases hmode : s.modes.mode = .sleep
    · simp [State.advance_of_sleep 1 hheld hmode, hmode]
    · rw [State.advance_of_running 1 hheld hmode, timerDue_newly]
      simp [hmode]

/-- The wake timer that one millisecond brings to 0 stood at 1, and RESET was released. -/
theorem State.wakeDue_newly (s : State) :
    (timerDue (s.advance 1).modes.wakeTimer && !timerDue s.modes.wakeTimer) = true ↔
      s.modes.wakeTimer = some 1 ∧ s.modes.resetHeld = false := by
  cases hheld : s.modes.resetHeld with
  | true => simp [State.advance_of_held 1 hheld]
  | false =>
    by_cases hmode : s.modes.mode = .sleep
    · rw [State.advance_of_sleep 1 hheld hmode]
      simpa using timerDue_newly s.modes.wakeTimer
    · rw [State.advance_of_running 1 hheld hmode]
      simpa using timerDue_newly s.modes.wakeTimer

/-- The queue after a step on an empty one: the leases newly due, the tender timer, the wake timer. -/
theorem State.tick_pending_of_empty (hqueue : s.pending = []) :
    s.tick.pending =
      (allIdx.filter fun i => (s.advance 1).leaseDue i && !s.leaseDue i).map
          (fun i => Instr.leaseExpiry i 0) ++
        (if timerDue (s.advance 1).ring.timer && !timerDue s.ring.timer
          then [Instr.tenderTimeout 0] else []) ++
        (if timerDue (s.advance 1).modes.wakeTimer && !timerDue s.modes.wakeTimer
          then [Instr.wakeTimerExpiry 0] else []) := by
  simp [State.tick, hqueue]

/-- Settles O2: the clocks by RESET and mode, the lamp by its pattern, the queue by what is newly due. -/
theorem clocksRunWithTime : Obligations.ClocksRunWithTime := by
  unfold Obligations.ClocksRunWithTime
  intro s ms
  refine ⟨State.advance_of_held ms, fun hheld => ⟨fun hmode => ?sleep, fun hmode => ?running⟩,
    ?lit, fun hqueue => ?empty⟩
  case sleep => exact State.advance_of_sleep ms hheld hmode
  case running =>
    refine ⟨_, State.advance_of_running ms hheld hmode, fun i => ?_, rfl, rfl, rfl, rfl,
      Lamp.advance_pattern _ ms, Lamp.advance_phase_of_blinking ms, rfl⟩
    rw [← State.advance_of_running ms hheld hmode]
    exact State.advance_check_of_running ms hheld hmode i
  case lit =>
    simp only [State.lampLit, Bool.and_eq_true, Bool.not_eq_true', Lamp.lit_iff]
  case empty =>
    refine ⟨s.tick, by simp [step, hqueue], by simp [State.tick, State.setPending], fun i => ?_,
      ?_, ?_⟩ <;> rw [State.tick_pending_of_empty hqueue]
    · rw [← State.leaseDue_newly]
      simp [allIdx]
    · rw [← State.tenderDue_newly]
      simp
    · rw [← State.wakeDue_newly]
      simp

end

end Sys2Proof.Machine
end

section
/-!
SUPPORT. The routing of requests (R173, R174), what the Mode Controller admits (R181, R186), and the
tests on index and key that open the requests about a check.
-/

namespace Sys2Proof.Machine

/-! ### Tests 2 to 4 of R173 -/

section
variable {q : Req} {x : Exch} {extra : Nat} {rule : State → Ans} {s u : State}

/-- A request that the Mode Controller refuses gets its refusal. -/
theorem request_of_refused {o : ReplyOutcome} {body : List Byte} (he : s.enter x = some u)
    (hp : q.permitted x.port = true) (ha : u.admission q = some (o, body)) :
    request q x extra rule s = .next (u.replied q x o body) := by
  simp only [request, State.exchange, he, answerRequest, hp, ha]
  rfl

/-- A request whose body is shorter than its fields is refused. -/
theorem request_of_short (he : s.enter x = some u) (hp : q.permitted x.port = true)
    (ha : u.admission q = none) (hl : x.len.toNat < q.fieldBytes + extra) :
    request q x extra rule s = .next (u.replied q x .badField []) := by
  simp only [request, State.exchange, he, answerRequest, hp, ha, hl]
  rfl

end

/-! ### What the Mode Controller admits -/

section
variable {u : State} {q : Req}

theorem State.admission_of_sleep (h : u.modes.mode = .sleep) :
    u.admission q = some (.waking, []) := by
  simp [State.admission, h]

theorem State.admission_of_ready (hmode : u.modes.mode ≠ .sleep) (h : u.modes.step = .ready) :
    u.admission q = none := by
  simp [State.admission, hmode, h]

/-- Before READY a CONFIG request is admitted in its own step. -/
theorem State.admission_of_config {n : ConfigStep} (hmode : u.modes.mode ≠ .sleep)
    (hstep : u.modes.step ≠ .ready) (hq : configStepOf q = some n) :
    u.admission q =
      if u.modes.step = n then none else some (.sequence, [BitVec.ofNat 8 u.modes.step.code]) := by
  have halways : alwaysAdmitted q = false := by
    cases q <;> simp [configStepOf] at hq <;> rfl
  simp only [State.admission, hmode, hstep, halways, hq, if_false, Bool.false_eq_true,
    eq_comm (a := n)]
  rfl

theorem State.admission_of_other (hmode : u.modes.mode ≠ .sleep) (hstep : u.modes.step ≠ .ready)
    (halways : alwaysAdmitted q = false) (hq : configStepOf q = none) :
    u.admission q = some (.notReady, []) := by
  simp [State.admission, hmode, hstep, halways, hq]

end

/-! ### The tests on index and key -/

section
variable {u : State} {index : Byte} {key : Half} {k : Fin 64 → Check → Ans} {o : ReplyOutcome}

/-- An index and a key that name an entry pass, and no other do. -/
theorem State.onNamed_of_not_names (hindex : index.toNat < 64) (htable : (Key.ofWire key).table ≠ 0)
    (h : ¬ ∃ i c, u.Names index key i c) : u.onNamed index key k = u.refuse .noMatch :=
  State.onNamed_of_no_match (i := ⟨index.toNat, hindex⟩) k rfl htable
    fun c hc hkey => h ⟨⟨index.toNat, hindex⟩, c, rfl, htable, hc, hkey⟩

theorem State.onNamed_of_fails (h : FailsFirst (namingTests u index key True) o) :
    u.onNamed index key k = u.refuse o := by
  obtain ⟨hout, rfl⟩ | ⟨⟨hindex, htable, -⟩, ⟨hnone, rfl⟩ | ⟨-, h⟩⟩ := h
  · refine State.onNamed_of_out_of_range k ?_
    by_contra hin
    push Not at hin
    exact hout ⟨hin.1, hin.2, trivial⟩
  · exact State.onNamed_of_not_names hindex htable hnone
  · exact h.elim

/-- The same where a test on the other fields comes first. -/
theorem State.tested_onNamed_of_fails {fields : Prop} {b : Bool} (hb : fields ↔ b = true)
    (h : FailsFirst (namingTests u index key fields) o) :
    u.tested [(b, .badField)] (u.onNamed index key k) = u.refuse o := by
  cases b with
  | false =>
    have hfields : ¬ fields := by simp [hb]
    obtain ⟨-, rfl⟩ | ⟨⟨-, -, hf⟩, -⟩ := h
    · rfl
    · exact absurd hf hfields
  | true =>
    have hfields : fields ↔ True := by simp [hb]
    simp only [hfields] at h
    exact State.onNamed_of_fails h

end

/-! ### The fields of TENDER_POST -/

theorem tipMode?_eq_some_iff (mode : Byte) (tip : Tri) (m : TipMode) :
    tipMode? mode tip = some m ↔ (mode = 0 ∧ m = .none) ∨ (mode = 1 ∧ m = .prompt) ∨
      (mode = 2 ∧ tip.toNat ≤ 9999999 ∧ m = .fixed tip.toNat) := by
  unfold tipMode?
  split
  · next h => subst h; simp [eq_comm]
  · next h0 =>
    split
    · next h => subst h; simp [eq_comm]
    · next h1 =>
      split
      · next h => simp [h.1, show tip.toNat ≤ 9999999 from h.2, eq_comm]
      · next h =>
        simp only [reduceCtorEq, false_iff, not_or, not_and]
        exact ⟨fun h => absurd h h0, fun h => absurd h h1, fun h2 ht => absurd ⟨h2, ht⟩ h⟩

theorem postInRange_iff (post : PostWire) (m : TipMode) :
    PostInRange post m ↔ (post.share.toNat ≤ 8 ∧ 1 ≤ post.base.toNat ∧
      post.base.toNat ≤ Config.maxAmount) ∧ tipMode? post.tipMode post.fixedTip = some m := by
  simp only [PostInRange, tipMode?_eq_some_iff, Config.maxAmount, and_assoc]

/-- The fields of a CARD tender, as the meanings test them. -/
theorem exists_postInRange_iff (post : PostWire) :
    (∃ m, PostInRange post m) ↔ postFieldsOk .card post = true := by
  simp only [postInRange_iff, postFieldsOk, exists_and_left, Bool.and_eq_true, decide_eq_true_eq]
  cases tipMode? post.tipMode post.fixedTip <;> simp

/-- The fields of a CASH tender, as the meanings test them. -/
theorem exists_postInRange_cash_iff (post : PostWire) :
    (∃ m, PostInRange post m ∧ m ≠ .prompt) ↔ postFieldsOk .cash post = true := by
  simp only [postInRange_iff, postFieldsOk, Bool.and_eq_true, decide_eq_true_eq, and_assoc]
  cases tipMode? post.tipMode post.fixedTip <;> simp

/-- Settles O8: the routing for every request by its rule, the tests on index and key for each request
that opens with them, the admission by mode and step. -/
theorem requestsRoutedAndAdmitted : Obligations.RequestsRoutedAndAdmitted := by
  unfold Obligations.RequestsRoutedAndAdmitted
  refine ⟨fun q x b s u he => ?routed, fun x s u he => ⟨?splitSet, ?streamPut⟩,
    fun x index key s u he => ?named, fun u q => ?admitted⟩
  case routed =>
    obtain ⟨extra, rule, hrequest⟩ := requestOf_command q x b
    rw [exec_of_request hrequest]
    exact ⟨request_of_not_permitted he, fun o body => request_of_refused he,
      fun hp ha hl => request_of_short he hp ha (Nat.lt_add_right extra hl)⟩
  case splitSet =>
    intro index key basis count elems hp ha hl
    exact request_of_short (rule := splitSetRule index key basis count elems) he hp ha hl
  case streamPut =>
    intro count items ha hl
    exact request_of_short (rule := streamPutRule x.port count items) he rfl ha hl
  case named =>
    intro refuses
    refine ⟨?checkClose, fun resolution => ?resolveKeep, ?resolveClose, fun item => ?itemAdd,
      fun serial => ?itemVoid, fun basis count elems => ?splitSet, ?splitClear, ?hold, ?renew,
      fun cls post => ?postCard, fun post => ?postCash⟩ <;>
      intro hs o ho
    case resolveKeep =>
      exact request_of_served he hs
        (State.tested_onNamed_of_fails decide_eq_true_iff.symm ho)
    case itemVoid =>
      exact request_of_served he hs
        (State.tested_onNamed_of_fails decide_eq_true_iff.symm ho)
    case postCard =>
      refine request_of_served he hs (State.tested_onNamed_of_fails ?_ ho)
      rw [Bool.and_eq_true, decide_eq_true_iff, exists_postInRange_iff]
    case postCash =>
      exact request_of_served he hs
        (State.tested_onNamed_of_fails (exists_postInRange_cash_iff post) ho)
    all_goals exact request_of_served he hs (State.onNamed_of_fails ho)
  case admitted =>
    refine ⟨State.admission_of_sleep, State.admission_of_ready, fun hmode hq => ?_,
      fun hmode hstep => ⟨fun r n hr => ?_, fun hq => ?_⟩⟩
    · refine State.admission_of_alwaysAdmitted hmode ?_
      cases q <;> simp at hq <;> rfl
    · refine State.admission_of_config hmode hstep ?_
      simp only [List.mem_cons, Prod.mk.injEq, List.not_mem_nil, or_false] at hr
      obtain ⟨rfl, rfl⟩ | ⟨rfl, rfl⟩ | ⟨rfl, rfl⟩ | ⟨rfl, rfl⟩ := hr <;> rfl
    · refine State.admission_of_other hmode hstep ?_ ?_ <;> cases q <;> simp at hq <;> rfl

end Sys2Proof.Machine
end

section
/-!
SUPPORT. The first entry that a test holds of (R11, R15), and the commands that read or set one block:
PROBE and CHECK_INFO (R11 to R14), the CONFIG requests (R113, R181, R182).
-/

namespace Sys2Proof.Machine

/-! ### Answers -/

/-- A request that is served answers what its own rule does. -/
theorem exec_of_served {c : Instr} {q : Req} {x : Exch} {extra : Nat} {rule : State → Ans}
    {s u w : State} {o : ReplyOutcome} {body : List Byte}
    (hc : requestOf c = some ⟨q, x, extra, rule⟩) (he : s.enter x = some u)
    (hs : u.Serves q x extra) (hr : rule u = ⟨o, body, w⟩) :
    exec c s = .next (w.replied q x o body) :=
  (exec_of_request hc s).trans (request_of_served he hs hr)

/-- Tests of which none can fail let a request through. -/
theorem State.tested_of_none {u : State} {tests : List (Bool × ReplyOutcome)} {k : Ans}
    (h : firstFailure tests = none) : u.tested tests k = k := by
  simp [State.tested, h]

/-! ### The first entry -/

theorem mem_allIdx (i : Fin 64) : i ∈ allIdx := List.mem_finRange i

theorem allIdx_nodup : allIdx.Nodup := List.nodup_finRange 64

/-- The entry found is the first of which the test holds. -/
theorem find?_allIdx_of_first {f : Fin 64 → Bool} {i : Fin 64} (hi : f i = true)
    (hlt : ∀ j, j < i → f j = false) : allIdx.find? f = some i := by
  refine List.find?_eq_some_iff_getElem.2 ⟨hi, i.val, by simp [allIdx], by simp [allIdx], ?_⟩
  intro j hj
  simp only [allIdx, List.getElem_finRange, Bool.not_eq_true']
  exact hlt _ (Fin.mk_lt_of_lt_val hj)

theorem find?_allIdx_of_none {f : Fin 64 → Bool} (h : ∀ i, f i = false) :
    allIdx.find? f = none :=
  List.find?_eq_none.2 fun i _ => by simp [h i]

/-- The entries of which a test holds begin with the first of them. -/
theorem filter_allIdx_of_first {f : Fin 64 → Bool} {i : Fin 64} (hi : f i = true)
    (hlt : ∀ j, j < i → f j = false) : ∃ rest, allIdx.filter f = i :: rest := by
  have hhead : (allIdx.filter f).head? = some i := by
    rw [List.head?_filter, find?_allIdx_of_first hi hlt]
  exact ⟨_, List.eq_cons_of_mem_head? hhead⟩

/-- A test that holds of one entry alone. -/
theorem filter_allIdx_of_unique {f : Fin 64 → Bool} {i : Fin 64} (h : ∀ j, f j = true ↔ j = i) :
    allIdx.filter f = [i] := by
  have hf : f = fun j => decide (j = i) := funext fun j => by
    rw [Bool.eq_iff_iff, h j, decide_eq_true_iff]
  rw [hf, List.filter_eq, List.count_eq_one_of_mem allIdx_nodup (mem_allIdx i)]
  rfl

/-! ### PROBE -/

/-- An entry that PROBE looks for. -/
def State.probed (u : State) (k : Key) (any : Bool) (i : Fin 64) : Bool :=
  match u.check i with
  | some c => if any then c.key.table == k.table else c.key == k
  | none => false

theorem State.probeMatches_eq (u : State) (k : Key) (any : Bool) :
    u.probeMatches k any = allIdx.filter (u.probed k any) := rfl

/-- PROBE's tests pass where the key names a table and ANY is a flag. -/
theorem probeTests_iff (key : Half) (any : Byte) :
    (keyNamed key && flagOk any) = true ↔ (Key.ofWire key).table ≠ 0 ∧ any.toNat ≤ 1 := by
  simp [keyNamed, flagOk]

theorem probeRule_refused {p : Port} {key : Half} {any : Byte} (u : State)
    (h : (Key.ofWire key).table = 0 ∨ 1 < any.toNat) :
    probeRule p key any u = ⟨.badField, [], u⟩ := by
  have hfail : (keyNamed key && flagOk any) = false := by
    rw [Bool.eq_false_iff, ne_eq, probeTests_iff]
    rintro ⟨htable, hany⟩
    exact h.elim htable (Nat.not_lt.2 hany)
  simp [probeRule, State.tested, hfail, State.refuse]

theorem probeRule_served {p : Port} {key : Half} {any : Byte} (u : State)
    (htable : (Key.ofWire key).table ≠ 0) (hany : any.toNat ≤ 1) :
    probeRule p key any u =
      match u.probeMatches (Key.ofWire key) (decide (any = 1)) with
      | [] => ⟨.noMatch, be1 255 ++ be1 0 ++ be1 0 ++ be2 0, u.loadProbe p none⟩
      | i :: _ =>
        (u.loadProbe p (some i)).accept
          (beIndex (some i) ++
            be1 (u.probeMatches (Key.ofWire key) (decide (any = 1))).length ++
            be1 (u.entryState i).code ++ be2 (((u.check i).map Check.revision).getD 0)) := by
  have hpass := (probeTests_iff key any).2 ⟨htable, hany⟩
  simp only [probeRule, hpass, State.tested, firstFailure, if_true] <;> rfl

theorem probeRule_of_none {p : Port} {key : Half} {any : Byte} {u : State}
    (htable : (Key.ofWire key).table ≠ 0) (hany : any.toNat ≤ 1)
    (hnone : ∀ i, u.probed (Key.ofWire key) (decide (any = 1)) i = false) :
    probeRule p key any u = ⟨.noMatch, [255, 0, 0, 0, 0], u.loadProbe p none⟩ := by
  have hfound : u.probeMatches (Key.ofWire key) (decide (any = 1)) = [] := by
    rw [State.probeMatches_eq, List.filter_eq_nil_iff]
    exact fun i _ => by rw [hnone i]; exact Bool.false_ne_true
  rw [probeRule_served u htable hany, hfound]
  rfl

theorem probeRule_of_first {p : Port} {key : Half} {any : Byte} {u : State} {i : Fin 64}
    {c : Check} (htable : (Key.ofWire key).table ≠ 0) (hany : any.toNat ≤ 1)
    (hi : u.probed (Key.ofWire key) (decide (any = 1)) i = true) (hc : u.check i = some c)
    (hlt : ∀ j, j < i → u.probed (Key.ofWire key) (decide (any = 1)) j = false) :
    probeRule p key any u = ⟨.ok, be1 i.val ++
      be1 (allIdx.filter (u.probed (Key.ofWire key) (decide (any = 1)))).length ++
      be1 c.state.entry.code ++ be2 c.revision, u.loadProbe p (some i)⟩ := by
  obtain ⟨rest, hrest⟩ := filter_allIdx_of_first hi hlt
  have hfound : u.probeMatches (Key.ofWire key) (decide (any = 1)) = i :: rest := hrest
  rw [probeRule_served u htable hany, hfound, hrest]
  simp [State.accept, beIndex, State.entryState, hc]

/-- Where no two entries share a key, PROBE by a key finds one entry. -/
theorem length_probed_of_keysDistinct {u : State} (hd : u.KeysDistinct) {k : Key} {i : Fin 64}
    (hi : u.probed k false i = true) : (allIdx.filter (u.probed k false)).length = 1 := by
  have hkey (j : Fin 64) : u.probed k false j = true ↔ ∃ c, u.check j = some c ∧ c.key = k := by
    unfold State.probed
    cases u.check j <;> simp
  obtain ⟨c, hc, hck⟩ := (hkey i).1 hi
  rw [filter_allIdx_of_unique (i := i) fun j => ⟨fun hj => ?_, fun hj => hj ▸ hi⟩]
  · rfl
  · obtain ⟨d, hdj, hdk⟩ := (hkey j).1 hj
    exact hd j i d hdj c hc (hdk.trans hck.symm)

/-! ### CHECK_INFO -/

theorem idx?_of_eq {index : Byte} {i : Fin 64} (h : index.toNat = i.val) : idx? index = some i := by
  rw [idx?_of_lt (h ▸ i.isLt)]
  exact congrArg some (Fin.ext h)

theorem checkInfoRule_refused {index share : Byte} (u : State)
    (h : 64 ≤ index.toNat ∨ 8 < share.toNat) :
    checkInfoRule index share u = ⟨.badField, [], u⟩ := by
  unfold checkInfoRule
  split
  · rfl
  · next i hi =>
    have hshare : 8 < share.toNat := h.resolve_left fun hle => by simp [idx?_of_le hle] at hi
    simp [State.tested, firstFailure, Nat.not_le.2 hshare, State.refuse]

/-- CHECK_INFO about an entry. -/
theorem checkInfoRule_entry {index : Byte} {i : Fin 64} (u : State) (h : index.toNat = i.val) :
    checkInfoRule index 0 u = ⟨.ok, u.entryInfo i, u⟩ := by
  simp [checkInfoRule, idx?_of_eq h, State.tested, firstFailure, State.accept]

/-- CHECK_INFO about a share. -/
theorem checkInfoRule_share {index share : Byte} {i : Fin 64} (u : State)
    (h : index.toNat = i.val) (hlow : 1 ≤ share.toNat) (hhigh : share.toNat ≤ 8) :
    checkInfoRule index share u =
      match u.shareInfo i share.toNat with
      | some b => u.accept b
      | none => u.refuse .noMatch := by
  have hne : share ≠ 0 := fun h0 => by simp [h0] at hlow
  simp only [checkInfoRule, idx?_of_eq h, State.tested, firstFailure, hhigh, decide_true, if_true,
    hne, if_false] <;> rfl

theorem State.shareInfo_eq_none {u : State} {i : Fin 64} {k : Nat}
    (hk : 1 ≤ k) (h : ∀ c ∈ u.check i, ∀ p ∈ c.plan, p.shares.length < k) :
    u.shareInfo i k = none := by
  unfold State.shareInfo
  cases hc : u.check i with
  | none => rfl
  | some c =>
    cases hp : c.plan with
    | none => simp [hp]
    | some p =>
      have hlen := h c hc p hp
      have hnone : p.shares[k - 1]? = none := List.getElem?_eq_none (by omega)
      simp [hp, hnone]

theorem freeEntryWire_eq {index : Byte} {i : Fin 64} (h : index.toNat = i.val) :
    freeEntryWire i = [index] ++ List.replicate 15 0 ++ [0, 1] ++ List.replicate 24 0 ++
      [255, 255, 255] ++ [0, 0] := by
  have hindex : BitVec.ofNat 8 i.val = index := by rw [← h, BitVec.ofNat_toNat, BitVec.setWidth_eq]
  simp only [freeEntryWire, beIndex, Option.map_some, Option.getD_some, be1, hindex]
  rfl

/-- Settles O16: PROBE by the first entry that it looks for, CHECK_INFO by entry and by share. -/
theorem probeAndCheckInfo : Obligations.ProbeAndCheckInfo := by
  unfold Obligations.ProbeAndCheckInfo
  refine ⟨fun x key any s u he hs => ?probe, fun x index share s u he hs => ⟨?_, fun i hi => ?_⟩⟩
  case probe =>
    intro k hit count loaded
    have hhit (i : Fin 64) : hit i = u.probed k (decide (any = 1)) i := by
      simp only [hit, State.probed]
      cases u.check i with
      | none => rfl
      | some c => by_cases h : any = 1 <;> simp [h, Bool.beq_eq_decide_eq]
    have hcount : count = (allIdx.filter (u.probed k (decide (any = 1)))).length := by
      simp only [count, funext hhit]
    simp only [hcount, hhit]
    refine ⟨fun h => ?_, fun ht ha hnone => ?_, fun i c ht ha hi hc hlt => ⟨fun h0 hd => ?_, ?_⟩⟩
    · exact exec_of_served rfl he hs (probeRule_refused u h)
    · exact exec_of_served rfl he hs (probeRule_of_none ht ha hnone)
    · subst h0
      exact length_probed_of_keysDistinct hd hi
    · exact exec_of_served rfl he hs (probeRule_of_first ht ha hi hc hlt)
  · exact fun h => exec_of_served rfl he hs (checkInfoRule_refused u h)
  · refine ⟨fun h0 c hc => ?_, fun h0 hc => ?_, fun c p sh hlow hhigh hc hp hsh => ?_,
      fun hlow hhigh hnone => ?_⟩
    · subst h0
      refine exec_of_served rfl he hs ((checkInfoRule_entry u hi).trans ?_)
      simp [State.entryInfo, hc]
    · subst h0
      refine exec_of_served rfl he hs ((checkInfoRule_entry u hi).trans ?_)
      simp only [State.entryInfo, hc, freeEntryWire_eq hi]
    · refine exec_of_served rfl he hs ((checkInfoRule_share u hi hlow hhigh).trans ?_)
      simp [State.shareInfo, hc, hp, hsh, State.accept]
    · refine exec_of_served rfl he hs ((checkInfoRule_share u hi hlow hhigh).trans ?_)
      rw [State.shareInfo_eq_none hlow hnone]
      rfl

end Sys2Proof.Machine
end

section
/-!
SUPPORT. The end of a channel and of an image assembly (R126, R166), and the CONFIG requests (R113, R152,
R156, R181, R182).
-/

namespace Sys2Proof.Machine

/-! ### Channels and the assembly -/

/-- The assembly is discarded: its records are at the tail of the free list. -/
theorem State.discardAssembly_eq (u : State) : u.discardAssembly = u.withoutAssembly := by
  unfold State.discardAssembly
  cases h : u.floor.assembly with
  | none =>
    refine State.ext_fields rfl rfl rfl rfl rfl ?_ rfl rfl rfl rfl ?_ rfl rfl rfl
    · simp [State.assemblyRecords, h]
    · simp [← h]
  | some a => simp [State.freeItems, State.setFloor, State.setPool, State.assemblyRecords, h]

/-- A port's channel is closed, the assembly with it where its stream is the IMAGE stream. -/
theorem State.closeChannel_eq (u : State) (p : Port) :
    u.closeChannel p =
      (if (u.streams.get p).carriesImage then u.withoutAssembly else u).setChannel p .idle := by
  unfold State.closeChannel Channel.carriesImage
  cases (u.streams.get p).running with
  | none => rfl
  | some st =>
    by_cases h : st.target = .image
    · simp [h, State.discardAssembly_eq]
    · simp [h]

@[simp] theorem State.closeChannel_streams (u : State) (p : Port) :
    (u.closeChannel p).streams = u.streams.set p .idle := by
  rw [State.closeChannel_eq]
  split <;> rfl

@[simp] theorem State.closeChannel_floor (u : State) (p : Port) :
    (u.closeChannel p).floor = { u.floor with
      assembly := if (u.streams.get p).carriesImage then none else u.floor.assembly } := by
  rw [State.closeChannel_eq]
  split <;> rfl

@[simp] theorem State.closeChannel_free (u : State) (p : Port) :
    (u.closeChannel p).pool.free = u.pool.free ++
      (if (u.streams.get p).carriesImage then u.assemblyRecords else []) := by
  rw [State.closeChannel_eq]
  split <;> simp [State.setChannel]

/-- A port's channel is left for another stream. -/
theorem State.channelLeft_setChannel (u : State) (p : Port) (ch : Channel) :
    ChannelLeft u ((u.closeChannel p).setChannel p ch) p := by
  refine ⟨fun q hq => ?_, ?_, ?_, ?_⟩
  · simp [State.setChannel, hq]
  · exact u.closeChannel_floor p
  · exact u.closeChannel_free p
  · apply State.ext_fields <;> simp [State.setChannel]

theorem State.channelLeft_closeChannel (u : State) (p : Port) :
    ChannelLeft u (u.closeChannel p) p := by
  refine ⟨fun q hq => ?_, u.closeChannel_floor p, u.closeChannel_free p, ?_⟩
  · simp [hq]
  · apply State.ext_fields <;> simp

theorem Channel.carriesImage_idle : Channel.idle.carriesImage = false := rfl

@[simp] theorem State.closeAll_streams (u : State) : u.closeAll.streams = PerPort.all .idle := by
  simp [State.closeAll, PerPort.set, PerPort.all]

@[simp] theorem State.closeAll_link (u : State) : u.closeAll.floor.link = u.floor.link := by
  simp [State.closeAll]

/-- Where the Link Port alone can carry the IMAGE stream, every channel's end discards the assembly. -/
theorem State.closeAll_of_assemblyStreams {u : State} (h : u.AssemblyStreams) :
    u.closeAll.floor.assembly = none ∧ u.closeAll.pool.free = u.pool.free ++ u.assemblyRecords := by
  obtain ⟨hlink, hconsole, htender⟩ := h
  have hrecords (h : u.floor.assembly = none) : u.assemblyRecords = [] := by
    simp [State.assemblyRecords, h]
  have hsame (w : State) (hw : w.floor.assembly = u.floor.assembly) :
      w.assemblyRecords = u.assemblyRecords := by simp [State.assemblyRecords, hw]
  simp only [State.closeAll, State.closeChannel_floor, State.closeChannel_free,
    State.closeChannel_streams, PerPort.get, hconsole, htender, if_false, Bool.false_eq_true, List.append_nil, PerPort.set]
  cases hc : u.streams.link.carriesImage with
  | false =>
    have hnone : u.floor.assembly = none := by simpa [hc] using hlink
    simp [hnone, hrecords hnone]
  | true =>
    simp only [if_true, true_and]
    rw [hsame _ (by simp [PerPort.get, PerPort.set, hconsole, htender])]

/-! ### Bytes -/

@[simp] theorem be1_toNat (b : Byte) : be1 b.toNat = [b] := by simp [be1]

/-! ### CONFIG requests -/

theorem State.allFree_iff (u : State) : u.allFree = true ↔ ∀ i, u.check i = none := by
  simp [State.allFree, allIdx]

theorem State.vacant_iff (u : State) :
    u.vacant = true ↔ (∀ i, u.check i = none) ∧ u.ring.tenders = [] ∧ u.uplink.records = [] ∧
      u.ring.late = [] := by
  simp [State.vacant, State.allFree_iff, and_assoc]

/-- A CONFIG request is admitted in its step, or reissued in READY. -/
theorem State.step_of_admission {u : State} {q : Req} {n : ConfigStep}
    (h : u.admission q = none) (hq : configStepOf q = some n) :
    u.modes.step = .ready ∨ u.modes.step = n := by
  by_cases hmode : u.modes.mode = .sleep
  · simp [State.admission_of_sleep hmode] at h
  · by_cases hstep : u.modes.step = .ready
    · exact .inl hstep
    · rw [State.admission_of_config hmode hstep hq] at h
      exact .inr (by_contra fun hne => by simp [hne] at h)

theorem State.step_next_of_admission {u : State} {q : Req} {n : ConfigStep}
    (h : u.admission q = none) (hq : configStepOf q = some n) :
    u.modes.step.next = if u.modes.step = .ready then .ready else n.next := by
  obtain hstep | hstep := State.step_of_admission h hq
  · simp [hstep, ConfigStep.next]
  · by_cases hr : u.modes.step = .ready
    · simp [hr, ConfigStep.next]
    · rw [if_neg hr, hstep]

theorem config1Rule_refused {tid pin : Byte} {u : State}
    (h : ¬ (1 ≤ tid.toNat ∧ tid.toNat ≤ 250 ∧ pin.toNat ≤ 32)) :
    config1Rule tid pin u = ⟨.badField, [], u⟩ :=
  State.tested_of_firstFailure _ (by simp only [h, decide_false, firstFailure_cons_false])

theorem config1Rule_busy {tid pin : Byte} {u : State}
    (h : 1 ≤ tid.toNat ∧ tid.toNat ≤ 250 ∧ pin.toNat ≤ 32) (hstep : u.modes.step = .ready)
    (hv : u.vacant = false) : config1Rule tid pin u = ⟨.busy, [], u⟩ :=
  State.tested_of_firstFailure _ (by simp [h, hstep, hv])

/-- The state that CONFIG_1 leaves, from the one with the channels as they are to be. -/
def State.configured1 (u : State) (tid pin : Byte) : State :=
  { u with
    table := { u.table with pinFloor := pin.toNat, cursor := pin.toNat }
    modes := { u.modes with terminalId := some tid.toNat, step := .step2 } }

theorem config1Rule_served {tid pin : Byte} {u : State}
    (h : 1 ≤ tid.toNat ∧ tid.toNat ≤ 250 ∧ pin.toNat ≤ 32)
    (hv : u.modes.step = .ready → u.vacant = true) :
    config1Rule tid pin u =
      ⟨.ok, [tid, pin, 2],
        (if u.modes.step = .ready then u.closeAll else u).configured1 tid pin⟩ := by
  refine (State.tested_of_all _ _ _ ?_).trans ?_
  · simpa [h] using imp_iff_not_or.1 hv
  · simp only [State.accept, be1_toNat]
    rfl

/-- A state that CONFIG_1 leaves in READY, beside the channels and the assembly. -/
theorem State.configured1_closeAll (u : State) (tid pin : Byte) :
    u.closeAll.configured1 tid pin = { u.configured1 tid pin with
      streams := u.closeAll.streams, floor := u.closeAll.floor, pool := u.closeAll.pool } := by
  apply State.ext_fields <;> simp [State.configured1, State.closeAll]

theorem config2Rule_refused {tax timeout : Half} {lease : Byte} {u : State} {o : ReplyOutcome}
    (h : FailsFirst
      [(tax.toNat ≤ 2500 ∧ 5 ≤ lease.toNat ∧ lease.toNat ≤ 120 ∧ 30 ≤ timeout.toNat ∧
          timeout.toNat ≤ 300, .badField),
        (u.modes.step = .ready → ∀ i, u.check i = none, .busy)] o) :
    config2Rule tax lease timeout u = ⟨o, [], u⟩ := by
  refine State.tested_of_firstFailure _ ((?_ : FailsFirst _ o ↔ _).1 h)
  refine failsFirst_cons decide_eq_true_iff.symm fun _ => failsFirst_cons ?_ fun _ =>
    failsFirst_nil o
  rw [decide_eq_true_iff, State.allFree_iff]

theorem config2Rule_served {tax timeout : Half} {lease : Byte} {u : State}
    (h : tax.toNat ≤ 2500 ∧ 5 ≤ lease.toNat ∧ lease.toNat ≤ 120 ∧ 30 ≤ timeout.toNat ∧
      timeout.toNat ≤ 300)
    (hfree : u.modes.step = .ready → ∀ i, u.check i = none) :
    config2Rule tax lease timeout u =
      ⟨.ok, be2 tax.toNat ++ [lease] ++ be2 timeout.toNat ++ be1 u.modes.step.next.code,
        { u with modes := { u.modes with
            taxRate := tax.toNat, leaseSecs := lease.toNat, tenderSecs := timeout.toNat,
            step := u.modes.step.next } }⟩ := by
  refine (State.tested_of_all _ _ _ ?_).trans ?_
  · simpa [h, State.allFree_iff] using imp_iff_not_or.1 hfree
  · simp only [State.accept, be1_toNat]
    rfl

theorem config4Rule_refused {window wakes : Byte} {u : State}
    (h : ¬ (1 ≤ window.toNat ∧ window.toNat ≤ 8 ∧ wakes.toNat < 8)) :
    config4Rule window wakes u = ⟨.badField, [], u⟩ :=
  State.tested_of_firstFailure _ (by simp only [h, decide_false, firstFailure_cons_false])

theorem config4Rule_served {window wakes : Byte} {u : State}
    (h : 1 ≤ window.toNat ∧ window.toNat ≤ 8 ∧ wakes.toNat < 8) :
    config4Rule window wakes u =
      ⟨.ok, [window, wakes] ++ be1 u.modes.step.next.code,
        { u with
          uplink := { u.uplink with window := window.toNat }
          modes := { u.modes with
            wakeEnable := ⟨wakes.getLsbD 0, wakes.getLsbD 1, wakes.getLsbD 2⟩
            step := u.modes.step.next }
          attn := { u.attn with flags := { u.attn.flags with
            link := withFlag u.attn.flags.link
              (decide (u.uplink.window < window.toNat ∧ u.floor.link = .up ∧
                u.sentCount < window.toNat) && u.uplink.records.any (fun r => !r.sent))
              .uplinkReady .link } } }⟩ := by
  have hraised : (u.uplink.window < window.toNat ∧ u.floor.link = .up ∧ u.hasQueued = true ∧
      u.sentCount < window.toNat) ↔ (decide (u.uplink.window < window.toNat ∧ u.floor.link = .up ∧
        u.sentCount < window.toNat) && u.uplink.records.any (fun r => !r.sent)) = true := by
    simp only [State.hasQueued, Bool.and_eq_true, decide_eq_true_eq]
    tauto
  refine (State.tested_of_all _ _ _ ?_).trans ?_
  · simp [h]
  · simp only [State.accept, be1_toNat, hraised, withFlag]
    split <;> rfl

theorem config3Rule_out_of_range {single : Tri} {cap : Quad} {count : Byte} {u : State}
    (h : ¬ (single.toNat ≤ 9999999 ∧ cap.toNat ≤ 99999999 ∧ count.toNat ≤ 250)) :
    config3Rule single cap count u = ⟨.badField, u.limitsBody, u⟩ := by
  simp only [config3Rule, Config.maxAmount, h, decide_false, firstFailure_cons_false]

theorem config3Rule_below {single : Tri} {cap : Quad} {count : Byte} {u : State}
    (h : single.toNat ≤ 9999999 ∧ cap.toNat ≤ 99999999 ∧ count.toNat ≤ 250)
    (hbelow : ¬ (u.offline.exposure ≤ cap.toNat ∧ u.offline.count ≤ count.toNat)) :
    config3Rule single cap count u = ⟨.limit, u.limitsBody, u⟩ := by
  simp only [config3Rule, Config.maxAmount, h, hbelow, and_self, decide_true, decide_false,
    firstFailure_cons_true, firstFailure_cons_false]

theorem config3Rule_served {single : Tri} {cap : Quad} {count : Byte} {u : State}
    (h : single.toNat ≤ 9999999 ∧ cap.toNat ≤ 99999999 ∧ count.toNat ≤ 250)
    (habove : u.offline.exposure ≤ cap.toNat ∧ u.offline.count ≤ count.toNat) :
    config3Rule single cap count u =
      ⟨.ok, be3 single.toNat ++ be4 cap.toNat ++ [count] ++ be1 u.modes.step.next.code,
        { u with
          offline := { u.offline with
            singleLimit := single.toNat, exposureCap := cap.toNat, countCap := count.toNat }
          modes := { u.modes with step := u.modes.step.next } }⟩ := by
  simp only [config3Rule, Config.maxAmount, h, habove, and_self, decide_true,
    firstFailure_cons_true, firstFailure_nil, State.accept, State.limitsBody,
    State.setModes_offline, State.setOffline_offline, be1_toNat]
  rfl

/-- Settles O12: each CONFIG request by its tests, and its values in the sequence and in READY. -/
theorem configRequestsSetValues : Obligations.ConfigRequestsSetValues := by
  unfold Obligations.ConfigRequestsSetValues
  refine ⟨fun x s u he => ⟨?_, ?_, ?_⟩, ?config1, ⟨?config2, ?config4⟩, ?config3⟩
  · exact fun tid pin hs h => exec_of_served rfl he hs (config1Rule_refused h)
  · exact fun tax timeout lease hs o h => exec_of_served rfl he hs (config2Rule_refused h)
  · exact fun window wakes hs h => exec_of_served rfl he hs (config4Rule_refused h)
  case config1 =>
    intro x tid pin s u he hs h1 h2 h3 vacant table modes
    have hrange := And.intro h1 (And.intro h2 h3)
    refine ⟨fun hstep => ?_, fun hstep hv => ?_, fun hstep hv => ?_⟩
    · refine exec_of_served rfl he hs ((config1Rule_served hrange fun h => absurd h hstep).trans ?_)
      rw [if_neg hstep]
      rfl
    · exact exec_of_served rfl he hs (config1Rule_busy hrange hstep
        (Bool.eq_false_iff.2 fun h => hv (u.vacant_iff.1 h)))
    · have hrule := config1Rule_served hrange fun _ => u.vacant_iff.2 hv
      rw [if_pos hstep] at hrule
      refine ⟨_, exec_of_served rfl he hs hrule, fun p => ?_, fun ha => ?_, ?_, ?_⟩
      · exact (congrArg (fun v => v.get p) u.closeAll_streams).trans (PerPort.get_all _ _)
      · exact State.closeAll_of_assemblyStreams ha
      · exact u.closeAll_link
      · exact u.configured1_closeAll tid pin
  case config2 =>
    intro x tax timeout lease s u he hs h1 h2 h3 h4 h5 hfree st
    have hst : u.modes.step.next = st := State.step_next_of_admission hs.2.1 rfl
    rw [← hst]
    exact exec_of_served rfl he hs (config2Rule_served ⟨h1, h2, h3, h4, h5⟩ hfree)
  case config4 =>
    intro x window wakes s u he hs h1 h2 h3 raised
    have hst : u.modes.step.next = .ready :=
      (State.step_next_of_admission hs.2.1 rfl).trans (ite_self _)
    have hrule := config4Rule_served (u := u) ⟨h1, h2, h3⟩
    rw [hst] at hrule
    exact exec_of_served rfl he hs hrule
  case config3 =>
    intro x single cap count s u he hs st inForce inRange above
    have hst : u.modes.step.next = st := State.step_next_of_admission hs.2.1 rfl
    rw [← hst]
    exact ⟨fun h => exec_of_served rfl he hs (config3Rule_out_of_range h),
      fun h hb => exec_of_served rfl he hs (config3Rule_below h hb),
      fun h ha => exec_of_served rfl he hs (config3Rule_served h ha)⟩

end Sys2Proof.Machine
end

section
/-!
SUPPORT. The Tender Ring between two commands (R83, R88, R89, R100, R147): its order, its CASH
descriptors, what it charges to the Uplink Queue, and how each change of the ring keeps them.
-/

namespace Sys2Proof.Machine

/-! ### Lists -/

theorem countP_set_of_getElem? {α : Type} {l : List α} {k : Nat} {a b : α} {p : α → Bool}
    (h : l[k]? = some a) :
    (l.set k b).countP p + (if p a then 1 else 0) = l.countP p + (if p b then 1 else 0) := by
  obtain ⟨hk, rfl⟩ := List.getElem?_eq_some_iff.1 h
  have hpos : p l[k] = true → 0 < l.countP p := fun hp =>
    List.countP_pos_iff.2 ⟨_, List.getElem_mem hk, hp⟩
  rw [List.countP_set hk]
  split
  · next hp =>
    have := hpos hp
    split <;> omega
  · split <;> omega

/-- The elements of a list in which one is replaced. -/
theorem getElem?_set_cases {α : Type} {l : List α} {k j : Nat} {b c : α}
    (h : (l.set k b)[j]? = some c) : (j = k ∧ c = b) ∨ (j ≠ k ∧ l[j]? = some c) := by
  rw [List.getElem?_set] at h
  by_cases hj : k = j
  · subst hj
    simp only [if_true] at h
    split at h
    · exact .inl ⟨rfl, (Option.some.inj h).symm⟩
    · cases h
  · rw [if_neg hj] at h
    exact .inr ⟨Ne.symm hj, h⟩

/-! ### The laws of the ring -/

/-- The ring's order (R83, R89, R100), by the places of the descriptors. -/
structure TenderRing.Ordered (r : TenderRing) : Prop where
  size : r.tenders.length ≤ Config.ringSize
  retire : r.retireIdx < Config.ringSize
  passed : r.passed ≤ r.tenders.length
  behind : ∀ k t, r.tenders[k]? = some t → k < r.passed → t.isPosted = false
  ahead : ∀ k t, r.tenders[k]? = some t → r.passed ≤ k → t.isTaken = false
  one : r.tenders.countP Tender.isTaken ≤ 1
  timer : r.timer.isSome = true ↔ 0 < r.tenders.countP Tender.isTaken

/-- A CASH descriptor is FINISHED (R88). -/
def TenderRing.CashFinished (r : TenderRing) : Prop :=
  ∀ t ∈ r.tenders, t.cls = .cash → t.isFinished = true

/-- What the ring charges to the Uplink Queue (R147). -/
def TenderRing.charges (r : TenderRing) : Nat := r.tenders.countP Tender.committed + r.late.length

theorem forall_mem_take_iff {α : Type} (l : List α) (n : Nat) (p : α → Prop) :
    (∀ a ∈ l.take n, p a) ↔ ∀ k a, l[k]? = some a → k < n → p a := by
  simp only [List.mem_iff_getElem?, List.getElem?_take]
  constructor
  · exact fun h k a hk hn => h a ⟨k, by rw [if_pos hn, hk]⟩
  · rintro h a ⟨k, hk⟩
    split at hk
    · next hn => exact h k a hk hn
    · cases hk

theorem forall_mem_drop_iff {α : Type} (l : List α) (n : Nat) (p : α → Prop) :
    (∀ a ∈ l.drop n, p a) ↔ ∀ k a, l[k]? = some a → n ≤ k → p a := by
  simp only [List.mem_iff_getElem?, List.getElem?_drop]
  constructor
  · intro h k a hk hn
    exact h a ⟨k - n, by rw [Nat.add_sub_cancel' hn, hk]⟩
  · rintro h a ⟨k, hk⟩
    exact h (n + k) a hk (Nat.le_add_right n k)

theorem State.ringOrdered_iff (s : State) : s.RingOrdered ↔ s.ring.Ordered := by
  have htimer : s.ring.timer.isSome = s.takenTender.isSome ↔
      (s.ring.timer.isSome = true ↔ 0 < s.ring.tenders.countP Tender.isTaken) := by
    rw [s.takenTender_isSome, Bool.eq_iff_iff, List.countP_pos_iff, List.any_eq_true]
  simp only [State.RingOrdered, forall_mem_take_iff, forall_mem_drop_iff,
    ← List.countP_eq_length_filter, htimer]
  exact ⟨fun ⟨h1, h2, h3, h4, h5, h6, h7⟩ => ⟨h1, h2, h3, h4, h5, h6, h7⟩,
    fun ⟨h1, h2, h3, h4, h5, h6, h7⟩ => ⟨h1, h2, h3, h4, h5, h6, h7⟩⟩

theorem State.commitments_eq (s : State) :
    s.commitments = s.uplink.records.length + s.ring.charges := by
  simp only [State.commitments, TenderRing.charges, List.countP_eq_length_filter, Nat.add_assoc]

/-! ### Changes of the ring -/

section
variable {r : TenderRing} {k : Nat} {t t' : Tender}

theorem Tender.not_posted_of_taken (h : t.isTaken = true) : t.isPosted = false := by
  unfold Tender.isTaken at h
  unfold Tender.isPosted
  split at h
  · next hp => simp [hp]
  · cases h

theorem Tender.not_taken_of_posted (h : t.isPosted = true) : t.isTaken = false := by
  rw [Tender.isPosted_iff] at h
  simp [Tender.isTaken, h]

/-- A CARD descriptor that is POSTED or TAKEN is charged. -/
theorem Tender.committed_of_open (hcash : t.cls = .cash → t.isFinished = true)
    (h : t.isFinished = false) : t.committed = true := by
  have hcard : t.cls = .card := by
    cases hc : t.cls with
    | card => rfl
    | cash => simp [hcash hc] at h
  unfold Tender.isFinished at h
  unfold Tender.committed
  cases hp : t.phase <;> simp [hp, hcard] at h ⊢

theorem Tender.not_finished_of_taken (h : t.isTaken = true) : t.isFinished = false := by
  unfold Tender.isTaken at h
  unfold Tender.isFinished
  split at h
  · next hp => simp [hp]
  · cases h

theorem Tender.not_finished_of_posted (h : t.isPosted = true) : t.isFinished = false := by
  rw [Tender.isPosted_iff] at h
  simp [Tender.isFinished, h]

theorem Tender.not_committed_of_finished (h : t.isFinished = true) : t.committed = false := by
  unfold Tender.isFinished at h
  unfold Tender.committed
  split at h
  · next hp => simp [hp]
  · cases h

/-- A descriptor is replaced by one that is POSTED, or TAKEN, only where it was. -/
theorem TenderRing.Ordered.set (h : r.Ordered) (hk : r.tenders[k]? = some t)
    (hposted : t'.isPosted = true → t.isPosted = true)
    (htaken : t'.isTaken = true → t.isTaken = true) {timer : Option Nat} (late : List LateEntry)
    (htimer : timer.isSome = true ↔ 0 < (r.tenders.set k t').countP Tender.isTaken) :
    TenderRing.Ordered { r with tenders := r.tenders.set k t', timer := timer, late := late } where
  size := by simpa using h.size
  retire := h.retire
  passed := by simpa using h.passed
  behind j u hj hlt := by
    obtain ⟨rfl, rfl⟩ | ⟨-, hu⟩ := getElem?_set_cases hj
    · exact Bool.eq_false_iff.2 fun hp =>
        Bool.eq_false_iff.1 (h.behind _ _ hk hlt) (hposted hp)
    · exact h.behind j u hu hlt
  ahead j u hj hle := by
    obtain ⟨rfl, rfl⟩ | ⟨-, hu⟩ := getElem?_set_cases hj
    · exact Bool.eq_false_iff.2 fun hp =>
        Bool.eq_false_iff.1 (h.ahead _ _ hk hle) (htaken hp)
    · exact h.ahead j u hu hle
  one := by
    have hcount := countP_set_of_getElem? (b := t') (p := Tender.isTaken) hk
    have hone := h.one
    change (r.tenders.set k t').countP Tender.isTaken ≤ 1
    by_cases hb : t'.isTaken = true
    · simp only [hb, htaken hb, if_true] at hcount
      omega
    · simp only [hb, Bool.false_eq_true, if_false] at hcount
      omega
  timer := htimer

/-- A descriptor is replaced by one that is TAKEN where it was, and the timer goes on. -/
theorem TenderRing.Ordered.replace (h : r.Ordered) (hk : r.tenders[k]? = some t)
    (hposted : t'.isPosted = true → t.isPosted = true) (htaken : t'.isTaken = t.isTaken)
    {timer : Option Nat} (htimer : timer.isSome = r.timer.isSome) :
    TenderRing.Ordered { r with tenders := r.tenders.set k t', timer := timer } := by
  refine h.set hk hposted (fun ht => htaken ▸ ht) r.late ?_
  have hcount := countP_set_of_getElem? (b := t') (p := Tender.isTaken) hk
  rw [htimer, h.timer]
  rw [htaken] at hcount
  split at hcount <;> omega

/-- The TAKEN descriptor finishes, and the timer stops. -/
theorem TenderRing.Ordered.finish (h : r.Ordered) (hk : r.tenders[k]? = some t)
    (ht : t.isTaken = true) (hposted : t'.isPosted = false) (htaken : t'.isTaken = false)
    (late : List LateEntry) :
    TenderRing.Ordered
      { r with tenders := r.tenders.set k t', timer := none, late := late } := by
  refine h.set hk (by simp [hposted]) (by simp [htaken]) late ?_
  have hcount := countP_set_of_getElem? (b := t') (p := Tender.isTaken) hk
  have hone := h.one
  simp only [ht, htaken, if_true, Bool.false_eq_true, if_false] at hcount
  simp only [Option.isSome_none, Bool.false_eq_true, false_iff]
  omega

/-- A POSTED descriptor at or ahead of the take index is TAKEN, and the index passes it (R89). -/
theorem TenderRing.Ordered.take (h : r.Ordered) (hk : r.tenders[k]? = some t)
    (hpassed : r.passed ≤ k)
    (hbetween : ∀ j u, r.tenders[j]? = some u → r.passed ≤ j → j < k → u.isPosted = false)
    (hnone : ∀ u ∈ r.tenders, u.isTaken = false) (hposted : t'.isPosted = false)
    (htaken : t'.isTaken = true) (full : Nat) :
    TenderRing.Ordered
      { r with tenders := r.tenders.set k t', passed := k + 1, timer := some full } := by
  have hlt := (List.getElem?_eq_some_iff.1 hk).1
  have hcount := countP_set_of_getElem? (b := t') (p := Tender.isTaken) hk
  have hzero : r.tenders.countP Tender.isTaken = 0 :=
    List.countP_eq_zero.2 fun u hu => by simp [hnone u hu]
  simp only [htaken, hnone t (List.mem_of_getElem? hk), if_true, Bool.false_eq_true, if_false,
    hzero] at hcount
  refine ⟨by simpa using h.size, h.retire, by simpa using hlt, ?_, ?_, ?_, ?_⟩
  · intro j u hj hjk
    obtain ⟨-, rfl⟩ | ⟨hne, hu⟩ := getElem?_set_cases hj
    · exact hposted
    · by_cases hb : j < r.passed
      · exact h.behind j u hu hb
      · exact hbetween j u hu (Nat.not_lt.1 hb) (by simp at hjk; omega)
  · intro j u hj hjk
    obtain ⟨rfl, -⟩ | ⟨-, hu⟩ := getElem?_set_cases hj
    · exact absurd hjk (by simp)
    · exact hnone u (List.mem_of_getElem? hu)
  · simp only
    omega
  · simp only [Option.isSome_some, true_iff]
    omega

/-- No descriptor is left to take (R89). -/
theorem TenderRing.Ordered.passAll (h : r.Ordered)
    (hnone : ∀ j u, r.tenders[j]? = some u → r.passed ≤ j → u.isPosted = false) :
    TenderRing.Ordered { r with passed := r.tenders.length } where
  size := h.size
  retire := h.retire
  passed := Nat.le_refl _
  behind j u hj _ := by
    by_cases hb : j < r.passed
    · exact h.behind j u hj hb
    · exact hnone j u hj (Nat.not_lt.1 hb)
  ahead j u hj hle := by
    have := (List.getElem?_eq_some_iff.1 hj).1
    exact absurd hle (Nat.not_le.2 this)
  one := h.one
  timer := h.timer

/-- A descriptor that is not TAKEN joins the ring (R82, R83). -/
theorem TenderRing.Ordered.push (h : r.Ordered) (hroom : r.tenders.length < Config.ringSize)
    (htaken : t.isTaken = false) (next : Nat) :
    TenderRing.Ordered { r with tenders := r.tenders ++ [t], nextSerial := next } where
  size := by simpa using hroom
  retire := h.retire
  passed := by
    have := h.passed
    simp only [List.length_append, List.length_singleton]
    omega
  behind j u hj hlt := by
    rw [List.getElem?_append_left (Nat.lt_of_lt_of_le hlt h.passed)] at hj
    exact h.behind j u hj hlt
  ahead j u hj hle := by
    by_cases hb : j < r.tenders.length
    · rw [List.getElem?_append_left hb] at hj
      exact h.ahead j u hj hle
    · rw [List.getElem?_append_right (Nat.not_lt.1 hb)] at hj
      obtain rfl : u = t := by simpa using (List.mem_of_getElem? hj)
      exact htaken
  one := by simpa [List.countP_append, htaken] using h.one
  timer := by simpa [List.countP_append, htaken] using h.timer

/-- A FINISHED descriptor leaves the head of the ring (R98). -/
theorem TenderRing.Ordered.reap {rest : List Tender} (h : r.Ordered)
    (htenders : r.tenders = t :: rest) (htaken : t.isTaken = false) :
    TenderRing.Ordered { r with
      tenders := rest, retireIdx := (r.retireIdx + 1) % Config.ringSize
      passed := r.passed - 1 } where
  size := by
    have := h.size
    simp only [htenders, List.length_cons] at this
    exact Nat.le_of_succ_le this
  retire := Nat.mod_lt _ (by decide)
  passed := by
    have := h.passed
    simp only [htenders, List.length_cons] at this
    exact Nat.sub_le_of_le_add this
  behind j u hj hlt := h.behind (j + 1) u (by simpa [htenders] using hj)
    (Nat.add_lt_of_lt_sub hlt)
  ahead j u hj hle := h.ahead (j + 1) u (by simpa [htenders] using hj)
    (Nat.sub_le_iff_le_add.1 hle)
  one := by simpa [htenders, htaken] using h.one
  timer := by simpa [htenders, htaken] using h.timer

/-- Every descriptor changes, none becomes POSTED, and the TAKEN ones are those that were. -/
theorem TenderRing.Ordered.map (h : r.Ordered) (f : Tender → Tender)
    (hposted : ∀ t, (f t).isPosted = true → t.isPosted = true)
    (htaken : ∀ t, (f t).isTaken = t.isTaken) :
    TenderRing.Ordered { r with tenders := r.tenders.map f } := by
  have hcount : (r.tenders.map f).countP Tender.isTaken = r.tenders.countP Tender.isTaken := by
    rw [List.countP_map]
    exact congrArg (fun p => r.tenders.countP p) (funext htaken)
  refine ⟨by simpa using h.size, h.retire, by simpa using h.passed, ?_, ?_,
    hcount ▸ h.one, hcount ▸ h.timer⟩
  · intro j u hj hlt
    rw [List.getElem?_map, Option.map_eq_some_iff] at hj
    obtain ⟨v, hv, rfl⟩ := hj
    exact Bool.eq_false_iff.2 fun hp =>
      Bool.eq_false_iff.1 (h.behind j v hv hlt) (hposted v hp)
  · intro j u hj hle
    rw [List.getElem?_map, Option.map_eq_some_iff] at hj
    obtain ⟨v, hv, rfl⟩ := hj
    rw [htaken]
    exact h.ahead j v hv hle

/-! ### CASH descriptors and charges -/

theorem TenderRing.CashFinished.set (h : r.CashFinished) (hk : r.tenders[k]? = some t)
    (hcls : t'.cls = t.cls) (hfinished : t.isFinished = true → t'.isFinished = true)
    {r' : TenderRing} (hr : r'.tenders = r.tenders.set k t') : r'.CashFinished := by
  intro u hu hcash
  rw [hr] at hu
  obtain hu | rfl := List.mem_or_eq_of_mem_set hu
  · exact h u hu hcash
  · exact hfinished (h t (List.mem_of_getElem? hk) (hcls ▸ hcash))

/-- A descriptor that is charged is replaced by one that is not. -/
theorem TenderRing.charges_set (hk : r.tenders[k]? = some t) {r' : TenderRing}
    (hr : r'.tenders = r.tenders.set k t') :
    r'.charges + (if t.committed then 1 else 0) + r.late.length =
      r.charges + (if t'.committed then 1 else 0) + r'.late.length := by
  have hcount := countP_set_of_getElem? (b := t') (p := Tender.committed) hk
  unfold TenderRing.charges
  rw [hr]
  omega

end

end Sys2Proof.Machine
end

section
/-!
SUPPORT. What the shared operations keep of the simpler laws (R1, R2, R17, R83, R110, R126, R146, R147,
R176): a relation between the state before and the state after, one lemma for each operation, and the
relation of a whole from those of its parts.
-/

namespace Sys2Proof.Machine

/-! ### SENT records at the head of a queue -/

/-- No SENT record stands behind a QUEUED one (R146). -/
def SentHead (records : List UplinkRecord) : Prop :=
  records.Pairwise fun a b => b.sent = true → a.sent = true

theorem sentHead_iff (records : List UplinkRecord) :
    (∀ r ∈ records.dropWhile UplinkRecord.sent, r.sent = false) ↔ SentHead records := by
  induction records with
  | nil => simp [SentHead]
  | cons r rest ih =>
    cases hr : r.sent with
    | true => simpa [SentHead, hr] using ih
    | false =>
      have hqueued (q : UplinkRecord) : (q.sent = true → False) ↔ q.sent = false := by simp
      simp only [SentHead, List.pairwise_cons, List.dropWhile_cons, hr, Bool.false_eq_true,
        if_false, List.forall_mem_cons, hqueued, true_and]
      refine ⟨fun h => ⟨h, ?_⟩, fun h => h.1⟩
      exact List.pairwise_of_forall_mem_list fun a _ b hb hs => by simp [h b hb] at hs

theorem State.sentFirst_iff (s : State) :
    s.SentFirst ↔ (1 ≤ s.uplink.window ∧ s.uplink.window ≤ 8) ∧
      s.uplink.records.countP UplinkRecord.sent ≤ 8 ∧ SentHead s.uplink.records := by
  rw [State.SentFirst, sentHead_iff, State.sentCount, List.countP_eq_length_filter]

theorem SentHead.append {records : List UplinkRecord} (h : SentHead records) {r : UplinkRecord}
    (hr : r.sent = false) : SentHead (records ++ [r]) := by
  refine List.pairwise_append.2 ⟨h, List.pairwise_singleton _ _, fun a _ b hb => ?_⟩
  rw [List.mem_singleton.1 hb, hr]
  exact fun hf => absurd hf Bool.false_ne_true

theorem SentHead.of_queued {records : List UplinkRecord} (h : ∀ r ∈ records, r.sent = false) :
    SentHead records :=
  List.pairwise_of_forall_mem_list fun a _ b hb hs => by simp [h b hb] at hs

/-! ### Ring, queue and offline figures -/

/-- The laws of ring, queue and offline figures go over from one state to another. -/
structure FiguresKept (s t : State) : Prop where
  ring : s.ring.Ordered → t.ring.Ordered
  sent : s.SentFirst → t.SentFirst
  bound : s.CommitmentsBounded → t.CommitmentsBounded
  expose : s.ExposureAgrees → t.ExposureAgrees

theorem State.commitmentsBounded_iff (s : State) :
    s.CommitmentsBounded ↔
      s.uplink.records.length + s.ring.charges ≤ 48 ∧ s.ring.CashFinished := by
  rw [State.CommitmentsBounded, State.commitments_eq]
  rfl

theorem State.sentFirst_congr {s t : State} (hr : t.uplink.records = s.uplink.records)
    (hw : t.uplink.window = s.uplink.window) (h : s.SentFirst) : t.SentFirst := by
  rw [State.sentFirst_iff] at h ⊢
  rwa [hr, hw]

theorem State.exposureAgrees_congr {s t : State} (hr : t.uplink.records = s.uplink.records)
    (ho : t.offline = s.offline) (h : s.ExposureAgrees) : t.ExposureAgrees := by
  simp only [State.ExposureAgrees, State.offlineAmounts] at h ⊢
  rwa [hr, ho]

theorem State.commitmentsBounded_congr {s t : State} (hr : t.uplink.records = s.uplink.records)
    (hring : t.ring = s.ring) (h : s.CommitmentsBounded) : t.CommitmentsBounded := by
  rw [State.commitmentsBounded_iff] at h ⊢
  rwa [hr, hring]

/-- Ring, queue and offline figures are the same. -/
theorem FiguresKept.of_eq {s t : State} (hring : t.ring = s.ring) (hu : t.uplink = s.uplink)
    (ho : t.offline = s.offline) : FiguresKept s t where
  ring := by rw [hring]; exact id
  sent := State.sentFirst_congr (by rw [hu]) (by rw [hu])
  bound := State.commitmentsBounded_congr (by rw [hu]) hring
  expose := State.exposureAgrees_congr (by rw [hu]) ho

/-- The ring changes, and charges no more than before. -/
theorem FiguresKept.of_ring {s t : State} (hu : t.uplink = s.uplink) (ho : t.offline = s.offline)
    (ring : s.ring.Ordered → t.ring.Ordered) (cash : s.ring.CashFinished → t.ring.CashFinished)
    (charges : s.ring.CashFinished → t.ring.charges ≤ s.ring.charges) : FiguresKept s t where
  ring := ring
  sent := State.sentFirst_congr (by rw [hu]) (by rw [hu])
  bound h := by
    rw [State.commitmentsBounded_iff] at h ⊢
    have := charges h.2
    exact ⟨by rw [hu]; omega, cash h.2⟩
  expose := State.exposureAgrees_congr (by rw [hu]) ho

theorem FiguresKept.trans {s t w : State} (h : FiguresKept s t) (k : FiguresKept t w) :
    FiguresKept s w :=
  ⟨fun hs => k.ring (h.ring hs), fun hs => k.sent (h.sent hs), fun hs => k.bound (h.bound hs),
    fun hs => k.expose (h.expose hs)⟩

/-! ### The table -/

/-- Owner and scope are kept, or are newly those of a terminal's check (R2). -/
def Check.OwnerKept (terminal : Option Nat) (c d : Check) : Prop :=
  (d.scope = c.scope ∧ d.owner = c.owner) ∨ (d.scope = .owned ↔ terminal = some d.owner)

theorem Check.OwnerKept.trans {terminal : Option Nat} {c d e : Check}
    (h : c.OwnerKept terminal d) (k : d.OwnerKept terminal e) : c.OwnerKept terminal e := by
  obtain ⟨hscope, howner⟩ | hnew := k
  · unfold Check.OwnerKept
    rwa [hscope, howner]
  · exact .inr hnew

/-- Every check stood in its entry under its key, with its owner or a new one's scope. -/
structure TableKept (terminal : Option Nat) (s t : State) : Prop where
  entries : ∀ i d, t.check i = some d →
    ∃ c, s.check i = some c ∧ d.key = c.key ∧ c.OwnerKept terminal d
  cursor : s.CursorInRange → t.CursorInRange

theorem TableKept.of_eq {terminal : Option Nat} {s t : State} (h : t.table = s.table) :
    TableKept terminal s t where
  entries i d hd := ⟨d, by rwa [State.check, ← h], rfl, .inl ⟨rfl, rfl⟩⟩
  cursor hs := by
    rw [State.CursorInRange, h]
    exact hs

theorem TableKept.trans {terminal : Option Nat} {s t w : State} (h : TableKept terminal s t)
    (k : TableKept terminal t w) : TableKept terminal s w where
  entries i e he := by
    obtain ⟨d, hd, hkey, howner⟩ := k.entries i e he
    obtain ⟨c, hc, hkey', howner'⟩ := h.entries i d hd
    exact ⟨c, hc, hkey.trans hkey', howner'.trans howner⟩
  cursor hs := k.cursor (h.cursor hs)

/-- A check is changed that keeps its key, and its owner or takes a new one's scope. -/
theorem TableKept.put {terminal : Option Nat} (s : State) {i : Fin 64} {c d : Check}
    (hc : s.check i = some c) (hkey : d.key = c.key) (howner : c.OwnerKept terminal d) :
    TableKept terminal s (s.putCheck i (some d)) where
  entries j e he := by
    rw [State.check_putCheck] at he
    split at he
    · next hj =>
      cases he
      exact ⟨c, hj ▸ hc, hkey, howner⟩
    · exact ⟨e, he, rfl, .inl ⟨rfl, rfl⟩⟩
  cursor := id

theorem TableKept.mod {terminal : Option Nat} (s : State) (i : Fin 64) {f : Check → Check}
    (hkey : ∀ c, (f c).key = c.key) (howner : ∀ c, Check.OwnerKept terminal c (f c)) :
    TableKept terminal s (s.modCheck i f) := by
  unfold State.modCheck
  split
  · next c hc => exact .put s hc (hkey c) (howner c)
  · exact .of_eq rfl

theorem TableKept.free {terminal : Option Nat} (s : State) (i : Fin 64) :
    TableKept terminal s (s.putCheck i none) where
  entries j e he := by
    rw [State.check_putCheck] at he
    split at he
    · cases he
    · exact ⟨e, he, rfl, .inl ⟨rfl, rfl⟩⟩
  cursor := id

/-! ### Masks -/

theorem State.masksInRange_iff (s : State) :
    s.MasksInRange ↔ ∀ p, maskOk p (s.attn.flags.get p) = true ∧
      maskOk p (s.attn.enables.get p) = true := by
  constructor
  · rintro ⟨hconsole, htender, hlink⟩ p
    cases p
    · exact hconsole
    · exact htender
    · exact hlink
  · exact fun h => ⟨h .console, h .tender, h .link⟩

theorem maskOk_bit (p : Port) (c : Cause) : maskOk p (c.bit p) = true := by
  cases p <;> cases c <;> decide

theorem maskOk_or {p : Port} {m n : Half} (hm : maskOk p m = true) (hn : maskOk p n = true) :
    maskOk p (m ||| n) = true := by
  simp only [maskOk, decide_eq_true_eq, BitVec.toNat_or] at *
  exact Nat.or_lt_two_pow hm hn

theorem maskOk_and {p : Port} {m : Half} (hm : maskOk p m = true) (n : Half) :
    maskOk p (m &&& n) = true := by
  simp only [maskOk, decide_eq_true_eq, BitVec.toNat_and] at *
  exact Nat.lt_of_le_of_lt Nat.and_le_left hm

theorem State.masksInRange_raise {s : State} (h : s.MasksInRange) (p : Port) (c : Cause) :
    (s.raise p c).MasksInRange := by
  rw [State.masksInRange_iff] at h ⊢
  refine fun q => ⟨?_, (h q).2⟩
  rw [State.raise_flags_get]
  split
  · next hq =>
    subst hq
    exact maskOk_or (h q).1 (maskOk_bit q c)
  · exact (h q).1

theorem State.masksInRange_lower {s : State} (h : s.MasksInRange) (p : Port) (m : Half) :
    (s.lower p m).MasksInRange := by
  rw [State.masksInRange_iff] at h ⊢
  refine fun q => ⟨?_, (h q).2⟩
  simp only [State.lower, State.setAttn_attn, PerPort.get_set]
  split
  · next hq =>
    subst hq
    exact maskOk_and (h q).1 _
  · exact (h q).1

theorem State.masksInRange_congr {s t : State} (h : t.attn = s.attn) (hs : s.MasksInRange) :
    t.MasksInRange := by
  rw [State.MasksInRange, h]
  exact hs

/-! ### The relation -/

/-- Of the laws of table and masks: what one state keeps of another's. -/
structure Tame (s t : State) : Prop where
  modes : t.modes = s.modes
  table : TableKept s.modes.terminalId s t
  masks : s.MasksInRange → t.MasksInRange

/-- The same, and the laws of ring, queue and offline figures. -/
structure Mild (s t : State) : Prop extends Tame s t where
  figures : FiguresKept s t

/-- The same, and no IMAGE stream begins or ends. -/
structure Keeps (s t : State) : Prop extends Mild s t where
  images : ∀ p, (t.streams.get p).carriesImage = (s.streams.get p).carriesImage

theorem Tame.trans {s t w : State} (h : Tame s t) (k : Tame t w) : Tame s w where
  modes := k.modes.trans h.modes
  table := h.table.trans (h.modes ▸ k.table)
  masks hs := k.masks (h.masks hs)

theorem Mild.trans {s t w : State} (h : Mild s t) (k : Mild t w) : Mild s w where
  toTame := h.toTame.trans k.toTame
  figures := h.figures.trans k.figures

theorem Keeps.trans {s t w : State} (h : Keeps s t) (k : Keeps t w) : Keeps s w where
  toMild := h.toMild.trans k.toMild
  images p := (k.images p).trans (h.images p)

/-- Nothing that the laws speak of changes. -/
theorem Keeps.of_eq {s t : State} (hmodes : t.modes = s.modes) (htable : t.table = s.table)
    (hring : t.ring = s.ring) (hu : t.uplink = s.uplink) (ho : t.offline = s.offline)
    (hattn : t.attn = s.attn) (hstreams : t.streams = s.streams) : Keeps s t where
  modes := hmodes
  table := .of_eq htable
  figures := .of_eq hring hu ho
  masks := State.masksInRange_congr hattn
  images p := by rw [hstreams]

theorem Keeps.refl (s : State) : Keeps s s := .of_eq rfl rfl rfl rfl rfl rfl rfl

theorem Keeps.foldl {α : Type} (f : State → α → State) (h : ∀ s a, Keeps s (f s a)) (s : State)
    (l : List α) : Keeps s (l.foldl f s) :=
  foldl_preserves f (Keeps s) (fun b a hb => hb.trans (h b a)) s l (.refl s)

/-- The table alone changes. -/
theorem Keeps.of_table {s t : State} (htable : TableKept s.modes.terminalId s t)
    (hsame : SameBut [.table] s t) : Keeps s t := by
  simp only [SameBut, List.mem_singleton, reduceCtorEq, not_false_iff, forall_const,
    not_true, false_imp_iff, true_and] at hsame
  obtain ⟨-, -, hattn, -, -, -, hring, ho, -, -, hu, hstreams, hmodes⟩ := hsame
  exact ⟨⟨⟨hmodes, htable, State.masksInRange_congr hattn⟩, .of_eq hring hu ho⟩,
    fun p => by rw [hstreams]⟩

/-- Key, scope and owner are the same. -/
def Check.SameFace (c d : Check) : Prop := d.key = c.key ∧ d.scope = c.scope ∧ d.owner = c.owner

theorem State.keeps_mod (s : State) (i : Fin 64) {f : Check → Check}
    (h : ∀ c, Check.SameFace c (f c)) :
    Keeps s (s.modCheck i f) :=
  .of_table (.mod s i (fun c => (h c).1) fun c => .inl (h c).2) (by simp [SameBut])

theorem State.keeps_put (s : State) {i : Fin 64} {c d : Check} (hc : s.check i = some c)
    (h : c.SameFace d) : Keeps s (s.putCheck i (some d)) :=
  .of_table (.put s hc h.1 (.inl h.2)) (by simp [SameBut])

theorem State.keeps_free (s : State) (i : Fin 64) : Keeps s (s.putCheck i none) :=
  .of_table (.free s i) (by simp [SameBut])

theorem State.keeps_raise (s : State) (p : Port) (c : Cause) : Keeps s (s.raise p c) where
  modes := by simp
  table := .of_eq (by simp)
  figures := .of_eq (by simp) (by simp) (by simp)
  masks h := State.masksInRange_raise h p c
  images _ := by simp

theorem State.keeps_freeItems (s : State) (items : List Item) : Keeps s (s.freeItems items) := by
  apply Keeps.of_eq <;> simp

theorem State.keeps_setCount (s : State) (p : Port) (n : Nat) : Keeps s (s.setCount p n) := by
  apply Keeps.of_eq <;> simp

theorem State.keeps_setWait (s : State) (p : Port) (i : Option (Fin 64)) :
    Keeps s (s.setWait p i) := by
  apply Keeps.of_eq <;> simp

/-! ### Amounts of a check -/

theorem Check.sameFace_afterAmounts (c : Check) : c.SameFace c.afterAmounts := by
  unfold Check.afterAmounts
  split <;> exact ⟨rfl, rfl, rfl⟩

/-- What no change of a list of tenders' reservations changes. -/
theorem foldl_unreserve {α : Type} (g : Check → α)
    (h : ∀ c share base, g (Check.unreserve c share base) = g c) (c : Check) (l : List Tender) :
    g (l.foldl (fun c t => c.unreserve t.share t.base) c) = g c :=
  foldl_keeps _ g (fun c t => h c t.share t.base) c l

/-! ### Streams -/

/-- Aborting a stream of another target aborts no IMAGE stream. -/
theorem Channel.carriesImage_abortedOn (ch : Channel) {t : StreamTarget} (ht : t ≠ .image)
    (i : Fin 64) (r : AbortReason) :
    (ch.abortedOn t i r).carriesImage = ch.carriesImage := by
  unfold Channel.abortedOn
  split
  · next st hst =>
    obtain ⟨hrunning, hon⟩ := Option.filter_eq_some_iff.1 hst
    have htarget : st.target ≠ .image := by
      rw [decide_eq_true_iff] at hon
      exact hon.1 ▸ ht
    have hcarries : ch.carriesImage = false := by simp [Channel.carriesImage, hrunning, htarget]
    exact hcarries.symm
  · rfl

theorem State.keeps_abortStream (s : State) (p : Port) {t : StreamTarget} (ht : t ≠ .image)
    (i : Fin 64) (r : AbortReason) : Keeps s (s.abortStream p t i r) where
  modes := by simp
  table := .of_eq (by simp)
  figures := .of_eq (by simp) (by simp) (by simp)
  masks h := by
    unfold State.abortStream
    (repeat' split)
    · exact State.masksInRange_raise (State.masksInRange_congr (by simp) h) _ _
    · exact h
    · exact h
  images q := by
    rw [State.abortStream_streams_get]
    split
    · next hq =>
      subst hq
      exact Channel.carriesImage_abortedOn _ ht i r
    · rfl

theorem State.keeps_abortReads (s : State) (i : Fin 64) (r : AbortReason) :
    Keeps s (s.abortReads i r) :=
  (s.keeps_abortStream .console (by simp) i r).trans
    ((State.keeps_abortStream _ .tender (by simp) i r).trans
      (State.keeps_abortStream _ .link (by simp) i r))

theorem State.keeps_abortWrite (s : State) (p : Port) (i : Fin 64) (r : AbortReason) :
    Keeps s (s.abortWrite p i r) :=
  s.keeps_abortStream p (by simp) i r

/-! ### Images -/

theorem State.keeps_discardImage (s : State) (i : Fin 64) : Keeps s (s.discardImage i) := by
  unfold State.discardImage
  (repeat' split)
  · exact (s.keeps_freeItems _).trans
      (State.keeps_mod _ i fun _ => by exact ⟨rfl, rfl, rfl⟩)
  · exact .refl s
  · exact .refl s

theorem State.keeps_discardOlder (s : State) (i : Fin 64) (server : Nat) :
    Keeps s (s.discardOlder i server) := by
  unfold State.discardOlder
  (repeat' split)
  · exact s.keeps_discardImage i
  all_goals exact .refl s

/-! ### Holds -/

theorem State.keeps_restartLease (s : State) (i : Fin 64) : Keeps s (s.restartLease i) :=
  s.keeps_mod i fun _ => by exact ⟨rfl, rfl, rfl⟩

theorem State.keeps_restartIfHolder (s : State) (p : Port) (i : Fin 64) :
    Keeps s (s.restartIfHolder p i) := by
  unfold State.restartIfHolder
  split
  · exact s.keeps_restartLease i
  · exact .refl s

theorem State.keeps_grantHold (s : State) (p : Port) (i : Fin 64) : Keeps s (s.grantHold p i) :=
  (s.keeps_mod i fun _ => by exact ⟨rfl, rfl, rfl⟩).trans (State.keeps_setCount _ _ _)

theorem State.keeps_dropHold (s : State) (i : Fin 64) : Keeps s (s.dropHold i) := by
  unfold State.dropHold
  split
  · exact (s.keeps_mod i fun _ => by exact ⟨rfl, rfl, rfl⟩).trans
      (State.keeps_setCount _ _ _)
  · exact .refl s

theorem State.keeps_endWait (s : State) (p : Port) : Keeps s (s.endWait p) :=
  (s.keeps_setWait p none).trans (State.keeps_raise _ _ _)

theorem State.keeps_dismissWaiters (s : State) (i : Fin 64) : Keeps s (s.dismissWaiters i) := by
  unfold State.dismissWaiters
  split
  · exact (Keeps.foldl _ State.keeps_endWait s _).trans
      (State.keeps_mod _ i fun _ => by exact ⟨rfl, rfl, rfl⟩)
  · exact .refl s

theorem State.keeps_leaveList (s : State) (p : Port) (i : Fin 64) : Keeps s (s.leaveList p i) :=
  (s.keeps_mod i fun _ => by exact ⟨rfl, rfl, rfl⟩).trans (State.keeps_setWait _ _ _)

theorem State.keeps_grantWaiters (i : Fin 64) (l : List Port) (s : State) :
    Keeps s (State.grantWaiters i l s) := by
  induction l generalizing s with
  | nil => exact s.keeps_mod i fun _ => by exact ⟨rfl, rfl, rfl⟩
  | cons p rest ih =>
    unfold State.grantWaiters
    split
    · exact (s.keeps_grantHold p i).trans
        ((State.keeps_mod _ i fun _ => by exact ⟨rfl, rfl, rfl⟩).trans
          ((State.keeps_setWait _ _ _).trans (State.keeps_raise _ _ _)))
    · exact (s.keeps_endWait p).trans (ih _)

/-! ### The queue -/

/-- A QUEUED record that is no offline SETTLEMENT joins the queue, where U allows one more. -/
theorem FiguresKept.of_append {s t : State} {r : UplinkRecord} (hring : t.ring = s.ring)
    (ho : t.offline = s.offline) (hu : t.uplink.records = s.uplink.records ++ [r])
    (hw : t.uplink.window = s.uplink.window) (hr : r.sent = false)
    (hbody : r.offlineAmount = none) (hroom : s.commitments + 1 ≤ 48) : FiguresKept s t where
  ring := by rw [hring]; exact id
  sent h := by
    rw [State.sentFirst_iff] at h ⊢
    rw [hu, hw]
    exact ⟨h.1, by simpa [List.countP_append, hr] using h.2.1, h.2.2.append hr⟩
  bound h := by
    rw [State.commitmentsBounded_iff] at h ⊢
    rw [State.commitments_eq] at hroom
    rw [hu, hring, List.length_append, List.length_singleton]
    exact ⟨by omega, h.2⟩
  expose h := by
    simp only [State.ExposureAgrees, State.offlineAmounts] at h ⊢
    simpa [hu, ho, hbody] using h

theorem State.appendRecord_none_table (s : State) (key : Key) (body : RecordBody) :
    (s.appendRecord none key body).table = s.table := by
  unfold State.appendRecord
  dsimp only
  split <;> simp

/-- An append of a record changes of the table a pending uplink count. -/
theorem TableKept.append {terminal : Option Nat} (s : State) (index : Option (Fin 64)) (key : Key)
    (body : RecordBody) : TableKept terminal s (s.appendRecord index key body) := by
  cases index with
  | none => exact .of_eq (s.appendRecord_none_table key body)
  | some i =>
    refine TableKept.trans ?_ (.of_eq (s.appendRecord_table i key body))
    exact .mod s i (fun _ => rfl) fun _ => .inl ⟨rfl, rfl⟩

theorem State.masksInRange_appendRecord {s : State} (h : s.MasksInRange)
    (index : Option (Fin 64)) (key : Key) (body : RecordBody) :
    (s.appendRecord index key body).MasksInRange := by
  have hattn := s.appendRecord_attn index key body
  by_cases hup : s.floor.link = .up
  · refine State.masksInRange_congr (hattn.trans ?_) (State.masksInRange_raise h .link .uplinkReady)
    simp only [hup, decide_true, withFlag, if_true]
    rfl
  · refine State.masksInRange_congr (hattn.trans ?_) h
    simp only [hup, decide_false, withFlag, Bool.false_eq_true, if_false]
    rfl

theorem State.tame_appendRecord (s : State) (index : Option (Fin 64)) (key : Key)
    (body : RecordBody) : Tame s (s.appendRecord index key body) where
  modes := by simp
  table := .append s index key body
  masks h := State.masksInRange_appendRecord h index key body

theorem State.keeps_appendRecord (s : State) (index : Option (Fin 64)) (key : Key)
    {body : RecordBody} (hroom : s.commitments + 1 ≤ 48)
    (hbody : ∀ seq, UplinkRecord.offlineAmount ⟨seq, false, index, key, body⟩ = none) :
    Keeps s (s.appendRecord index key body) where
  toTame := s.tame_appendRecord index key body
  figures := by
    have hu := s.appendRecord_uplink index key body
    exact .of_append (by simp) (by simp) (by rw [hu]) (by rw [hu]) rfl (hbody _) hroom
  images p := by simp

theorem State.keeps_scheduleAt (s : State) (i : Fin 64) : Keeps s (s.scheduleAt i) := by
  unfold State.scheduleAt
  (repeat' split)
  · next c _ h =>
    exact (s.keeps_appendRecord _ _ h.1 fun _ => rfl).trans
      (State.keeps_mod _ i fun _ => by exact ⟨rfl, rfl, rfl⟩)
  · exact .refl s
  · exact .refl s

theorem State.keeps_scheduleDeltas (s : State) : Keeps s s.scheduleDeltas :=
  Keeps.foldl _ State.keeps_scheduleAt s allIdx

/-! ### The end of an entry, and CONFLICT -/

theorem State.keeps_freeEntry (s : State) (i : Fin 64) : Keeps s (s.freeEntry i) := by
  unfold State.freeEntry
  split
  · next c _ =>
    have hheld : Keeps s (match c.holder with
        | some p => ((s.dropHold i).raise p .leaseLost).abortWrite p i .gone
        | none => s) := by
      split
      · exact (s.keeps_dropHold i).trans
          ((State.keeps_raise _ _ _).trans (State.keeps_abortWrite _ _ _ _))
      · exact .refl s
    exact hheld.trans ((State.keeps_dismissWaiters _ _).trans ((State.keeps_freeItems _ _).trans
      ((State.keeps_discardImage _ _).trans ((State.keeps_abortReads _ _ _).trans
        (State.keeps_free _ _)))))
  · exact .refl s

theorem State.keeps_evict (s : State) {i : Fin 64} (h : s.evictable i = true) :
    Keeps s (s.evict i) := by
  unfold State.evict
  split
  · next c hc =>
    have hpin : s.table.pinFloor ≤ i.val := by
      simp only [State.evictable, hc, Bool.and_eq_true, decide_eq_true_eq] at h
      exact h.1.1.1.1
    have hfreed := (s.keeps_freeItems c.items).trans ((State.keeps_abortReads _ i .gone).trans
      ((State.keeps_free _ i).trans (State.keeps_raise _ .console .eviction)))
    refine hfreed.trans (.of_table ⟨fun j d hd => ⟨d, hd, rfl, .inl ⟨rfl, rfl⟩⟩, fun hs => ?_⟩
      (by simp [SameBut]))
    obtain ⟨h32, -, h63⟩ := hs
    simp only [State.CursorInRange, State.setTable_table] at h32 h63 ⊢
    have hsame : ((((s.freeItems c.items).abortReads i .gone).putCheck i none).raise .console
        .eviction).table.pinFloor = s.table.pinFloor := by
      simp [State.putCheck]
    have := i.isLt
    refine ⟨h32, ?_, ?_⟩ <;> split <;> omega
  · exact .refl s

theorem State.keeps_allocate {s u : State} {i : Fin 64} (h : s.allocate = some (i, u)) :
    Keeps s u := by
  unfold State.allocate at h
  split at h
  · cases h
    exact .refl s
  · split at h
    · next hfind =>
      cases h
      exact s.keeps_evict (List.find?_some hfind)
    · cases h

/-- A POSTED descriptor that names an entry is cancelled by the floor. -/
def Tender.cancelledOn (i : Fin 64) (t : Tender) : Tender :=
  if t.postedOn i then { t with phase := .finished .cancelledByFloor } else t

/-- The ring with the POSTED descriptors cancelled that name an entry. -/
def TenderRing.cancelledOn (i : Fin 64) (r : TenderRing) : TenderRing :=
  { r with tenders := r.tenders.map (Tender.cancelledOn i) }

theorem Tender.cancelledOn_cases (i : Fin 64) (t : Tender) :
    t.cancelledOn i = t ∨ (t.isPosted = true ∧
      t.cancelledOn i = { t with phase := .finished .cancelledByFloor }) := by
  unfold Tender.cancelledOn
  split
  · next h =>
    simp only [Tender.postedOn, decide_eq_true_eq] at h
    exact .inr ⟨t.isPosted_iff.2 h.1, rfl⟩
  · exact .inl rfl

theorem State.cancelPosted_ring (s : State) (i : Fin 64) :
    (s.cancelPosted i).ring = s.ring.cancelledOn i := by
  simp only [State.cancelPosted, State.modCheck_frame, State.setRing_ring]
  rfl

theorem Tender.committed_eq (t : Tender) :
    t.committed = (decide (t.cls = .card) && !t.isFinished) := by
  unfold Tender.committed Tender.isFinished
  cases t.cls <;> cases t.phase <;> rfl

theorem TenderRing.CashFinished.cancelledOn {r : TenderRing} (h : r.CashFinished) (i : Fin 64) :
    (r.cancelledOn i).CashFinished := by
  intro u hu hcash
  obtain ⟨t, ht, rfl⟩ := List.mem_map.1 hu
  obtain h' | ⟨-, h'⟩ := t.cancelledOn_cases i
  · rw [h'] at hcash ⊢
    exact h t ht hcash
  · rw [h']
    rfl

theorem TenderRing.charges_cancelledOn (r : TenderRing) (i : Fin 64) :
    (r.cancelledOn i).charges ≤ r.charges := by
  simp only [TenderRing.cancelledOn, TenderRing.charges, List.countP_map]
  refine Nat.add_le_add_right (List.countP_mono_left fun t _ ht => ?_) _
  obtain h | ⟨-, h⟩ := t.cancelledOn_cases i
  · simpa [h] using ht
  · simp [h, Tender.committed_eq, Tender.isFinished] at ht

theorem FiguresKept.cancelPosted (s : State) (i : Fin 64) : FiguresKept s (s.cancelPosted i) := by
  refine .of_ring (by simp) (by simp) (fun h => ?_) (fun h => ?_) (fun _ => ?_) <;>
    rw [State.cancelPosted_ring]
  · refine h.map _ (fun t ht => ?_) (fun t => ?_)
    · obtain h | ⟨h, -⟩ := t.cancelledOn_cases i
      · rwa [h] at ht
      · exact h
    · obtain h | ⟨hp, h⟩ := t.cancelledOn_cases i
      · rw [h]
      · rw [h, Tender.not_taken_of_posted hp]
        rfl
  · exact h.cancelledOn i
  · exact s.ring.charges_cancelledOn i

theorem State.keeps_cancelPosted (s : State) (i : Fin 64) : Keeps s (s.cancelPosted i) where
  modes := by simp
  table := by
    unfold State.cancelPosted
    refine TableKept.trans (.of_eq (s.setRing_table _)) (.mod _ i (fun c => ?_) fun c => .inl ?_)
    · exact foldl_unreserve Check.key (fun _ _ _ => rfl) c _
    · exact ⟨foldl_unreserve Check.scope (fun _ _ _ => rfl) c _,
        foldl_unreserve Check.owner (fun _ _ _ => rfl) c _⟩
  figures := .cancelPosted s i
  masks := State.masksInRange_congr (by simp)
  images p := by simp

theorem State.keeps_enterConflict (s : State) (i : Fin 64) (kind : ConflictKind) :
    Keeps s (s.enterConflict i kind) :=
  (s.keeps_mod i fun _ => by exact ⟨rfl, rfl, rfl⟩).trans
    ((State.keeps_cancelPosted _ i).trans (State.keeps_raise _ _ _))

/-! ### Images and retirements -/

theorem State.keeps_afterAmounts (s : State) (i : Fin 64) :
    Keeps s (s.modCheck i Check.afterAmounts) :=
  s.keeps_mod i Check.sameFace_afterAmounts

theorem State.keeps_settleImage (s : State) (i : Fin 64) : Keeps s (s.settleImage i) := by
  unfold State.settleImage
  (repeat' split)
  · exact s.keeps_enterConflict i _
  · exact s.keeps_afterAmounts i
  · exact .refl s

theorem State.scopeOf_iff (s : State) (owner : Nat) :
    s.scopeOf owner = .owned ↔ s.modes.terminalId = some owner := by
  unfold State.scopeOf
  split
  · next h => simp [h]
  · next h => simp [eq_comm (a := s.modes.terminalId), h]

theorem State.keeps_takeImage (s : State) (i : Fin 64) {scope : Scope} (server owner covers seats : Nat)
    (items : List Item) (rate : Nat) (h : scope = .owned ↔ s.modes.terminalId = some owner) :
    Keeps s (s.modCheck i fun c => c.takeImage scope server owner covers seats items rate) :=
  .of_table (.mod s i (fun _ => rfl) fun _ => .inr h) (by simp [SameBut])

theorem State.keeps_applyImage (s : State) (i : Fin 64) (server owner covers seats : Nat)
    (items : List Item) : Keeps s (s.applyImage i server owner covers seats items) := by
  unfold State.applyImage
  split
  · next c _ =>
    have hfreed := (s.keeps_freeItems c.items).trans (State.keeps_discardOlder _ i server)
    have htaken := State.keeps_takeImage ((s.freeItems c.items).discardOlder i server) i server owner
      covers seats items s.modes.taxRate (hfreed.modes ▸ s.scopeOf_iff owner)
    exact hfreed.trans (htaken.trans ((State.keeps_abortReads _ i _).trans
      ((State.keeps_raise _ _ _).trans (State.keeps_settleImage _ i))))
  · exact .refl s

theorem State.keeps_setServer (s : State) (i : Fin 64) (server : Nat) :
    Keeps s (s.setServer i server) :=
  s.keeps_mod i fun _ => by exact ⟨rfl, rfl, rfl⟩

theorem State.keeps_takePending (s : State) (i : Fin 64) : Keeps s (s.takePending i) :=
  s.keeps_mod i fun _ => by exact ⟨rfl, rfl, rfl⟩

theorem State.keeps_deferImage (s : State) (i : Fin 64) (g : PendingImage) :
    Keeps s (s.deferImage i g) :=
  (s.keeps_discardImage i).trans (State.keeps_mod _ i fun _ => by exact ⟨rfl, rfl, rfl⟩)

theorem State.keeps_applyRetire (s : State) (i : Fin 64) (server : Nat) :
    Keeps s (s.applyRetire i server) := by
  unfold State.applyRetire
  refine (s.keeps_setServer i server).trans ((State.keeps_discardOlder _ i server).trans
    (Keeps.trans ?_ (State.keeps_raise _ .console .floorChange)))
  (repeat' split)
  · exact State.keeps_enterConflict _ i _
  · exact State.keeps_mod _ i fun _ => by exact ⟨rfl, rfl, rfl⟩
  · exact State.keeps_freeEntry _ i
  · exact .refl _

theorem State.keeps_tryPending (s : State) (i : Fin 64) : Keeps s (s.tryPending i) := by
  unfold State.tryPending
  split
  · exact .refl s
  · next c _ =>
    split
    · exact .refl s
    · next g _ =>
      have hgone := s.keeps_discardImage i
      have htaken := s.keeps_takePending i
      split
      · exact hgone
      · split
        · split
          · exact hgone
          · exact .refl s
          · exact hgone.trans (State.keeps_setServer _ i _)
          · exact htaken.trans (State.keeps_applyImage _ i _ _ _ _ _)
        · split
          · exact hgone.trans (State.keeps_setServer _ i _)
          · split
            · exact .refl s
            · exact htaken.trans (State.keeps_applyRetire _ i _)

theorem State.keeps_endOfHold (s : State) (i : Fin 64) : Keeps s (s.endOfHold i) := by
  unfold State.endOfHold
  dsimp only
  have htry := s.keeps_tryPending i
  (repeat' split)
  · exact htry
  · exact htry.trans ((State.keeps_grantWaiters i _ _).trans (State.keeps_scheduleDeltas _))
  · exact htry.trans (State.keeps_grantWaiters i _ _)

end Sys2Proof.Machine
end

section
/-!
SUPPORT. What the rules on ring, queue, link and holds keep of the simpler laws.
-/

namespace Sys2Proof.Machine

/-- Nothing that the laws speak of is among the blocks that change. -/
theorem Mild.of_same {touched : List Block} {s t : State} (h : SameBut touched s t)
    (hnot : ∀ b ∈ touched, b ∉ [Block.table, .ring, .uplink, .offline, .attn, .modes]) :
    Mild s t := by
  have hno (b : Block) (hb : b ∈ [Block.table, .ring, .uplink, .offline, .attn, .modes]) :
      b ∉ touched := fun hm => hnot b hm hb
  simp only [SameBut] at h
  obtain ⟨-, -, hattn, htable, -, -, -, hring, ho, -, -, hu, -, hmodes⟩ := h
  exact ⟨⟨hmodes (hno _ (by simp)), .of_eq (htable (hno _ (by simp))),
    State.masksInRange_congr (hattn (hno _ (by simp)))⟩,
    .of_eq (hring (hno _ (by simp))) (hu (hno _ (by simp))) (ho (hno _ (by simp)))⟩

theorem Mild.refl (s : State) : Mild s s := (Keeps.refl s).toMild

theorem Keeps.of_ring {s t : State} (hsame : SameBut [.ring] s t)
    (ring : s.ring.Ordered → t.ring.Ordered) (cash : s.ring.CashFinished → t.ring.CashFinished)
    (charges : s.ring.CashFinished → t.ring.charges ≤ s.ring.charges) : Keeps s t := by
  simp only [SameBut, List.mem_singleton, reduceCtorEq, not_false_iff, forall_const,
    not_true, false_imp_iff, true_and] at hsame
  obtain ⟨-, -, hattn, htable, -, -, -, ho, -, -, hu, hstreams, hmodes⟩ := hsame
  exact ⟨⟨⟨hmodes, .of_eq htable, State.masksInRange_congr hattn⟩,
    .of_ring hu ho ring cash charges⟩, fun p => by rw [hstreams]⟩

theorem State.keeps_countTotals (s : State) (f : Totals → Totals) : Keeps s (s.countTotals f) := by
  apply Keeps.of_eq <;> simp

theorem Check.sameFace_unreserve (c : Check) (share base : Nat) :
    c.SameFace (c.unreserve share base).afterAmounts :=
  (c.unreserve share base).sameFace_afterAmounts

/-! ### The TAKEN descriptor -/

theorem State.takenTender_eq_some {s : State} {k : Nat} {t : Tender}
    (h : s.takenTender = some (k, t)) : s.ring.tenders[k]? = some t ∧ t.isTaken = true := by
  unfold State.takenTender at h
  split at h
  · next j hj =>
    obtain ⟨u, hplace, heq⟩ := Option.map_eq_some_iff.1 h
    cases heq
    obtain ⟨hlt, htaken, -⟩ := List.findIdx?_eq_some_iff_getElem.1 hj
    rw [List.getElem?_eq_getElem hlt] at hplace
    exact ⟨(List.getElem?_eq_getElem hlt).trans hplace, Option.some.inj hplace ▸ htaken⟩
  · cases h

theorem pushLate_length_le (late : List LateEntry) (e : LateEntry) :
    (pushLate late e).length ≤ late.length + 1 := by
  unfold pushLate
  split
  · simp
  · simp

/-- The TAKEN descriptor is replaced by one that is FINISHED, and the timer stops. -/
theorem State.keeps_setRing_finish {s : State} {k : Nat} {t : Tender}
    (h : s.takenTender = some (k, t)) (e : TenderEnd) (late : List LateEntry)
    (hlate : late.length ≤ s.ring.late.length + 1) :
    Keeps s (s.setRing { s.ring with
      tenders := s.ring.tenders.set k { t with phase := .finished e }
      timer := none, late := late }) := by
  obtain ⟨hk, ht⟩ := State.takenTender_eq_some h
  refine .of_ring (by simp [SameBut]) (fun hs => ?_) (fun hs => ?_) (fun hs => ?_)
  · exact hs.finish hk ht rfl rfl late
  · exact hs.set (t' := { t with phase := .finished e }) hk rfl (fun _ => rfl) rfl
  · have hcommitted := Tender.committed_of_open (hs t (List.mem_of_getElem? hk))
      (Tender.not_finished_of_taken ht)
    have hcharges := TenderRing.charges_set (t' := { t with phase := .finished e }) hk
      (r' := { s.ring with
        tenders := s.ring.tenders.set k { t with phase := .finished e }
        timer := none, late := late }) rfl
    rw [hcommitted, Tender.not_committed_of_finished rfl] at hcharges
    simp only [if_true, Bool.false_eq_true, if_false, Nat.add_zero] at hcharges
    simp only [State.setRing_ring]
    omega

theorem State.keeps_finishTaken {s : State} {k : Nat} {t : Tender}
    (h : s.takenTender = some (k, t)) (e : TenderEnd) : Keeps s (s.finishTaken k t e) :=
  State.keeps_setRing_finish h e s.ring.late (Nat.le_succ _)

theorem State.keeps_timeOutTaken (s : State) (expired : Bool) :
    Keeps s (s.timeOutTaken expired) := by
  unfold State.timeOutTaken
  split
  · exact .refl s
  · next k t h =>
    have hfinished := (State.keeps_setRing_finish h .timedOut (pushLate s.ring.late t.lateEntry)
      (pushLate_length_le _ _)).trans ((State.keeps_mod _ t.index
        (fun c => c.sameFace_unreserve t.share t.base)).trans ((State.keeps_countTotals _
          fun n => { n with timeouts := bumpCount n.timeouts }).trans
            (State.keeps_raise _ .console .tenderFinished)))
    dsimp only
    split
    · exact hfinished.trans (State.keeps_raise _ _ _)
    · exact hfinished

/-! ### The queue returns to QUEUED, and loses records -/

theorem supersede_sublist (mark : Option Nat) (l : List UplinkRecord) :
    ((supersede mark l).1).Sublist l := by
  induction l generalizing mark with
  | nil => exact .slnil
  | cons r rest ih =>
    unfold supersede
    split
    · split
      · exact (ih _).cons _
      · exact (ih _).cons_cons _
    · exact (ih _).cons_cons _

theorem supersede_offlineAmounts (mark : Option Nat) (l : List UplinkRecord) :
    ((supersede mark l).1).filterMap UplinkRecord.offlineAmount =
      l.filterMap UplinkRecord.offlineAmount := by
  induction l generalizing mark with
  | nil => rfl
  | cons r rest ih =>
    unfold supersede
    split
    · next hbody _ =>
      have hnone : r.offlineAmount = none := by simp [UplinkRecord.offlineAmount, hbody]
      split
      · simp only [List.filterMap_cons, hnone, ih]
      · simp only [List.filterMap_cons, hnone, ih]
    · simp only [List.filterMap_cons, ih]

/-- The queue is left with fewer records, QUEUED ones, and the same offline approvals. -/
theorem FiguresKept.of_queued {s t : State} (hring : t.ring = s.ring) (ho : t.offline = s.offline)
    (hw : t.uplink.window = s.uplink.window) (hq : ∀ r ∈ t.uplink.records, r.sent = false)
    (hlen : t.uplink.records.length ≤ s.uplink.records.length)
    (hamounts : t.offlineAmounts = s.offlineAmounts) : FiguresKept s t where
  ring := by rw [hring]; exact id
  sent h := by
    rw [State.sentFirst_iff] at h ⊢
    have hzero : t.uplink.records.countP UplinkRecord.sent = 0 :=
      List.countP_eq_zero.2 fun r hr => by simp [hq r hr]
    exact ⟨hw ▸ h.1, by omega, .of_queued hq⟩
  bound h := by
    rw [State.commitmentsBounded_iff] at h ⊢
    rw [hring]
    exact ⟨by omega, h.2⟩
  expose h := by
    rw [State.ExposureAgrees, hamounts, ho]
    exact h

theorem State.keeps_uncount (s : State) (i : Fin 64) : Keeps s (s.uncount i) :=
  s.keeps_mod i fun _ => ⟨rfl, rfl, rfl⟩

theorem State.keeps_setUplink_queued {s : State} {u : UplinkQueue}
    (hw : u.window = s.uplink.window) (hq : ∀ r ∈ u.records, r.sent = false)
    (hlen : u.records.length ≤ s.uplink.records.length)
    (hamounts : u.records.filterMap UplinkRecord.offlineAmount = s.offlineAmounts) :
    Keeps s (s.setUplink u) where
  modes := rfl
  table := .of_eq rfl
  figures := .of_queued rfl rfl hw hq hlen hamounts
  masks := State.masksInRange_congr rfl
  images _ := rfl

theorem State.keeps_unsend (s : State) : Keeps s s.unsend := by
  have hsub := supersede_sublist s.uplink.mark
    (s.uplink.records.map fun r => { r with sent := false })
  unfold State.unsend
  refine Keeps.trans (State.keeps_setUplink_queued ?_ (fun r hr => ?_) ?_ ?_)
    (Keeps.foldl _ State.keeps_uncount _ _)
  · rfl
  · obtain ⟨q, -, rfl⟩ := List.mem_map.1 (hsub.subset hr)
    rfl
  · simpa using hsub.length_le
  · rw [supersede_offlineAmounts, List.filterMap_map]
    rfl

theorem State.keeps_setFloor (s : State) (f : FloorSync) : Keeps s (s.setFloor f) := by
  apply Keeps.of_eq <;> rfl

theorem State.keeps_loseLink (s : State) : Keeps s s.loseLink :=
  (s.keeps_setFloor _).trans (State.keeps_unsend _)

theorem State.keeps_discardAssembly (s : State) : Keeps s s.discardAssembly := by
  apply Keeps.of_eq <;> simp

theorem State.mild_closeChannel (s : State) (p : Port) : Mild s (s.closeChannel p) :=
  .of_same (touched := [.pool, .floor, .streams]) (by simp [SameBut]) (by simp)

/-! ### The ends of holds -/

theorem State.keeps_releaseAt (p : Port) (s : State) (i : Fin 64) :
    Keeps s (State.releaseAt p s i) := by
  unfold State.releaseAt
  split
  · exact (s.keeps_dropHold i).trans (State.keeps_endOfHold _ i)
  · exact .refl s

theorem State.keeps_releaseAll (s : State) (p : Port) : Keeps s (s.releaseAll p) := by
  unfold State.releaseAll
  refine Keeps.trans ?_ (Keeps.foldl _ (State.keeps_releaseAt p) _ allIdx)
  split
  · exact s.keeps_leaveList p _
  · exact .refl s

theorem State.keeps_endHold (s : State) (p : Port) (i : Fin 64) : Keeps s (s.endHold p i) :=
  (s.keeps_dropHold i).trans ((State.keeps_abortWrite _ _ _ _).trans (State.keeps_endOfHold _ _))

theorem State.keeps_expireLease (s : State) (i : Fin 64) : Keeps s (s.expireLease i) := by
  unfold State.expireLease
  split
  · exact (s.keeps_dropHold i).trans ((State.keeps_abortWrite _ _ _ _).trans
      ((State.keeps_raise _ _ _).trans (State.keeps_endOfHold _ _)))
  · exact .refl s

theorem State.keeps_endQuietly (s : State) (i : Fin 64) : Keeps s (s.endQuietly i) :=
  (s.keeps_dropHold i).trans ((State.keeps_abortWrite _ _ _ _).trans
    (State.keeps_dismissWaiters _ _))

/-! ### Rules on checks and holds -/

section
variable (s : State) (index : Byte) (key : Half)

theorem holdRule_keeps (p : Port) : Keeps s (holdRule p index key s).state := by
  refine State.onNamed_keeps (.refl s) fun i c _ => ?_
  unfold State.holdCases
  split
  · exact s.keeps_restartLease i
  · split
    · exact .refl s
    · split
      · exact State.tested_keeps (.refl s) fun _ => s.keeps_grantHold p i
      · exact State.tested_keeps (.refl s) fun _ =>
          (s.keeps_mod i fun _ => by exact ⟨rfl, rfl, rfl⟩).trans (State.keeps_setWait _ _ _)

theorem renewRule_keeps (p : Port) : Keeps s (renewRule p index key s).state :=
  State.onNamed_keeps (.refl s) fun i _ _ =>
    State.tested_keeps (.refl s) fun _ => s.keeps_restartLease i

theorem releaseRule_keeps (p : Port) : Keeps s (releaseRule p index key s).state := by
  unfold releaseRule
  split
  · exact .refl s
  · next i _ =>
    refine State.tested_keeps (.refl s) fun _ => ?_
    unfold State.releaseCases
    split
    · exact .refl s
    · split
      · exact s.keeps_endHold p i
      · split
        · exact s.keeps_leaveList p i
        · exact .refl s

theorem State.uplinkRoom_iff : s.uplinkRoom = true ↔ s.commitments + 1 ≤ 48 := decide_eq_true_iff

/-- The QUEUED DELTA record becomes a CLOSE record. -/
theorem State.keeps_convertDelta (i : Fin 64) (c : Check) : Keeps s (s.convertDelta i c) := by
  have hsent (r : UplinkRecord) : (if r.queuedDelta i then
      { r with key := c.key, body := .close c.revision } else r).sent = r.sent := by
    split <;> rfl
  have hamount (r : UplinkRecord) : (if r.queuedDelta i then
      { r with key := c.key, body := .close c.revision } else r).offlineAmount =
        r.offlineAmount := by
    split
    · next h =>
      unfold UplinkRecord.queuedDelta at h
      split at h
      · next hbody => simp [UplinkRecord.offlineAmount, hbody]
      · cases h
    · rfl
  refine ⟨⟨⟨rfl, .of_eq rfl, State.masksInRange_congr rfl⟩,
    ⟨id, fun h => ?_, fun h => ?_, fun h => ?_⟩⟩, fun _ => rfl⟩
  · rw [State.sentFirst_iff] at h ⊢
    obtain ⟨hw, hcount, hhead⟩ := h
    refine ⟨hw, ?_, ?_⟩
    · simp only [State.convertDelta, State.setUplink_uplink, List.countP_map, Function.comp_def,
        hsent]
      exact hcount
    · simp only [SentHead, State.convertDelta, State.setUplink_uplink, List.pairwise_map, hsent]
      exact hhead
  · rw [State.commitmentsBounded_iff] at h ⊢
    simpa [State.convertDelta] using h
  · have hamounts : (s.convertDelta i c).offlineAmounts = s.offlineAmounts := by
      simp only [State.offlineAmounts, State.convertDelta, State.setUplink_uplink,
        List.filterMap_map, Function.comp_def, hamount]
    rw [State.ExposureAgrees, hamounts]
    exact h

theorem State.keeps_placeClose (i : Fin 64) (c : Check)
    (h : (s.queuedDelta i).isSome = true ∨ s.uplinkRoom = true) : Keeps s (s.placeClose i c).2 := by
  unfold State.placeClose
  split
  · exact s.keeps_convertDelta i c
  · next hnone =>
    have hroom : s.uplinkRoom = true := by simpa [hnone] using h
    exact s.keeps_appendRecord (some i) c.key (body := .close c.revision)
      (s.uplinkRoom_iff.1 hroom) fun _ => rfl

theorem checkCloseRule_keeps : Keeps s (checkCloseRule index key s).state := by
  refine State.onNamed_keeps (.refl s) fun i c _ => State.tested_keeps (.refl s) fun h => ?_
  have hroom := h ((s.queuedDelta i).isSome || s.uplinkRoom, .uplinkFull)
    (by simp [State.closeTests])
  exact (s.keeps_placeClose i c (Bool.or_eq_true_iff.1 hroom)).trans
    ((State.keeps_mod _ i fun _ => by exact ⟨rfl, rfl, rfl⟩).trans (State.keeps_endQuietly _ i))

theorem State.room_of_resolveTests {c : Check} {kind : ConflictKind}
    (h : ∀ t ∈ s.resolveTests c kind, t.1 = true) : s.commitments + 1 ≤ 48 :=
  s.uplinkRoom_iff.1 (h (s.uplinkRoom, .uplinkFull) (by simp [State.resolveTests]))

theorem Check.sameFace_dropOverpaidPlan (c : Check) : c.SameFace c.dropOverpaidPlan.evaluate := by
  unfold Check.dropOverpaidPlan
  split <;> exact ⟨rfl, rfl, rfl⟩

theorem State.commitments_congr {s t : State} (hu : t.uplink = s.uplink) (hring : t.ring = s.ring) :
    t.commitments = s.commitments := by
  simp only [State.commitments_eq, hu, hring]

theorem resolveKeepRule_keeps (resolution : Byte) :
    Keeps s (resolveKeepRule index key resolution s).state := by
  refine State.tested_keeps (.refl s) fun _ => State.onNamed_keeps (.refl s) fun i c _ =>
    State.tested_keeps (.refl s) fun h => ?_
  have hroom := s.room_of_resolveTests h
  have hmod := s.keeps_mod i Check.sameFace_dropOverpaidPlan
  dsimp only [State.accept]
  refine Keeps.trans ?_ (State.keeps_restartLease _ i)
  split
  · refine (hmod.trans (State.keeps_abortReads _ i _)).trans
      (State.keeps_appendRecord _ _ _ ?_ fun _ => by rfl)
    rwa [State.commitments_congr (s := s) (by simp) (by simp)]
  · refine hmod.trans (State.keeps_appendRecord _ _ _ ?_ fun _ => by rfl)
    rwa [State.commitments_congr (s := s) (by simp) (by simp)]

theorem resolveCloseRule_keeps : Keeps s (resolveCloseRule index key s).state := by
  refine State.onNamed_keeps (.refl s) fun i c _ => State.tested_keeps (.refl s) fun h => ?_
  exact (s.keeps_appendRecord (some i) c.key (body := .resolve .close c.surplus)
    (s.room_of_resolveTests h) fun _ => rfl).trans
    ((State.keeps_mod _ i fun _ => by exact ⟨rfl, rfl, rfl⟩).trans (State.keeps_endQuietly _ i))

/-! ### Rules on items and plans -/

theorem State.keeps_afterEdit (s : State) (i : Fin 64) : Keeps s (s.afterEdit i) :=
  (s.keeps_abortReads i _).trans (State.keeps_restartLease _ i)

theorem State.keeps_addItem (s : State) {i : Fin 64} {c : Check} (hc : s.check i = some c)
    (w : ItemWire) : Keeps s (s.addItem i c w) := by
  have hdrop : Keeps s s.dropFree := by apply Keeps.of_eq <;> simp
  refine hdrop.trans ((State.keeps_put _ (c := c) (by simpa [State.dropFree] using hc) ?_).trans
    (State.keeps_afterEdit _ i))
  exact Check.sameFace_afterAmounts (Check.bump (c.withItem _ s.modes.taxRate))

theorem itemAddRule_keeps (w : ItemWire) : Keeps s (itemAddRule index key w s).state :=
  State.onNamed_keeps (.refl s) fun _ _ hc =>
    State.tested_keeps (.refl s) fun _ => s.keeps_addItem hc w

theorem itemVoidRule_keeps (serial : Byte) : Keeps s (itemVoidRule index key serial s).state :=
  State.tested_keeps (.refl s) fun _ => State.onNamed_keeps (.refl s) fun i c hc =>
    State.tested_keeps (.refl s) fun _ =>
      (s.keeps_put hc (Check.sameFace_afterAmounts (Check.bump (c.withoutItem _ _)))).trans
        (State.keeps_afterEdit _ i)

theorem splitSetRule_keeps (basis count : Byte) (elems : List Tri) :
    Keeps s (splitSetRule index key basis count elems s).state := by
  refine State.onNamed_keeps (.refl s) fun i c hc => State.tested_keeps (.refl s) fun _ => ?_
  split
  · exact .refl s
  · exact (s.keeps_put hc (by exact ⟨rfl, rfl, rfl⟩)).trans (State.keeps_afterEdit _ i)

theorem splitClearRule_keeps : Keeps s (splitClearRule index key s).state :=
  State.onNamed_keeps (.refl s) fun i _ hc => State.tested_keeps (.refl s) fun _ =>
    (s.keeps_put hc (by exact ⟨rfl, rfl, rfl⟩)).trans (State.keeps_afterEdit _ i)

end

/-! ### Rules on streams -/

theorem State.mild_setChannel (s : State) (p : Port) (ch : Channel) : Mild s (s.setChannel p ch) :=
  .of_same (touched := [.streams]) (by simp [SameBut]) (by simp)

theorem State.mild_continueStream (s : State) (p : Port) (st : Stream) :
    Mild s (s.continueStream p st) := by
  unfold State.continueStream
  split
  · exact (s.mild_setChannel p _).trans (State.keeps_raise _ _ _).toMild
  · exact s.mild_setChannel p _

theorem State.mild_failStream (s : State) (p : Port) (st : Stream) (o : ReplyOutcome) :
    Mild s (s.failStream p st o) :=
  (s.mild_setChannel p _).trans (State.keeps_raise _ _ _).toMild

theorem State.mild_readNext (s : State) (p : Port) (st : Stream) :
    Mild s (s.readNext p st).state := by
  unfold State.readNext
  dsimp only [State.accept]
  split
  · exact (s.mild_continueStream p _).trans (State.keeps_restartIfHolder _ _ _).toMild
  · exact s.mild_continueStream p _

theorem State.mild_putWriteItem (s : State) (p : Port) (st : Stream) (w : ItemWire) :
    Mild s (s.putWriteItem p st w).1 := by
  unfold State.putWriteItem
  split
  · exact s.mild_failStream p st _
  · split
    · exact s.mild_failStream p st _
    · next hc =>
      split
      · exact s.mild_failStream p st _
      · exact (s.keeps_addItem hc w).toMild.trans (State.mild_continueStream _ p _)

theorem State.mild_putImageItem (s : State) (p : Port) (st : Stream) (w : ItemWire) :
    Mild s (s.putImageItem p st w).1 := by
  unfold State.putImageItem
  split
  · exact s.mild_failStream p st _
  · split
    · exact (s.mild_failStream p st _).trans (State.keeps_discardAssembly _).toMild
    · refine Mild.trans ?_ (State.mild_continueStream _ p _)
      exact .of_same (touched := [.pool, .floor]) (by simp [SameBut]) (by simp)

theorem State.mild_putItems (p : Port) (items : List ItemWire) (s : State) :
    Mild s (State.putItems p items s).1 := by
  induction items generalizing s with
  | nil => exact .refl s
  | cons w rest ih =>
    have hitem (st : Stream) : Mild s
        (if st.target = .image then s.putImageItem p st w else s.putWriteItem p st w).1 := by
      split
      · exact s.mild_putImageItem p st w
      · exact s.mild_putWriteItem p st w
    unfold State.putItems
    split
    · next st _ =>
      dsimp only
      split
      · exact (hitem st).trans (ih _)
      · exact hitem st
    · exact .refl s

theorem streamNextRule_mild (p : Port) (s : State) : Mild s (streamNextRule p s).state := by
  unfold streamNextRule
  split
  · exact .refl s
  · exact .refl s
  · exact .refl s
  · split
    · exact s.mild_readNext p _
    · exact .refl s

theorem streamPutRule_mild (p : Port) (count : Byte) (items : List ItemWire) (s : State) :
    Mild s (streamPutRule p count items s).state := by
  refine State.tested_keeps (.refl s) fun _ => ?_
  split
  · exact .refl s
  · exact .refl s
  · exact .refl s
  · split
    · exact .refl s
    · exact State.mild_putItems p _ s

end Sys2Proof.Machine
end

section
/-!
SUPPORT. What the rules on tenders and on the queue keep of the simpler laws.
-/

namespace Sys2Proof.Machine

/-! ### Posting -/

theorem TenderRing.charges_push {r : TenderRing} (t : Tender) (next : Nat) :
    TenderRing.charges { r with tenders := r.tenders ++ [t], nextSerial := next } =
      r.charges + (if t.committed then 1 else 0) := by
  unfold TenderRing.charges
  simp only [List.countP_append, List.countP_singleton]
  omega

theorem TenderRing.CashFinished.push {r : TenderRing} (h : r.CashFinished) {t : Tender}
    (ht : t.cls = .cash → t.isFinished = true) (next : Nat) :
    TenderRing.CashFinished
      { r with tenders := r.tenders ++ [t], nextSerial := next } := by
  intro u hu
  obtain hu | hu := List.mem_append.1 hu
  · exact h u hu
  · rw [List.mem_singleton.1 hu]
    exact ht

/-- The tests of TENDER_POST leave room in the ring and in the queue. -/
theorem State.room_of_postTests {s : State} {c : Check} {share base : Nat}
    (h : ∀ t ∈ s.postTests c share base, t.1 = true) :
    s.ring.tenders.length < Config.ringSize ∧ s.commitments + 1 ≤ 48 := by
  have hring := h (decide (s.ring.tenders.length < Config.ringSize), .ringFull)
    (by simp [State.postTests])
  have hqueue := h (s.uplinkRoom, .uplinkFull) (by simp [State.postTests])
  exact ⟨decide_eq_true_iff.1 hring, s.uplinkRoom_iff.1 hqueue⟩

/-- A CARD descriptor joins the ring, where U allows one more. -/
theorem State.mild_pushTender {s : State} {t : Tender}
    (hring : s.ring.tenders.length < Config.ringSize) (hqueue : s.commitments + 1 ≤ 48)
    (htaken : t.isTaken = false) (hcash : t.cls = .cash → t.isFinished = true) :
    Mild s (s.pushTender t) where
  modes := rfl
  table := .of_eq rfl
  figures := by
    refine ⟨fun h => h.push hring htaken _, State.sentFirst_congr rfl rfl, fun h => ?_,
      State.exposureAgrees_congr rfl rfl⟩
    rw [State.commitmentsBounded_iff] at h ⊢
    rw [State.commitments_eq] at hqueue
    refine ⟨?_, h.2.push hcash _⟩
    simp only [State.pushTender, State.setRing_ring, State.setRing_uplink,
      TenderRing.charges_push]
    split <;> omega
  masks := State.masksInRange_congr rfl

theorem Check.sameFace_reserve (c : Check) (share base : Nat) :
    c.SameFace (c.reserve share base).afterAmounts :=
  (c.reserve share base).sameFace_afterAmounts

theorem Check.sameFace_approve (c : Check) (share base tip : Nat) :
    c.SameFace ((c.approve base tip).approveShare share base tip).afterAmounts :=
  ((c.approve base tip).approveShare share base tip).sameFace_afterAmounts

theorem postCardRule_mild (index : Byte) (key : Half) (cls : Byte) (w : PostWire) (s : State) :
    Mild s (postCardRule index key cls w s).state := by
  refine State.tested_keeps (.refl s) fun _ => State.onNamed_keeps (.refl s) fun i c _ =>
    State.tested_keeps (.refl s) fun h => ?_
  obtain ⟨hring, hqueue⟩ := State.room_of_postTests h
  exact (State.mild_pushTender hring hqueue rfl fun h => by cases h).trans
    ((State.keeps_mod _ i fun c => c.sameFace_reserve _ _).toMild.trans
      ((State.keeps_restartLease _ i).toMild.trans (State.keeps_raise _ _ _).toMild))

theorem postCashRule_mild (index : Byte) (key : Half) (w : PostWire) (s : State) :
    Mild s (postCashRule index key w s).state := by
  refine State.tested_keeps (.refl s) fun _ => State.onNamed_keeps (.refl s) fun i c _ =>
    State.tested_keeps (.refl s) fun h => ?_
  obtain ⟨hring, hqueue⟩ := State.room_of_postTests h
  dsimp only [State.accept, State.postCash]
  refine (State.mild_pushTender hring hqueue rfl fun _ => rfl).trans
    ((State.keeps_mod _ i fun c => c.sameFace_approve _ _ _).toMild.trans
      (Mild.trans (State.keeps_appendRecord _ _ _ ?_ fun _ => by rfl).toMild
        ((State.keeps_countTotals _ _).toMild.trans (State.keeps_restartLease _ i).toMild)))
  rw [State.commitments_eq] at hqueue ⊢
  simpa [State.pushTender, TenderRing.charges_push, State.newTender, Tender.committed] using hqueue

/-! ### Taking, reporting, cancelling, reaping -/

theorem State.firstPosted_eq_some {s : State} {k : Nat} {t : Tender}
    (h : s.firstPosted = some (k, t)) :
    s.ring.tenders[k]? = some t ∧ t.isPosted = true ∧ s.ring.passed ≤ k ∧
      ∀ j u, s.ring.tenders[j]? = some u → s.ring.passed ≤ j → j < k → u.isPosted = false := by
  unfold State.firstPosted at h
  split at h
  · next n hn =>
    obtain ⟨u, hplace, heq⟩ := Option.map_eq_some_iff.1 h
    cases heq
    obtain ⟨hlt, hposted, hbefore⟩ := List.findIdx?_eq_some_iff_getElem.1 hn
    rw [List.getElem_drop] at hposted
    refine ⟨hplace, ?_, Nat.le_add_right _ _, fun j u hj hle hjk => ?_⟩
    · rwa [(List.getElem?_eq_some_iff.1 hplace).2] at hposted
    · have hb := hbefore (j - s.ring.passed) (by omega)
      simp only [List.getElem_drop, Nat.add_sub_cancel' hle] at hb
      rw [(List.getElem?_eq_some_iff.1 hj).2] at hb
      simpa using hb
  · cases h

theorem State.firstPosted_eq_none {s : State} (h : s.firstPosted = none) :
    ∀ j u, s.ring.tenders[j]? = some u → s.ring.passed ≤ j → u.isPosted = false := by
  unfold State.firstPosted at h
  split at h
  · next n hn =>
    obtain ⟨hlt, -, -⟩ := List.findIdx?_eq_some_iff_getElem.1 hn
    rw [List.length_drop] at hlt
    rw [List.getElem?_eq_getElem (by omega)] at h
    cases h
  · next hn =>
    exact (forall_mem_drop_iff _ _ _).1 (List.findIdx?_eq_none_iff.1 hn)

/-- A descriptor is replaced by one that is charged alike. -/
theorem TenderRing.charges_replace {r : TenderRing} {k : Nat} {t t' : Tender}
    (hk : r.tenders[k]? = some t) (hcommitted : t'.committed = t.committed) {r' : TenderRing}
    (hr : r'.tenders = r.tenders.set k t') (hlate : r'.late = r.late) : r'.charges = r.charges := by
  have := TenderRing.charges_set hk hr
  rw [hcommitted, hlate] at this
  omega

theorem tenderTakeRule_keeps (s : State) : Keeps s (tenderTakeRule s).state := by
  refine State.tested_keeps (.refl s) fun h => ?_
  have hnone : s.takenTender = none := by simpa using h (s.takenTender.isNone, .busy) (by simp)
  have hfree : ∀ u ∈ s.ring.tenders, u.isTaken = false := by
    obtain ⟨-, h⟩ | ⟨k, t, h, -⟩ := s.takenTender_cases
    · exact h
    · rw [hnone] at h
      cases h
  split
  · next k t hfirst =>
    obtain ⟨hk, hposted, hpassed, hbetween⟩ := State.firstPosted_eq_some hfirst
    have hphase := t.isPosted_iff.1 hposted
    refine .of_ring (by simp [SameBut, State.accept]) (fun hs => ?_) (fun hs => ?_) (fun _ => ?_)
    · exact hs.take hk hpassed hbetween hfree rfl rfl _
    · exact hs.set (t' := { t with phase := .taken .none }) hk rfl
        (fun hf => by simp [Tender.not_finished_of_posted hposted] at hf) rfl
    · refine Nat.le_of_eq (TenderRing.charges_replace hk ?_ rfl rfl)
      simp [Tender.committed_eq, Tender.isFinished, hphase]
  · next hfirst =>
    refine .of_ring (by simp [SameBut]) (fun hs => ?_) (fun hs => hs) (fun _ => Nat.le_refl _)
    exact hs.passAll (State.firstPosted_eq_none hfirst)

theorem State.takenWith_eq_some {s : State} {n k : Nat} {t : Tender}
    (h : s.takenWith n = some (k, t)) : s.takenTender = some (k, t) ∧ t.serial = n := by
  obtain ⟨htaken, hserial⟩ := Option.filter_eq_some_iff.1 h
  exact ⟨htaken, by simpa using hserial⟩

theorem progressRule_keeps (serial : Half) (stage : Byte) (s : State) :
    Keeps s (progressRule serial stage s).state := by
  unfold progressRule
  split
  · exact .refl s
  · next g _ =>
    refine State.tested_keeps (.refl s) fun _ => ?_
    split
    · next k t hwith =>
      obtain ⟨hk, ht⟩ := State.takenTender_eq_some (State.takenWith_eq_some hwith).1
      have htimer : s.ring.Ordered → (some s.fullTimer).isSome = s.ring.timer.isSome := by
        intro hs
        exact (hs.timer.2 (List.countP_pos_iff.2 ⟨t, List.mem_of_getElem? hk, ht⟩)).symm
      refine .of_ring (by simp [SameBut, State.accept]) (fun hs => ?_) (fun hs => ?_) (fun _ => ?_)
      · exact hs.replace (t' := { t with phase := .taken g }) hk (fun h => by cases h)
          ht.symm (htimer hs)
      · exact hs.set (t' := { t with phase := .taken g }) hk rfl
          (fun hf => by simp [Tender.not_finished_of_taken ht] at hf) rfl
      · refine Nat.le_of_eq (TenderRing.charges_replace hk ?_ rfl rfl)
        unfold Tender.isTaken at ht
        split at ht
        · next hp => simp [Tender.committed_eq, Tender.isFinished, hp]
        · cases ht
    · exact .refl s

theorem State.tenderWith_eq_some {s : State} {n k : Nat} {t : Tender}
    (h : s.tenderWith n = some (k, t)) : s.ring.tenders[k]? = some t := by
  unfold State.tenderWith at h
  split at h
  · obtain ⟨u, hplace, heq⟩ := Option.map_eq_some_iff.1 h
    cases heq
    exact hplace
  · cases h

/-- A POSTED descriptor is replaced by one that is FINISHED. -/
theorem State.keeps_setTender_finish {s : State} {k : Nat} {t : Tender}
    (hk : s.ring.tenders[k]? = some t) (ht : t.phase = .posted) (e : TenderEnd) :
    Keeps s (s.setTender k { t with phase := .finished e }) := by
  have hposted := t.isPosted_iff.2 ht
  refine .of_ring (by simp [SameBut]) (fun hs => ?_) (fun hs => ?_) (fun _ => ?_)
  · exact hs.replace (t' := { t with phase := .finished e }) hk (fun h => by cases h)
      (Tender.not_taken_of_posted hposted).symm rfl
  · exact hs.set (t' := { t with phase := .finished e }) hk rfl (fun _ => rfl) rfl
  · have hcharges := TenderRing.charges_set (t' := { t with phase := .finished e }) hk
      (r' := { s.ring with tenders := s.ring.tenders.set k { t with phase := .finished e } }) rfl
    rw [Tender.not_committed_of_finished (t := { t with phase := .finished e }) rfl] at hcharges
    simp only [State.setTender, State.setRing_ring, Bool.false_eq_true, if_false] at hcharges ⊢
    omega

theorem State.keeps_cancelTender {s : State} {k : Nat} {t : Tender}
    (hk : s.ring.tenders[k]? = some t) (ht : t.phase = .posted) : Keeps s (s.cancelTender k t) :=
  (State.keeps_setTender_finish hk ht .cancelled).trans
    (State.keeps_mod _ t.index fun c => c.sameFace_unreserve t.share t.base)

theorem tenderCancelRule_keeps (serial : Half) (s : State) :
    Keeps s (tenderCancelRule serial s).state := by
  refine State.tested_keeps (.refl s) fun _ => ?_
  split
  · exact .refl s
  · next k t hwith =>
    have hk := State.tenderWith_eq_some hwith
    split
    · next hphase => exact State.keeps_cancelTender hk hphase
    · next g hphase =>
      refine Keeps.trans (.of_ring (by simp [SameBut]) (fun hs => ?_) (fun hs => ?_) (fun _ => ?_))
        (State.keeps_raise _ _ _)
      · exact hs.replace (t' := { t with cancelRequested := true }) hk (fun h => h) rfl rfl
      · exact hs.set (t' := { t with cancelRequested := true }) hk rfl (fun h => h) rfl
      · exact Nat.le_of_eq (TenderRing.charges_replace
          (t' := { t with cancelRequested := true }) hk rfl rfl rfl)
    · exact .refl s

theorem tenderReapRule_keeps (s : State) : Keeps s (tenderReapRule s).state := by
  unfold tenderReapRule
  split
  · exact .refl s
  · next t rest htenders =>
    refine State.tested_keeps (.refl s) fun h => ?_
    have hfinished : t.isFinished = true := h (t.isFinished, .empty) (by simp)
    have htaken : t.isTaken = false :=
      Bool.eq_false_iff.2 fun ht => by simp [Tender.not_finished_of_taken ht] at hfinished
    refine .of_ring (by simp [SameBut, State.accept]) (fun hs => hs.reap htenders htaken)
      (fun hs u hu => hs u (htenders ▸ List.mem_cons_of_mem t hu)) (fun _ => ?_)
    simp [State.accept, TenderRing.charges, htenders,
      Tender.not_committed_of_finished hfinished]

/-- The Late Window loses entries. -/
theorem State.keeps_setLate (s : State) (late : List LateEntry)
    (h : late.length ≤ s.ring.late.length) : Keeps s (s.setRing { s.ring with late := late }) :=
  .of_ring (by simp [SameBut]) (fun hs => ⟨hs.1, hs.2, hs.3, hs.4, hs.5, hs.6, hs.7⟩) (fun hs => hs)
    (fun _ => Nat.add_le_add_left h _)

theorem lateClearRule_keeps (s : State) : Keeps s (lateClearRule s).state :=
  s.keeps_setLate [] (Nat.zero_le _)

/-! ### Results -/

/-- What a result's serial names: the TAKEN descriptor, or an entry of the Late Window. -/
theorem State.resultTarget_cases {s : State} {n : Nat} {g : ResultTarget}
    (h : s.resultTarget n = some g) :
    (∃ k t, g = .taken k t ∧ s.takenTender = some (k, t)) ∨ ∃ e ∈ s.ring.late, g = .late e := by
  unfold State.resultTarget at h
  split at h
  · next k t hwith =>
    cases h
    exact .inl ⟨k, t, rfl, (State.takenWith_eq_some hwith).1⟩
  · obtain ⟨e, he, rfl⟩ := Option.map_eq_some_iff.1 h
    exact .inr ⟨e, List.mem_of_find?_eq_some he, rfl⟩

@[simp] theorem State.dropLate_uplink (s : State) (e : LateEntry) :
    (s.dropLate e).uplink = s.uplink := rfl

@[simp] theorem State.dropLate_offline (s : State) (e : LateEntry) :
    (s.dropLate e).offline = s.offline := rfl

theorem State.keeps_dropLate (s : State) (e : LateEntry) : Keeps s (s.dropLate e) :=
  s.keeps_setLate _ (List.length_erase_le)

theorem resultDeclinedRule_keeps (serial : Half) (w : ResultWire) (s : State) :
    Keeps s (resultDeclinedRule serial w s).state := by
  refine State.tested_keeps (.refl s) fun _ => ?_
  split
  · exact .refl s
  · next g hg =>
    refine State.tested_keeps (.refl s) fun _ => ?_
    obtain ⟨k, t, rfl, htaken⟩ | ⟨e, -, rfl⟩ := State.resultTarget_cases hg
    · exact (State.keeps_finishTaken htaken .declined).trans ((State.keeps_mod _ t.index
        (fun c => c.sameFace_unreserve t.share t.base)).trans ((State.keeps_countTotals _ _).trans
          (State.keeps_raise _ _ _)))
    · exact s.keeps_dropLate e

/-- The ring charges one less, and a QUEUED SETTLEMENT record joins the queue, offline where the limits
allow it. -/
theorem FiguresKept.of_approval {s t : State} {r : UplinkRecord} {w : ResultWire}
    (ring : s.ring.Ordered → t.ring.Ordered) (cash : s.ring.CashFinished → t.ring.CashFinished)
    (charges : s.ring.CashFinished → t.ring.charges + 1 ≤ s.ring.charges)
    (hu : t.uplink.records = s.uplink.records ++ [r]) (hw : t.uplink.window = s.uplink.window)
    (hr : r.sent = false)
    (hamount : r.offlineAmount = if w.isOffline then some w.amount.toNat else none)
    (ho : t.offline = if w.isOffline then { s.offline with
      exposure := s.offline.exposure + w.amount.toNat, count := s.offline.count + 1 } else s.offline)
    (hadmits : w.isOffline = true → s.offlineAdmits w.amount.toNat = true) : FiguresKept s t where
  ring := ring
  sent h := by
    rw [State.sentFirst_iff] at h ⊢
    rw [hu, hw]
    exact ⟨h.1, by simpa [List.countP_append, hr] using h.2.1, h.2.2.append hr⟩
  bound h := by
    rw [State.commitmentsBounded_iff] at h ⊢
    have := charges h.2
    rw [hu, List.length_append, List.length_singleton]
    exact ⟨by omega, cash h.2⟩
  expose h := by
    simp only [State.ExposureAgrees, State.offlineAmounts] at h ⊢
    rw [hu, ho]
    cases hoff : w.isOffline with
    | false => simpa [hamount, hoff] using h
    | true =>
      have hlimits := hadmits hoff
      simp only [State.offlineAdmits, decide_eq_true_eq] at hlimits
      simp only [hamount, hoff, if_true, List.filterMap_append, List.filterMap_cons,
        List.filterMap_nil, List.sum_append, List.sum_singleton, List.length_append,
        List.length_singleton]
      omega

theorem settlementOf_offlineAmount (seq : Nat) (index : Option (Fin 64)) (key : Key)
    (w : ResultWire) (serial : Nat) (late orphan : Bool) :
    UplinkRecord.offlineAmount ⟨seq, false, index, key, settlementOf w serial late orphan⟩ =
      if w.isOffline then some w.amount.toNat else none := rfl

theorem State.countApproval_offline (s : State) (w : ResultWire) (late : Bool) :
    (s.countApproval w late).offline = if w.isOffline then { s.offline with
      exposure := s.offline.exposure + w.amount.toNat, count := s.offline.count + 1 }
      else s.offline := by
  unfold State.countApproval State.exposeOffline
  split <;> simp

theorem State.tame_countApproval (s : State) (w : ResultWire) (late : Bool) :
    Tame s (s.countApproval w late) where
  modes := by simp
  table := .of_eq (by simp)
  masks := State.masksInRange_congr (by simp)

theorem State.mild_approveTaken {s : State} {k : Nat} {t : Tender} {w : ResultWire}
    (h : s.takenTender = some (k, t))
    (hadmits : w.isOffline = true → s.offlineAdmits w.amount.toNat = true) :
    Mild s (s.approveTaken k t w) := by
  have hfinish := fun e => State.keeps_finishTaken h e
  obtain ⟨hk, htaken⟩ := State.takenTender_eq_some h
  refine ⟨?_, ?_⟩
  · exact (hfinish _).toTame.trans ((State.keeps_mod _ t.index
      fun _ => by exact ⟨rfl, rfl, rfl⟩).toTame.trans
      ((State.tame_appendRecord _ (some t.index) t.key (settlementOf w t.serial false false)).trans
        ((State.tame_countApproval _ w false).trans
          ((State.keeps_afterAmounts _ t.index).toTame.trans (State.keeps_raise _ _ _).toTame))))
  · have hring : (s.approveTaken k t w).ring = (s.finishTaken k t (.approved
        ⟨w.amount.toNat, w.tip.toNat, some w.card, w.isOffline, t.cancelRequested⟩)).ring := by
      simp [State.approveTaken]
    refine .of_approval (w := w) (r := ⟨s.uplink.nextSeq, false, some t.index, t.key,
      settlementOf w t.serial false false⟩) ?_ ?_ ?_ ?_ ?_ rfl rfl ?_ hadmits
    · rw [hring]
      exact (hfinish _).figures.ring
    · rw [hring]
      exact fun hs => hs.set (t' := { t with phase := .finished _ }) hk rfl (fun _ => rfl) rfl
    · intro hs
      have hcommitted := Tender.committed_of_open (hs t (List.mem_of_getElem? hk))
        (Tender.not_finished_of_taken htaken)
      have hcharges := TenderRing.charges_set (r' := (s.approveTaken k t w).ring)
        (t' := { t with phase := .finished (.approved
          ⟨w.amount.toNat, w.tip.toNat, some w.card, w.isOffline, t.cancelRequested⟩) }) hk
        (by rw [hring]; rfl)
      have hlate : (s.approveTaken k t w).ring.late = s.ring.late := by rw [hring]; rfl
      rw [hcommitted, Tender.not_committed_of_finished rfl, hlate] at hcharges
      simp only [if_true, Bool.false_eq_true, if_false, Nat.add_zero] at hcharges
      omega
    · simp [State.approveTaken, State.appendRecord_uplink, State.finishTaken]
    · simp [State.approveTaken, State.appendRecord_uplink, State.finishTaken]
    · simp [State.approveTaken, State.countApproval_offline, State.finishTaken]

/-- A late approval on its check. -/
theorem State.keeps_applyLate (s : State) (i : Fin 64) (amount tip : Nat) :
    Keeps s (s.applyLate i amount tip) := by
  have hmod : Keeps s (s.modCheck i fun c => c.approve amount tip) :=
    s.keeps_mod i fun _ => ⟨rfl, rfl, rfl⟩
  unfold State.applyLate
  dsimp only
  (repeat' split)
  · exact hmod.trans (State.keeps_enterConflict _ i _)
  · exact hmod.trans (State.keeps_afterAmounts _ i)
  · exact hmod

theorem State.applyLate_ring (s : State) (i : Fin 64) (amount tip : Nat) :
    (s.applyLate i amount tip).ring = s.ring ∨ (s.applyLate i amount tip).ring =
      s.ring.cancelledOn i := by
  unfold State.applyLate
  dsimp only
  (repeat' split)
  · exact .inr (by simp [State.enterConflict, State.cancelPosted_ring])
  · exact .inl (by simp)
  · exact .inl (by simp)

theorem State.applyLate_frame (s : State) (i : Fin 64) (amount tip : Nat) :
    (s.applyLate i amount tip).uplink = s.uplink ∧
      (s.applyLate i amount tip).offline = s.offline := by
  have h := s.applyLate_same i amount tip
  obtain ⟨-, -, -, -, -, -, -, -, ho, -, -, hu, -⟩ := h
  exact ⟨hu (by simp), ho (by simp)⟩

/-- A late approval's ring: the window without its entry, and descriptors cancelled where it takes its
check into CONFLICT. -/
theorem FiguresKept.of_late {s t : State} {e : LateEntry} {r : UplinkRecord} {w : ResultWire}
    (he : e ∈ s.ring.late)
    (hring : t.ring = (s.dropLate e).ring ∨ t.ring = (s.dropLate e).ring.cancelledOn e.index)
    (hordered : (s.dropLate e).ring.Ordered → t.ring.Ordered)
    (hu : t.uplink.records = s.uplink.records ++ [r]) (hw : t.uplink.window = s.uplink.window)
    (hr : r.sent = false)
    (hamount : r.offlineAmount = if w.isOffline then some w.amount.toNat else none)
    (ho : t.offline = if w.isOffline then { s.offline with
      exposure := s.offline.exposure + w.amount.toNat, count := s.offline.count + 1 } else s.offline)
    (hadmits : w.isOffline = true → s.offlineAdmits w.amount.toNat = true) : FiguresKept s t := by
  have hcharges : (s.dropLate e).ring.charges + 1 = s.ring.charges := by
    have hpos := List.length_pos_of_mem he
    simp only [State.dropLate, State.setRing_ring, TenderRing.charges, List.length_erase_of_mem he]
    omega
  refine .of_approval (w := w) (fun hs => hordered ((s.keeps_dropLate e).figures.ring hs))
    (fun hs => ?_) (fun _ => ?_) hu hw hr hamount ho hadmits
  · have hdropped : (s.dropLate e).ring.CashFinished := hs
    obtain hring | hring := hring <;> rw [hring]
    · exact hdropped
    · exact hdropped.cancelledOn e.index
  · obtain hring | hring := hring <;> rw [hring]
    · exact Nat.le_of_eq hcharges
    · have := (s.dropLate e).ring.charges_cancelledOn e.index
      omega

theorem State.mild_approveLate {s : State} {e : LateEntry} {w : ResultWire}
    (he : e ∈ s.ring.late)
    (hadmits : w.isOffline = true → s.offlineAdmits w.amount.toNat = true) :
    Mild s (s.approveLate e w) := by
  have hdrop := s.keeps_dropLate e
  unfold State.approveLate
  dsimp only
  split
  · refine ⟨hdrop.toTame.trans ((State.tame_appendRecord _ _ _ _).trans
      ((State.keeps_applyLate _ _ _ _).toTame.trans ((State.tame_countApproval _ w true).trans
        (State.keeps_raise _ _ _).toTame))), ?_⟩
    obtain ⟨hu, ho⟩ := State.applyLate_frame ((s.dropLate e).appendRecord (some e.index) e.key
      (settlementOf w e.serial true false)) e.index w.amount.toNat w.tip.toNat
    have hring := State.applyLate_ring ((s.dropLate e).appendRecord (some e.index) e.key
      (settlementOf w e.serial true false)) e.index w.amount.toNat w.tip.toNat
    refine .of_late (w := w) (r := ⟨s.uplink.nextSeq, false, some e.index, e.key,
      settlementOf w e.serial true false⟩) he (by simpa using hring) (fun hs => ?_) ?_ ?_ rfl rfl ?_
        hadmits
    · simpa using (State.keeps_applyLate _ _ _ _).figures.ring (s := (s.dropLate e).appendRecord
        (some e.index) e.key (settlementOf w e.serial true false)) (by simpa using hs)
    · simp [hu, State.appendRecord_uplink]
    · simp [hu, State.appendRecord_uplink]
    · simp [State.countApproval_offline, ho]
  · refine ⟨hdrop.toTame.trans ((State.tame_appendRecord _ _ _ _).trans
      ((State.tame_countApproval _ w true).trans (State.keeps_raise _ _ _).toTame)), ?_⟩
    refine .of_late (w := w) (r := ⟨s.uplink.nextSeq, false, none, e.key,
      settlementOf w e.serial true true⟩) he (.inl (by simp)) (fun hs => by simpa using hs) ?_ ?_
        rfl rfl ?_ hadmits
    · simp [State.appendRecord_uplink]
    · simp [State.appendRecord_uplink]
    · simp [State.countApproval_offline]

theorem resultApprovedRule_mild (serial : Half) (outcome : Byte) (w : ResultWire) (s : State) :
    Mild s (resultApprovedRule serial outcome w s).state := by
  refine State.tested_keeps (.refl s) fun _ => ?_
  split
  · exact .refl s
  · next g hg =>
    refine State.tested_keeps (.refl s) fun h => ?_
    have hlimit := h (!w.isOffline || s.offlineAdmits w.amount.toNat, .limit) (by simp)
    have hadmits : w.isOffline = true → s.offlineAdmits w.amount.toNat = true := fun hoff => by
      simpa [hoff] using hlimit
    obtain ⟨k, t, rfl, htaken⟩ | ⟨e, he, rfl⟩ := State.resultTarget_cases hg
    · exact State.mild_approveTaken htaken hadmits
    · exact State.mild_approveLate he hadmits

/-! ### The queue -/

/-- The queue changes in its numbers, its mark or its lamp alone. -/
theorem State.keeps_setUplink {s : State} {u : UplinkQueue}
    (hr : u.records = s.uplink.records) (hw : u.window = s.uplink.window) :
    Keeps s (s.setUplink u) where
  modes := rfl
  table := .of_eq rfl
  figures := ⟨id, State.sentFirst_congr hr hw, State.commitmentsBounded_congr hr rfl,
    State.exposureAgrees_congr hr rfl⟩
  masks := State.masksInRange_congr rfl
  images _ := rfl

theorem markRule_keeps (s : State) : Keeps s (markRule s).state := by
  unfold markRule
  split
  · exact State.keeps_setUplink (by rfl) (by rfl)
  · exact (State.keeps_setUplink (by rfl) (by rfl)).trans (State.keeps_raise _ _ _)

theorem sendFirst_length (l : List UplinkRecord) : (sendFirst l).length = l.length := by
  induction l with
  | nil => rfl
  | cons r rest ih =>
    unfold sendFirst
    split <;> simp [ih]

theorem sendFirst_offlineAmounts (l : List UplinkRecord) :
    (sendFirst l).filterMap UplinkRecord.offlineAmount =
      l.filterMap UplinkRecord.offlineAmount := by
  induction l with
  | nil => rfl
  | cons r rest ih =>
    unfold sendFirst
    split
    · simp only [List.filterMap_cons, ih]
    · rfl

theorem sendFirst_countP (l : List UplinkRecord) :
    (sendFirst l).countP UplinkRecord.sent ≤ l.countP UplinkRecord.sent + 1 := by
  induction l with
  | nil => exact Nat.zero_le _
  | cons r rest ih =>
    unfold sendFirst
    split
    · next h =>
      simp only [List.countP_cons, h, if_true]
      omega
    · next h => simp [h]

theorem SentHead.sendFirst {l : List UplinkRecord} (h : SentHead l) : SentHead (sendFirst l) := by
  induction l with
  | nil => exact h
  | cons r rest ih =>
    obtain ⟨-, hrest⟩ := List.pairwise_cons.1 h
    unfold Sys2Proof.Machine.sendFirst
    split
    · next hr => exact List.pairwise_cons.2 ⟨fun _ _ _ => hr, ih hrest⟩
    · exact List.pairwise_cons.2 ⟨fun _ _ _ => rfl, hrest⟩

theorem State.keeps_sendFirst {s : State} (h : s.sentCount < s.uplink.window) :
    Keeps s (s.setUplink { s.uplink with records := sendFirst s.uplink.records }) := by
  refine ⟨⟨⟨rfl, .of_eq rfl, State.masksInRange_congr rfl⟩,
    ⟨id, fun hs => ?_, fun hs => ?_, fun hs => ?_⟩⟩, fun _ => rfl⟩
  · rw [State.sentFirst_iff] at hs ⊢
    rw [State.sentCount, ← List.countP_eq_length_filter] at h
    obtain ⟨hw, -, hhead⟩ := hs
    have := sendFirst_countP s.uplink.records
    refine ⟨hw, ?_, hhead.sendFirst⟩
    simp only [State.setUplink_uplink]
    omega
  · rw [State.commitmentsBounded_iff] at hs ⊢
    simpa [sendFirst_length] using hs
  · have hamounts := sendFirst_offlineAmounts s.uplink.records
    simp only [State.ExposureAgrees, State.offlineAmounts] at hs ⊢
    simpa [hamounts] using hs

theorem uplinkNextRule_keeps (s : State) : Keeps s (uplinkNextRule s).state := by
  refine State.tested_keeps (.refl s) fun h => ?_
  have hwindow : s.sentCount < s.uplink.window := by
    simpa using h (decide (s.sentCount < s.uplink.window), .windowFull) (by simp [State.nextTests])
  split
  · exact .refl s
  · dsimp only [State.accept]
    exact (State.keeps_sendFirst hwindow).trans (State.keeps_scheduleDeltas _)

/-! ### Acknowledgements -/

theorem ackSplit_sublist {seq : Nat} {l gone kept : List UplinkRecord}
    (h : ackSplit seq l = some (gone, kept)) : kept.Sublist l ∧ (gone ++ kept).Perm l := by
  induction l generalizing gone kept with
  | nil => cases h
  | cons r rest ih =>
    unfold ackSplit at h
    split at h
    · cases h
      exact ⟨List.sublist_cons_self r rest, .refl _⟩
    · split at h
      · cases h
      · next g k hrest =>
        obtain ⟨hsub, hperm⟩ := ih hrest
        split at h
        · cases h
          exact ⟨hsub.cons r, hperm.cons r⟩
        · cases h
          exact ⟨hsub.cons_cons r, List.perm_middle.trans (hperm.cons r)⟩

theorem State.settleRecord_offline (s : State) (r : UplinkRecord) :
    (s.settleRecord r).offline = match r.offlineAmount with
      | some a => { s.offline with exposure := s.offline.exposure - a, count := s.offline.count - 1 }
      | none => s.offline := by
  unfold State.settleRecord
  cases r.index <;> cases r.offlineAmount <;> simp

/-- The offline figures after the records of a list are removed (R111). -/
theorem State.foldl_settleRecord_offline (gone : List UplinkRecord) (s : State) :
    (gone.foldl State.settleRecord s).offline = { s.offline with
      exposure := s.offline.exposure - (gone.filterMap UplinkRecord.offlineAmount).sum
      count := s.offline.count - (gone.filterMap UplinkRecord.offlineAmount).length } := by
  induction gone generalizing s with
  | nil => rfl
  | cons r rest ih =>
    rw [List.foldl_cons, ih, State.settleRecord_offline]
    cases h : r.offlineAmount with
    | none => simp [h]
    | some a =>
      simp only [List.filterMap_cons, h, List.sum_cons, List.length_cons]
      congr 1 <;> omega

theorem State.tame_settleRecord (s : State) (r : UplinkRecord) : Tame s (s.settleRecord r) := by
  have hcount : Tame s (match r.index with
      | some i => s.uncount i
      | none => s) := by
    split
    · exact (s.keeps_uncount _).toTame
    · exact (Keeps.refl s).toTame
  have hoffline (u : State) (v : OfflineUnit) : Tame u (u.setOffline v) :=
    ⟨rfl, .of_eq rfl, State.masksInRange_congr rfl⟩
  unfold State.settleRecord
  dsimp only
  (repeat' split) <;> simp only [*] at hcount
  · exact hcount.trans (hoffline _ _)
  · exact hcount.trans (hoffline _ _)
  · exact hcount
  · exact hcount

theorem State.mild_settle {s : State} {seq : Nat} {gone kept : List UplinkRecord}
    (h : ackSplit seq s.uplink.records = some (gone, kept)) :
    Mild s (gone.foldl State.settleRecord (s.setUplink { s.uplink with records := kept })) := by
  obtain ⟨hsub, hperm⟩ := ackSplit_sublist h
  have hqueue : Tame s (s.setUplink { s.uplink with records := kept }) :=
    ⟨rfl, .of_eq rfl, State.masksInRange_congr rfl⟩
  have hsame := SameBut.foldl _ State.settleRecord_same
    (s.setUplink { s.uplink with records := kept }) gone
  obtain ⟨-, -, -, -, -, -, -, hring, -, -, -, hu, -⟩ := hsame
  replace hring := hring (by simp)
  replace hu := hu (by simp)
  have ho := State.foldl_settleRecord_offline gone (s.setUplink { s.uplink with records := kept })
  refine ⟨foldl_preserves _ (Tame s) (fun b a hb => hb.trans (b.tame_settleRecord a)) _ gone hqueue,
    ?_, fun hs => ?_, fun hs => ?_, fun hs => ?_⟩
  · rw [hring]
    exact id
  · rw [State.sentFirst_iff] at hs ⊢
    rw [hu]
    exact ⟨hs.1, Nat.le_trans hsub.countP_le hs.2.1, hs.2.2.sublist hsub⟩
  · rw [State.commitmentsBounded_iff] at hs ⊢
    rw [hu, hring]
    have := hsub.length_le
    simp only [State.setUplink_uplink, State.setUplink_ring]
    exact ⟨by omega, hs.2⟩
  · have hamounts := hperm.filterMap UplinkRecord.offlineAmount
    rw [List.filterMap_append] at hamounts
    have hsum := hamounts.sum_eq
    have hlen := hamounts.length_eq
    rw [List.sum_append] at hsum
    rw [List.length_append] at hlen
    simp only [State.ExposureAgrees, State.offlineAmounts] at hs ⊢
    rw [hu, ho]
    simp only [State.setUplink_uplink, State.setUplink_offline]
    omega

theorem State.keeps_freeIfDone (s : State) (i : Fin 64) : Keeps s (s.freeIfDone i) := by
  unfold State.freeIfDone
  (repeat' split)
  · exact s.keeps_freeEntry i
  all_goals exact .refl s

theorem State.keeps_retryNamed (gone : List UplinkRecord) (s : State) (i : Fin 64) :
    Keeps s (State.retryNamed gone s i) := by
  unfold State.retryNamed
  split
  · exact s.keeps_tryPending i
  · exact .refl s

theorem State.keeps_deliver (s : State) (gone : List UplinkRecord) : Keeps s (s.deliver gone) := by
  unfold State.deliver
  (repeat' split)
  · exact (State.keeps_setUplink (by rfl) (by rfl)).trans (State.keeps_raise _ _ _)
  all_goals exact .refl s

theorem State.keeps_readyAgain (s : State) : Keeps s s.readyAgain := by
  unfold State.readyAgain
  split
  · exact s.keeps_raise _ _
  · exact .refl s

theorem State.keeps_afterAck (s : State) (gone : List UplinkRecord) : Keeps s (s.afterAck gone) := by
  unfold State.afterAck
  dsimp only
  refine Keeps.trans ?_ (State.keeps_readyAgain _)
  refine Keeps.trans ?_ (State.keeps_deliver _ gone)
  refine Keeps.trans ?_ (State.keeps_scheduleDeltas _)
  exact (Keeps.foldl _ State.keeps_freeIfDone s allIdx).trans
    (Keeps.foldl _ (State.keeps_retryNamed gone) _ allIdx)

theorem uplinkAckRule_mild (seq : Half) (s : State) : Mild s (uplinkAckRule seq s).state := by
  refine State.tested_keeps (.refl s) fun _ => ?_
  split
  · exact .refl s
  · next h =>
    dsimp only [State.accept]
    exact (State.mild_settle h).trans (State.keeps_afterAck _ _).toMild

end Sys2Proof.Machine
end

section
/-!
SUPPORT. What the remaining rules, and with them every step, keep of the simpler laws.
-/

namespace Sys2Proof.Machine

/-! ### The laws over a step -/

/-- The simpler laws go over from one state to another. -/
structure LawsKept (s t : State) : Prop where
  keys : s.KeysDistinct → t.KeysDistinct
  scopes : s.ScopesAgree → t.ScopesAgree
  cursor : s.CursorInRange → t.CursorInRange
  figures : FiguresKept s t
  masks : s.MasksInRange → t.MasksInRange

theorem LawsKept.trans {s t w : State} (h : LawsKept s t) (k : LawsKept t w) : LawsKept s w where
  keys hs := k.keys (h.keys hs)
  scopes hs := k.scopes (h.scopes hs)
  cursor hs := k.cursor (h.cursor hs)
  figures := h.figures.trans k.figures
  masks hs := k.masks (h.masks hs)

theorem TableKept.allFree {terminal : Option Nat} {s t : State} (h : TableKept terminal s t)
    (hs : s.allFree = true) : t.allFree = true := by
  rw [State.allFree_iff] at hs ⊢
  intro i
  cases ht : t.check i with
  | none => rfl
  | some d =>
    obtain ⟨c, hc, -⟩ := h.entries i d ht
    rw [hs i] at hc
    cases hc

theorem TableKept.keysDistinct {terminal : Option Nat} {s t : State} (h : TableKept terminal s t)
    (hs : s.KeysDistinct) : t.KeysDistinct := by
  intro i j c' hc' d' hd' hkey
  obtain ⟨c, hc, hck, -⟩ := h.entries i c' hc'
  obtain ⟨d, hd, hdk, -⟩ := h.entries j d' hd'
  exact hs i j c hc d hd (hck.symm.trans (hkey.trans hdk))

theorem TableKept.scopes {terminal : Option Nat} {s t : State} (h : TableKept terminal s t)
    (hs : ∀ i : Fin 64, ∀ c ∈ s.check i, (c.scope = .owned ↔ terminal = some c.owner)) :
    ∀ i : Fin 64, ∀ c ∈ t.check i, (c.scope = .owned ↔ terminal = some c.owner) := by
  intro i d hd
  obtain ⟨c, hc, -, ⟨hscope, howner⟩ | hnew⟩ := h.entries i d hd
  · rw [hscope, howner]
    exact hs i c hc
  · exact hnew

theorem Mild.lawsKept {s t : State} (h : Mild s t) : LawsKept s t where
  keys := h.table.keysDistinct
  scopes hs := by
    obtain ⟨hfree, hid, hscopes⟩ := hs
    refine ⟨fun hstep => h.table.allFree (hfree (h.modes ▸ hstep)), ?_, ?_⟩
    · rw [h.modes]
      exact hid
    · rw [h.modes]
      exact h.table.scopes hscopes
  cursor := h.table.cursor
  figures := h.figures
  masks := h.masks

theorem LawsKept.refl (s : State) : LawsKept s s := (Mild.refl s).lawsKept

/-! ### New checks and new keys -/

/-- A check is placed under a key that no entry carries, with the scope of its owner. -/
theorem LawsKept.place {s u : State} (h : Mild s u) (i : Fin 64) {d : Check}
    (hstep : s.modes.step = .ready) (hkey : ∀ j c, s.check j = some c → c.key ≠ d.key)
    (hscope : s.modes.terminalId.isSome = true →
      (d.scope = .owned ↔ s.modes.terminalId = some d.owner)) :
    LawsKept s (u.putCheck i (some d)) := by
  have hentry (j : Fin 64) (c : Check) (hc : (u.putCheck i (some d)).check j = some c) :
      (j = i ∧ c = d) ∨ u.check j = some c := by
    rw [State.check_putCheck] at hc
    split at hc
    · next hj => exact .inl ⟨hj, (Option.some.inj hc).symm⟩
    · exact .inr hc
  have hother (j : Fin 64) (c : Check) (hc : u.check j = some c) : c.key ≠ d.key := by
    obtain ⟨b, hb, hbk, -⟩ := h.table.entries j c hc
    exact hbk ▸ hkey j b hb
  refine ⟨fun hs => ?_, fun hs => ?_, fun hs => h.table.cursor hs,
    h.figures.trans (.of_eq (by simp) (by simp) (by simp)), fun hs => h.masks hs⟩
  · intro j k b hb c hc hbc
    obtain ⟨hj, rfl⟩ | hb' := hentry j b hb <;> obtain ⟨hk, rfl⟩ | hc' := hentry k c hc
    · rw [hj, hk]
    · exact absurd hbc.symm (hother k c hc')
    · exact absurd hbc (hother j b hb')
    · exact h.table.keysDistinct hs j k b hb' c hc' hbc
  · obtain ⟨-, hid, hscopes⟩ := hs
    have hnew := hscope (hid (by simp [hstep]))
    have hmodes : (u.putCheck i (some d)).modes = s.modes := by simp [h.modes]
    refine ⟨fun hone => ?_, ?_, fun j c hc => ?_⟩
    · rw [hmodes, hstep] at hone
      cases hone
    · rw [hmodes]
      exact hid
    · rw [hmodes]
      obtain ⟨-, rfl⟩ | hc' := hentry j c hc
      · exact hnew
      · exact h.table.scopes hscopes j c hc'

/-- The check of an entry takes a key that no other entry carries. -/
theorem LawsKept.rekey {s : State} {i : Fin 64} {c d : Check} (hc : s.check i = some c)
    (hscope : d.scope = c.scope) (howner : d.owner = c.owner)
    (hkey : ∀ j, j ≠ i → ∀ b, s.check j = some b → b.key ≠ d.key) :
    LawsKept s (s.putCheck i (some d)) := by
  have hentry (j : Fin 64) (b : Check) (hb : (s.putCheck i (some d)).check j = some b) :
      (j = i ∧ b = d) ∨ (j ≠ i ∧ s.check j = some b) := by
    rw [State.check_putCheck] at hb
    split at hb
    · next hj => exact .inl ⟨hj, (Option.some.inj hb).symm⟩
    · next hj => exact .inr ⟨hj, hb⟩
  refine ⟨fun hs => ?_, fun hs => ?_, fun hs => hs, .of_eq (by simp) (by simp) (by simp),
    fun hs => hs⟩
  · intro j k a ha b hb hab
    obtain ⟨hj, rfl⟩ | ⟨hj, ha'⟩ := hentry j a ha <;>
      obtain ⟨hk, rfl⟩ | ⟨hk, hb'⟩ := hentry k b hb
    · rw [hj, hk]
    · exact absurd hab.symm (hkey k hk b hb')
    · exact absurd hab (hkey j hj a ha')
    · exact hs j k a ha' b hb' hab
  · obtain ⟨hfree, hid, hscopes⟩ := hs
    refine ⟨fun hone => ?_, hid, fun j b hb => ?_⟩
    · have := (s.allFree_iff).1 (hfree hone) i
      rw [hc] at this
      cases this
    · obtain ⟨-, rfl⟩ | ⟨-, hb⟩ := hentry j b hb
      · rw [hscope, howner]
        exact hscopes i c hc
      · exact hscopes j b hb

theorem State.keyUnused_iff (s : State) (k : Option Key) (but : Option (Fin 64)) :
    s.keyUnused k but = true ↔ ∀ j, some j ≠ but → ∀ d, s.check j = some d → k ≠ some d.key := by
  simp only [State.keyUnused, List.all_eq_true, mem_allIdx, forall_const, Bool.or_eq_true,
    decide_eq_true_eq]
  refine forall_congr' fun j => ?_
  cases s.check j <;> simp [or_iff_not_imp_left]

/-- A request that is not for bring-up is admitted in READY alone. -/
theorem State.ready_of_admission {u : State} {q : Req} (h : u.admission q = none)
    (halways : alwaysAdmitted q = false) (hconfig : configStepOf q = none) :
    u.modes.step = .ready := by
  by_cases hmode : u.modes.mode = .sleep
  · simp [State.admission_of_sleep hmode] at h
  · by_contra hstep
    simp [State.admission_of_other hmode hstep halways hconfig] at h

theorem State.awake_of_admission {u : State} {q : Req} (h : u.admission q = none) :
    u.modes.mode ≠ .sleep := fun hmode => by
  simp [State.admission_of_sleep hmode] at h

/-- COMMIT's check keeps scope and owner, and takes the staged key. -/
theorem Check.takeHeader_face (c : Check) (r : StagingRecord) :
    (c.takeHeader r).scope = c.scope ∧ (c.takeHeader r).owner = c.owner ∧
      (c.takeHeader r).key = r.key.getD c.key := by
  unfold Check.takeHeader
  dsimp only
  split
  · next h => exact ⟨rfl, rfl, (congrArg Check.key h).symm⟩
  · exact ⟨rfl, rfl, rfl⟩

theorem State.mild_setPrimary (s : State) (r : StagingRecord) : Mild s (s.setPrimary r) :=
  .of_same (touched := [.staging]) (by simp [SameBut, State.setPrimary]) (by simp)

theorem commitRule_lawsKept (s : State) : LawsKept s (commitRule s).state := by
  unfold commitRule State.commitTo
  dsimp only
  split
  · next i hvalid htarget =>
    split
    · exact .refl s
    · next c hc =>
      refine State.tested_keeps (.refl s) fun h => ?_
      have hunused := h (s.keyUnused s.staging.primary.key (some i), .duplicateKey)
        (by simp [State.commitTests])
      have hranges := h (s.staging.primary.rangesOk && c.liveItems.all (fun it =>
        decide (it.seat ≤ s.staging.primary.seats)), .badField) (by simp [State.commitTests])
      simp only [StagingRecord.rangesOk, Bool.and_eq_true] at hranges
      obtain ⟨k, hk⟩ := Option.isSome_iff_exists.1 hranges.1.1
      obtain ⟨hscope, howner, hkey⟩ := c.takeHeader_face s.staging.primary
      have hput := LawsKept.rekey hc hscope howner fun j hj b hb hbk => by
        refine (s.keyUnused_iff _ _).1 hunused j (by simpa using hj) b hb ?_
        rw [hbk, hkey, hk]
        rfl
      dsimp only [State.accept]
      refine hput.trans (LawsKept.trans ?_ ((State.keeps_restartLease _ i).toMild.trans
        (State.mild_setPrimary _ _)).lawsKept)
      split
      · exact .refl _
      · exact (State.keeps_abortReads _ i _).toMild.lawsKept
  · exact .refl s

theorem commitNewRule_lawsKept {s : State} (hstep : s.modes.step = .ready) :
    LawsKept s (commitNewRule s).state := by
  refine State.tested_keeps (.refl s) fun h => ?_
  split
  · next k i u hk hallocate =>
    have hunused := h (s.keyUnused s.staging.primary.key none, .duplicateKey)
      (by simp [State.commitNewTests])
    have hplaced := LawsKept.place (State.keeps_allocate hallocate).toMild i
      (d := newCheck k s.staging.primary.covers s.staging.primary.seats
        (s.modes.terminalId.getD 0)) hstep
      (fun j b hb hbk => (s.keyUnused_iff _ _).1 hunused j (by simp) b hb (by rw [hk, hbk]; rfl))
      (fun hid => by
        obtain ⟨n, hn⟩ := Option.isSome_iff_exists.1 hid
        simp [newCheck, hn])
    dsimp only [State.accept]
    exact hplaced.trans ((State.keeps_grantHold _ .console i).toMild.trans
      (State.mild_setPrimary _ _)).lawsKept
  · exact .refl s

/-! ### Images and retirements -/

theorem State.findKey_eq_none {s : State} {k : Key} (h : s.findKey k = none) :
    ∀ j c, s.check j = some c → c.key ≠ k := by
  intro j c hc hk
  have := List.find?_eq_none.1 h j (mem_allIdx j)
  simp [hc, hk] at this

theorem State.findKey_eq_some {s : State} {k : Key} {i : Fin 64} (h : s.findKey k = some i) :
    ∃ c, s.check i = some c ∧ c.key = k := by
  have := List.find?_some h
  cases hc : s.check i with
  | none => simp [hc] at this
  | some c => exact ⟨c, rfl, by simpa [hc] using this⟩

theorem State.keeps_takeAssembly (s : State) : Keeps s s.takeAssembly := s.keeps_setFloor _

theorem State.keeps_endImageAt (s : State) (a : Assembly) (i : Fin 64) (c : Check) :
    Keeps s (s.endImageAt a i c).state := by
  unfold State.endImageAt
  split
  · exact s.keeps_discardAssembly
  · split
    · exact s.keeps_discardAssembly
    · exact s.keeps_takeAssembly.trans (State.keeps_deferImage _ i _)
    · exact (s.keeps_discardOlder i _).trans
        ((State.keeps_discardAssembly _).trans (State.keeps_setServer _ i _))
    · exact s.keeps_takeAssembly.trans (State.keeps_applyImage _ i _ _ _ _ _)

theorem State.placeImage_lawsKept {s : State} (hstep : s.modes.step = .ready) {a : Assembly}
    (hkey : ∀ j c, s.check j = some c → c.key ≠ a.key) : LawsKept s (s.placeImage a).state := by
  unfold State.placeImage
  split
  · exact s.keeps_discardAssembly.toMild.lawsKept
  · next i u hallocate =>
    dsimp only [State.accept]
    refine LawsKept.trans (LawsKept.place ((State.keeps_allocate hallocate).trans
      u.keeps_takeAssembly).toMild i hstep (fun j b hb => hkey j b hb) fun _ => ?_)
      (State.keeps_raise _ _ _).toMild.lawsKept
    exact s.scopeOf_iff a.owner

theorem imageEndRule_lawsKept {s : State} (hstep : s.modes.step = .ready) :
    LawsKept s (imageEndRule s).state := by
  unfold imageEndRule
  split
  · exact .refl s
  · next a _ =>
    refine State.tested_keeps (.refl s) fun _ => ?_
    refine LawsKept.trans (t := (s.endImage a).state) ?_ (State.mild_setChannel _ .link .idle).lawsKept
    unfold State.endImage
    split
    · next hnone => exact State.placeImage_lawsKept hstep (State.findKey_eq_none hnone)
    · next i hfound =>
      obtain ⟨c, hc, -⟩ := State.findKey_eq_some hfound
      rw [hc]
      exact (s.keeps_endImageAt a i c).toMild.lawsKept

theorem retireRule_keeps (key server : Half) (s : State) :
    Keeps s (retireRule key server s).state := by
  refine State.tested_keeps (.refl s) fun _ => ?_
  split
  · exact .refl s
  · next i _ =>
    split
    · next c _ =>
      unfold State.retireAt
      split
      · exact .refl s
      · split
        · exact (s.keeps_setServer i _).trans (State.keeps_discardOlder _ i _)
        · split
          · exact s.keeps_deferImage i _
          · exact s.keeps_applyRetire i _
    · exact .refl s

theorem linkUpRule_keeps (value : Byte) (s : State) : Keeps s (linkUpRule value s).state := by
  refine State.tested_keeps (.refl s) fun _ => ?_
  split
  · exact .refl s
  · dsimp only [State.accept]
    refine (s.keeps_setFloor { s.floor with link := .up }).trans ?_
    split
    · exact State.keeps_raise _ _ _
    · exact .refl _

theorem linkDownRule_mild (s : State) : Mild s (linkDownRule s).state := by
  unfold linkDownRule
  split
  · exact .refl s
  · refine s.keeps_loseLink.toMild.trans (Mild.trans ?_ (State.keeps_discardAssembly _).toMild)
    unfold State.abortImage
    split
    · split
      · exact State.mild_failStream _ _ _ _
      · exact .refl _
    · exact .refl _

/-! ### Ports -/

theorem attnClearRule_mild (p : Port) (mask : Half) (s : State) :
    Mild s (attnClearRule p mask s).state :=
  State.tested_keeps (.refl s) fun _ =>
    ⟨⟨rfl, .of_eq rfl, fun h => State.masksInRange_lower h p mask⟩, .of_eq rfl rfl rfl⟩

theorem State.masksInRange_setEnables {s : State} (h : s.MasksInRange) {p : Port} {mask : Half}
    (hmask : maskOk p mask = true) :
    (s.setAttn { s.attn with enables := s.attn.enables.set p mask }).MasksInRange := by
  rw [State.masksInRange_iff] at h ⊢
  refine fun q => ⟨(h q).1, ?_⟩
  simp only [State.setAttn_attn, PerPort.get_set]
  split
  · next hq => exact hq ▸ hmask
  · exact (h q).2

theorem attnEnableRule_mild (p : Port) (mask : Half) (s : State) :
    Mild s (attnEnableRule p mask s).state :=
  State.tested_keeps (.refl s) fun h =>
    ⟨⟨rfl, .of_eq rfl, fun hs => State.masksInRange_setEnables hs
      (h (maskOk p mask, .badField) (by simp))⟩, .of_eq rfl rfl rfl⟩

theorem State.mild_setTotals (s : State) (v : ShiftTotals) : Mild s (s.setTotals v) :=
  .of_same (touched := [.totals]) (by simp [SameBut]) (by simp)

theorem State.mild_resetShare (s : State) (p : Port) : Mild s (s.resetShare p) := by
  cases p with
  | console =>
    have hstaging : Mild s (s.setStaging ⟨.invalid, .invalid⟩) :=
      .of_same (touched := [.staging]) (by simp [SameBut]) (by simp)
    have huplink : Mild _ ((s.setStaging ⟨.invalid, .invalid⟩).setUplink
      { s.uplink with mark := none }) := (State.keeps_setUplink (by rfl) (by rfl)).toMild
    exact (hstaging.trans huplink).trans (State.mild_setTotals _ _)
  | tender => exact (s.keeps_timeOutTaken false).toMild
  | link => exact (s.keeps_discardAssembly.trans (State.keeps_loseLink _)).toMild

theorem State.masksInRange_clear {s : State} (h : s.MasksInRange) (p : Port) :
    (s.setAttn ⟨s.attn.flags.set p 0, s.attn.enables.set p 0⟩).MasksInRange := by
  rw [State.masksInRange_iff] at h ⊢
  intro q
  have hzero : maskOk q 0 = true := by cases q <;> decide
  simp only [State.setAttn_attn, PerPort.get_set]
  split
  · exact ⟨hzero, hzero⟩
  · exact h q

/-- A port's attention word and its enables are cleared. -/
theorem State.mild_clearAttn (s : State) (p : Port) :
    Mild s (s.setAttn ⟨s.attn.flags.set p 0, s.attn.enables.set p 0⟩) :=
  ⟨⟨rfl, .of_eq rfl, fun h => State.masksInRange_clear h p⟩, .of_eq rfl rfl rfl⟩

theorem portResetRule_mild (p : Port) (s : State) : Mild s (portResetRule p s).state := by
  unfold portResetRule
  dsimp only [State.accept]
  exact (s.mild_closeChannel p).trans ((State.mild_resetShare _ p).trans
    ((State.keeps_releaseAll _ p).toMild.trans (State.mild_clearAttn _ p)))

/-! ### Configuration and power -/

/-- The modes change, but neither the terminal's id nor whether it has one. -/
theorem LawsKept.of_modes {s t : State} (htable : t.table = s.table)
    (hid : t.modes.terminalId = s.modes.terminalId)
    (hstep : t.modes.step = .step1 ↔ s.modes.step = .step1) (figures : FiguresKept s t)
    (masks : s.MasksInRange → t.MasksInRange) : LawsKept s t where
  keys := (TableKept.of_eq (terminal := none) htable).keysDistinct
  scopes hs := by
    obtain ⟨hfree, hsome, hscopes⟩ := hs
    have hkept := TableKept.of_eq (terminal := s.modes.terminalId) htable
    refine ⟨fun h => hkept.allFree (hfree (hstep.1 h)), fun h => ?_, ?_⟩
    · rw [hid]
      exact hsome fun hs => h (hstep.2 hs)
    · rw [hid]
      exact hkept.scopes hscopes
  cursor := (TableKept.of_eq (terminal := none) htable).cursor
  figures := figures
  masks := masks

/-- The step of a CONFIG request but the first is not step 1, nor is the one after it. -/
theorem State.step_ne_one {u : State} {q : Req} {n : ConfigStep} (h : u.admission q = none)
    (hq : configStepOf q = some n) (hn : n ≠ .step1) :
    u.modes.step.next = .step1 ↔ u.modes.step = .step1 := by
  obtain hstep | hstep := State.step_of_admission h hq
  · simp [hstep, ConfigStep.next]
  · rw [hstep]
    cases n <;> simp [ConfigStep.next] at hn ⊢

theorem config1Rule_lawsKept (tid pin : Byte) {s : State} (h : s.admission .config1 = none) :
    LawsKept s (config1Rule tid pin s).state := by
  refine State.tested_keeps (.refl s) fun htests => ?_
  have hrange := htests (decide (1 ≤ tid.toNat ∧ tid.toNat ≤ 250 ∧ pin.toNat ≤ 32), .badField)
    (by simp)
  have hvacant := htests (decide (s.modes.step = .ready → s.vacant = true), .busy) (by simp)
  rw [decide_eq_true_eq] at hrange hvacant
  have hclosed : Mild s (if s.modes.step = .ready then s.closeAll else s) := by
    split
    · exact (s.mild_closeChannel _).trans
        ((State.mild_closeChannel _ _).trans (State.mild_closeChannel _ _))
    · exact .refl s
  dsimp only [State.accept]
  refine ⟨hclosed.table.keysDistinct, fun hs => ?_, fun hs => ?_,
    hclosed.figures.trans (.of_eq rfl rfl rfl), hclosed.masks⟩
  · have hfree : s.allFree = true := by
      obtain hstep | hstep := State.step_of_admission h rfl
      · exact s.allFree_iff.2 (s.vacant_iff.1 (hvacant hstep)).1
      · exact hs.1 hstep
    have hnone := (State.allFree_iff _).1 (hclosed.table.allFree hfree)
    refine ⟨fun h => absurd h (by simp), fun _ => rfl, fun i c hc => ?_⟩
    exact absurd ((hnone i).symm.trans hc) (by simp)
  · exact ⟨hrange.2.2, Nat.le_refl _, Nat.le_trans hrange.2.2 (by decide)⟩

theorem config2Rule_lawsKept (tax : Half) (lease : Byte) (timeout : Half) {s : State}
    (h : s.admission .config2 = none) : LawsKept s (config2Rule tax lease timeout s).state :=
  State.tested_keeps (.refl s) fun _ => .of_modes rfl rfl
    (State.step_ne_one h (n := .step2) rfl (by simp)) (.of_eq rfl rfl rfl) fun h => h

theorem config3Rule_lawsKept (single : Tri) (cap : Quad) (count : Byte) {s : State}
    (h : s.admission .config3 = none) : LawsKept s (config3Rule single cap count s).state := by
  unfold config3Rule
  split
  · exact .refl s
  · next hnone =>
    have habove := (firstFailure_eq_none_iff _).1 hnone
      (decide (s.offline.exposure ≤ cap.toNat ∧ s.offline.count ≤ count.toNat), .limit) (by simp)
    rw [decide_eq_true_eq] at habove
    refine .of_modes rfl rfl (State.step_ne_one h (n := .step3) rfl (by simp))
      ⟨id, State.sentFirst_congr rfl rfl, State.commitmentsBounded_congr rfl rfl, fun hs => ?_⟩
      fun h => h
    obtain ⟨hexposure, hcount, -, -⟩ := hs
    exact ⟨hexposure, hcount, habove.1, habove.2⟩

theorem config4Rule_lawsKept (window wakes : Byte) {s : State}
    (h : s.admission .config4 = none) : LawsKept s (config4Rule window wakes s).state := by
  refine State.tested_keeps (.refl s) fun htests => ?_
  have hrange := htests (decide (1 ≤ window.toNat ∧ window.toNat ≤ 8 ∧ wakes.toNat < 8), .badField)
    (by simp)
  rw [decide_eq_true_eq] at hrange
  dsimp only [State.accept]
  refine LawsKept.trans (t := (s.setUplink { s.uplink with window := window.toNat }).setModes
    { s.modes with wakeEnable := wakeEnables wakes, step := s.modes.step.next }) ?_ ?_
  · refine .of_modes rfl rfl (State.step_ne_one h (n := .step4) rfl (by simp))
      ⟨id, fun hs => ?_, State.commitmentsBounded_congr rfl rfl, State.exposureAgrees_congr rfl rfl⟩
      fun h => h
    rw [State.sentFirst_iff] at hs ⊢
    exact ⟨⟨hrange.1, hrange.2.1⟩, hs.2⟩
  · split
    · exact (State.keeps_raise _ _ _).toMild.lawsKept
    · exact .refl _

theorem State.setMode_lawsKept (s : State) (m : Mode) : LawsKept s (s.setMode m) :=
  .of_modes rfl rfl Iff.rfl (.of_eq rfl rfl rfl) fun h => h

/-! ### Every rule -/

/-- Every rule that is reached keeps the simpler laws. -/
theorem rule_lawsKept {c : Instr} {r : Served} (h : requestOf c = some r) {s : State}
    (ha : s.admission r.req = none) : LawsKept s (r.rule s).state := by
  have hsame := rule_same h s
  cases c <;> simp only [requestOf, Option.some.injEq, reduceCtorEq] at h <;> subst h
  case commit => exact commitRule_lawsKept s
  case commitNew => exact commitNewRule_lawsKept (State.ready_of_admission ha rfl rfl)
  case imageEnd => exact imageEndRule_lawsKept (State.ready_of_admission ha rfl rfl)
  case config1 => exact config1Rule_lawsKept _ _ ha
  case config2 => exact config2Rule_lawsKept _ _ _ ha
  case config3 => exact config3Rule_lawsKept _ _ _ ha
  case config4 => exact config4Rule_lawsKept _ _ ha
  case powerDoze => exact State.tested_keeps (.refl s) fun _ => s.setMode_lawsKept _
  case powerSleep => exact State.tested_keeps (.refl s) fun _ => s.setMode_lawsKept _
  all_goals refine Mild.lawsKept ?_
  case attnClear => exact attnClearRule_mild _ _ s
  case attnEnable => exact attnEnableRule_mild _ _ s
  case portReset => exact portResetRule_mild _ s
  case checkClose => exact (checkCloseRule_keeps s _ _).toMild
  case resolveKeep => exact (resolveKeepRule_keeps s _ _ _).toMild
  case resolveClose => exact (resolveCloseRule_keeps s _ _).toMild
  case itemAdd => exact (itemAddRule_keeps s _ _ _).toMild
  case itemVoid => exact (itemVoidRule_keeps s _ _ _).toMild
  case splitSet => exact (splitSetRule_keeps s _ _ _ _ _).toMild
  case splitClear => exact (splitClearRule_keeps s _ _).toMild
  case hold => exact (holdRule_keeps s _ _ _).toMild
  case renew => exact (renewRule_keeps s _ _ _).toMild
  case release => exact (releaseRule_keeps s _ _ _).toMild
  case streamNext => exact streamNextRule_mild _ s
  case streamPut => exact streamPutRule_mild _ _ _ s
  case tenderPostCard => exact postCardRule_mild _ _ _ _ s
  case tenderPostCash => exact postCashRule_mild _ _ _ s
  case tenderCancel => exact (tenderCancelRule_keeps _ s).toMild
  case tenderReap => exact (tenderReapRule_keeps s).toMild
  case tenderTake => exact (tenderTakeRule_keeps s).toMild
  case tenderProgress => exact (progressRule_keeps _ _ s).toMild
  case tenderResultApproved => exact resultApprovedRule_mild _ _ _ s
  case tenderResultDeclined => exact (resultDeclinedRule_keeps _ _ s).toMild
  case lateClear => exact (lateClearRule_keeps s).toMild
  case linkStateUp => exact (linkUpRule_keeps _ s).toMild
  case linkStateDown => exact linkDownRule_mild s
  case retire => exact (retireRule_keeps _ _ s).toMild
  case uplinkNext => exact (uplinkNextRule_keeps s).toMild
  case uplinkAck => exact uplinkAckRule_mild _ s
  case mark => exact (markRule_keeps s).toMild
  all_goals exact .of_same hsame (by simp [touchedBy])

/-! ### Every step -/

theorem State.advance_figures (s : State) (dt : Nat) : FiguresKept s (s.advance dt) := by
  obtain ⟨hring, hr, hw, ho⟩ : (∃ timer, (s.advance dt).ring = { s.ring with timer := timer } ∧
      timer.isSome = s.ring.timer.isSome) ∧ (s.advance dt).uplink.records = s.uplink.records ∧
      (s.advance dt).uplink.window = s.uplink.window ∧ (s.advance dt).offline = s.offline := by
    unfold State.advance
    (repeat' split)
    · exact ⟨⟨_, rfl, rfl⟩, rfl, rfl, rfl⟩
    · exact ⟨⟨_, rfl, rfl⟩, rfl, rfl, rfl⟩
    · exact ⟨⟨_, rfl, by simp [runTimer]⟩, rfl, rfl, rfl⟩
  obtain ⟨timer, hring, htimer⟩ := hring
  refine ⟨fun hs => ?_, State.sentFirst_congr hr hw, fun hs => ?_, State.exposureAgrees_congr hr ho⟩
  · rw [hring]
    exact ⟨hs.1, hs.2, hs.3, hs.4, hs.5, hs.6, htimer ▸ hs.7⟩
  · rw [State.commitmentsBounded_iff] at hs ⊢
    rw [hr, hring]
    exact hs

theorem State.advance_table (s : State) (dt : Nat) (terminal : Option Nat) :
    TableKept terminal s (s.advance dt) := by
  by_cases hheld : s.modes.resetHeld = true
  · exact .of_eq (by simp [State.advance, hheld])
  · rw [Bool.not_eq_true] at hheld
    by_cases hmode : s.modes.mode = .sleep
    · exact .of_eq (by rw [State.advance_of_sleep dt hheld hmode, State.setModes_table])
    · refine ⟨fun i d hd => ?_, fun hs => by
        rw [State.advance_of_running dt hheld hmode]
        exact hs⟩
      rw [State.advance_check_of_running dt hheld hmode] at hd
      obtain ⟨c, hc, rfl⟩ := Option.map_eq_some_iff.1 hd
      exact ⟨c, hc, rfl, .inl ⟨rfl, rfl⟩⟩

theorem State.advance_lawsKept (s : State) (dt : Nat) : LawsKept s (s.advance dt) := by
  have hmodes : (s.advance dt).modes.step = s.modes.step ∧
      (s.advance dt).modes.terminalId = s.modes.terminalId := by
    unfold State.advance
    (repeat' split) <;> exact ⟨rfl, rfl⟩
  have htable := s.advance_table dt s.modes.terminalId
  refine ⟨htable.keysDistinct, fun hs => ?_, htable.cursor, s.advance_figures dt,
    State.masksInRange_congr (by simp)⟩
  obtain ⟨hfree, hid, hscopes⟩ := hs
  rw [State.ScopesAgree, hmodes.1, hmodes.2]
  exact ⟨fun h => htable.allFree (hfree h), hid, htable.scopes hscopes⟩

/-- Every block at its initial values satisfies every law. -/
theorem State.initial_lawsKept (s : State) (held : Bool) : LawsKept s (s.initial held) := by
  obtain ⟨hkeys, -, -, hscopes, hcursor, -, -, -, -, hring, hsent, hbound, hexpose, -, -, hmasks,
    -⟩ := lawsHoldAtReset
  exact ⟨fun _ => hkeys, fun _ => hscopes, fun _ => hcursor,
    ⟨fun _ => (State.ringOrdered_iff _).1 hring, fun _ => hsent, fun _ => hbound, fun _ => hexpose⟩,
    fun _ => hmasks⟩

theorem keptByEvents_lawsKept (s : State) : KeptByEvents (LawsKept s) where
  ports t v h := h.trans (Mild.of_same (t := t.setPorts v) (touched := [.ports])
    (by simp [SameBut]) (by simp)).lawsKept
  raise t p c h := h.trans (t.keeps_raise p c).toMild.lawsKept
  lower t p m h := h.trans (Mild.lawsKept
    ⟨⟨rfl, .of_eq rfl, fun h => State.masksInRange_lower h p m⟩, .of_eq rfl rfl rfl⟩)
  lamp t h := h.trans (State.keeps_setUplink (by rfl) (by rfl)).toMild.lawsKept
  wake t _ h := h.trans (t.setMode_lawsKept .active)
  begins t _ h := h.trans (.of_modes rfl rfl Iff.rfl (.of_eq rfl rfl rfl) fun h => h)
  pending t v h := h.trans (Mild.of_same (t := t.setPending v) (touched := [.pending])
    (by simp [SameBut]) (by simp)).lawsKept
  advance t dt h := h.trans (t.advance_lawsKept dt)
  line t high h := h.trans (.of_modes rfl rfl Iff.rfl (.of_eq rfl rfl rfl) fun h => h)
  awake t _ h := h.trans (.of_modes rfl rfl Iff.rfl (.of_eq rfl rfl rfl) fun h => h)
  expire t i _ h := h.trans (t.keeps_expireLease i).toMild.lawsKept
  timeOut t _ h := h.trans (t.keeps_timeOutTaken true).toMild.lawsKept
  initial t held h := h.trans (t.initial_lawsKept held)

/-- Every step keeps the simpler laws. -/
theorem step_lawsKept {s t : State} (h : step s = .next t) : LawsKept s t :=
  step_keeps (keptByEvents_lawsKept s)
    (fun _ _ hc u _ ha hu => hu.trans (rule_lawsKept (s := u) hc ha)) h (.refl s)

/-- Settles O54, by what every step keeps of queue, ring and offline figures. -/
theorem stepsKeepUplinkFigures : Obligations.StepsKeepUplinkFigures :=
  ⟨fun _ _ hs h => (step_lawsKept h).figures.sent hs,
    fun _ _ hs h => (step_lawsKept h).figures.bound hs,
    fun _ _ hs h => (step_lawsKept h).figures.expose hs⟩

/-- Settles O55, by what every step keeps of the table. -/
theorem stepsKeepKeysDistinct : Obligations.StepsKeepKeysDistinct :=
  ⟨fun _ _ hs h => (step_lawsKept h).keys hs, fun _ _ hs h => (step_lawsKept h).scopes hs,
    fun _ _ hs h => (step_lawsKept h).cursor hs⟩

/-- Settles O58, by what every step keeps of the ring. -/
theorem stepsKeepRingOrder : Obligations.StepsKeepRingOrder := fun s t hs h =>
  t.ringOrdered_iff.2 ((step_lawsKept h).figures.ring (s.ringOrdered_iff.1 hs))

end Sys2Proof.Machine
end

section
/-!
SUPPORT. What every step keeps of assembly, lamp, masks, SLEEP and staging (R25, R126, R158, R176, R185,
R186).
-/

namespace Sys2Proof.Machine

/-! ### The assembly and the IMAGE stream -/

section
variable {s t : State} {p : Port}

theorem State.assemblyStreams_iff (s : State) :
    s.AssemblyStreams ↔ s.floor.assembly.isSome = (s.streams.get .link).carriesImage ∧
      ∀ p, p ≠ .link → (s.streams.get p).carriesImage = false := by
  refine and_congr Iff.rfl ⟨fun h p hp => ?_, fun h => ⟨h .console (by simp), h .tender (by simp)⟩⟩
  cases p
  · exact h.1
  · exact h.2
  · exact absurd rfl hp

theorem State.assemblyStreams_congr (h : s.AssemblyStreams)
    (hassembly : t.floor.assembly.isSome = s.floor.assembly.isSome)
    (himages : ∀ p, (t.streams.get p).carriesImage = (s.streams.get p).carriesImage) :
    t.AssemblyStreams := by
  rw [State.assemblyStreams_iff] at h ⊢
  simpa only [hassembly, himages] using h

theorem Keeps.assemblyStreams (h : Keeps s t) (hfloor : t.floor.assembly = s.floor.assembly)
    (hs : s.AssemblyStreams) : t.AssemblyStreams :=
  State.assemblyStreams_congr hs (by rw [hfloor]) h.images

/-- A channel changes to one that carries the IMAGE stream as it did. -/
theorem State.assemblyStreams_setChannel {ch : Channel}
    (hch : ch.carriesImage = (s.streams.get p).carriesImage) (hs : s.AssemblyStreams) :
    (s.setChannel p ch).AssemblyStreams := by
  refine State.assemblyStreams_congr hs rfl fun q => ?_
  simp only [State.setChannel, State.setStreams_streams, PerPort.get_set]
  split
  · next hq => rw [hch, hq]
  · rfl

/-- The Link Port's channel is left with no IMAGE stream, and no assembly is there. -/
theorem State.assemblyStreams_ended {ch : Channel} (hch : ch.carriesImage = false)
    (hassembly : t.floor.assembly = none)
    (himages : ∀ p, (t.streams.get p).carriesImage = (s.streams.get p).carriesImage)
    (hs : s.AssemblyStreams) : (t.setChannel .link ch).AssemblyStreams := by
  rw [State.assemblyStreams_iff] at hs ⊢
  refine ⟨?_, fun p hp => ?_⟩
  · simp [State.setChannel, hassembly, hch]
  · simpa [State.setChannel, hp, himages] using hs.2 p hp

theorem ChannelLeft.assemblyStreams {w : State} (h : ChannelLeft s w p)
    (hp : (w.streams.get p).carriesImage = false) (hs : s.AssemblyStreams) : w.AssemblyStreams := by
  obtain ⟨hother, hfloor, -⟩ := h
  rw [State.assemblyStreams_iff] at hs ⊢
  have hrest (q : Port) (hq : q ≠ .link) : (w.streams.get q).carriesImage = false := by
    by_cases hqp : q = p
    · exact hqp ▸ hp
    · rw [hother q hqp]
      exact hs.2 q hq
  refine ⟨?_, hrest⟩
  rw [hfloor]
  by_cases hlink : p = .link
  · subst hlink
    rw [hp]
    cases hc : (s.streams.get .link).carriesImage with
    | false => simpa [hc] using hs.1
    | true => rfl
  · rw [hother .link (Ne.symm hlink), if_neg (by simp [hs.2 p hlink])]
    exact hs.1

theorem Channel.carriesImage_opened (st : Stream) :
    (Channel.opened st).carriesImage = decide (st.target = .image) := by
  unfold Channel.opened
  split <;> rfl

theorem State.assemblyStreams_raise (q : Port) (c : Cause) (hs : s.AssemblyStreams) :
    (s.raise q c).AssemblyStreams :=
  (s.keeps_raise q c).assemblyStreams (by simp) hs

/-! ### Streams that go on and end -/

/-- A running stream of a port goes on with the same target. -/
theorem State.assemblyStreams_continueStream {st' : Stream}
    (h : (s.streams.get p).carriesImage = decide (st'.target = .image)) (hs : s.AssemblyStreams) :
    (s.continueStream p st').AssemblyStreams := by
  unfold State.continueStream
  split
  · exact State.assemblyStreams_raise _ _ (State.assemblyStreams_setChannel (ch := .done st') h.symm hs)
  · exact State.assemblyStreams_setChannel (ch := .active st') h.symm hs

theorem State.assemblyStreams_failStream {st : Stream} {o : ReplyOutcome}
    (h : (s.streams.get p).carriesImage = false) (hs : s.AssemblyStreams) :
    (s.failStream p st o).AssemblyStreams :=
  State.assemblyStreams_raise _ _ (State.assemblyStreams_setChannel (ch := .aborted st _) h.symm hs)

theorem Channel.carriesImage_of_active {ch : Channel} {st : Stream} (h : ch = .active st) :
    ch.carriesImage = decide (st.target = .image) := by
  subst h
  rfl

theorem State.assemblyStreams_putWriteItem {st : Stream} (w : ItemWire)
    (hp : s.streams.get p = .active st) (htarget : st.target ≠ .image) (hs : s.AssemblyStreams) :
    (s.putWriteItem p st w).1.AssemblyStreams := by
  have himage := Channel.carriesImage_of_active hp
  have hnone : (s.streams.get p).carriesImage = false := by simp [himage, htarget]
  unfold State.putWriteItem
  split
  · exact State.assemblyStreams_failStream hnone hs
  · split
    · exact State.assemblyStreams_failStream hnone hs
    · next i _ _ c hc =>
      split
      · exact State.assemblyStreams_failStream hnone hs
      · have hadded := s.keeps_addItem hc w
        obtain ⟨-, -, -, -, -, -, -, -, -, -, hfloor, -⟩ := s.addItem_same i _ w
        refine State.assemblyStreams_continueStream ?_
          (hadded.assemblyStreams (by rw [hfloor (by simp)]) hs)
        rw [hadded.images, himage]

/-- The Link Port's IMAGE stream fails, and the assembly is discarded with it. -/
theorem State.assemblyStreams_failImage (st : Stream) (o : ReplyOutcome) (hs : s.AssemblyStreams) :
    (s.failStream .link st o).discardAssembly.AssemblyStreams := by
  have hended : (s.discardAssembly.setChannel .link (.aborted st (.refused o))).AssemblyStreams :=
    State.assemblyStreams_ended (s := s) rfl (by simp [State.discardAssembly_eq])
      s.keeps_discardAssembly.images hs
  refine State.assemblyStreams_congr hended ?_ fun q => ?_
  · simp [State.discardAssembly_eq, State.setChannel]
  · simp [State.discardAssembly_eq, State.setChannel, State.failStream]

/-- An item of an IMAGE stream, which is the Link Port's, keeps the assembly or ends both. -/
theorem State.assemblyStreams_putImageItem {st : Stream} (w : ItemWire)
    (hp : s.streams.get p = .active st) (htarget : st.target = .image) (hs : s.AssemblyStreams) :
    (s.putImageItem p st w).1.AssemblyStreams := by
  have himage : (s.streams.get p).carriesImage = true := by
    simp [Channel.carriesImage_of_active hp, htarget]
  have hlink : p = .link := by
    by_contra hne
    simp [((s.assemblyStreams_iff).1 hs).2 p hne] at himage
  subst hlink
  have hsome : s.floor.assembly.isSome = true := ((s.assemblyStreams_iff).1 hs).1.trans himage
  obtain ⟨a, ha⟩ := Option.isSome_iff_exists.1 hsome
  unfold State.putImageItem
  simp only [ha]
  split
  · exact State.assemblyStreams_failImage st _ hs
  · refine State.assemblyStreams_continueStream ?_ (State.assemblyStreams_congr hs ?_ fun q => ?_)
    · simpa [htarget] using himage
    · simp [ha]
    · simp

theorem State.assemblyStreams_putItems (p : Port) (items : List ItemWire)
    (hs : s.AssemblyStreams) : (State.putItems p items s).1.AssemblyStreams := by
  induction items generalizing s with
  | nil => exact hs
  | cons w rest ih =>
    unfold State.putItems
    split
    · next st hp =>
      have hitem : (if st.target = .image then s.putImageItem p st w
          else s.putWriteItem p st w).1.AssemblyStreams := by
        split
        · next htarget => exact State.assemblyStreams_putImageItem w hp htarget hs
        · next htarget => exact State.assemblyStreams_putWriteItem w hp htarget hs
      dsimp only
      split
      · exact ih hitem
      · exact hitem
    · exact hs

/-! ### The rules -/

theorem SameBut.assemblyStreams {touched : List Block} (h : SameBut touched s t)
    (hfloor : .floor ∉ touched) (hstreams : .streams ∉ touched) (hs : s.AssemblyStreams) :
    t.AssemblyStreams := by
  obtain ⟨-, -, -, -, -, -, -, -, -, -, hf, -, hst, -⟩ := h
  exact State.assemblyStreams_congr hs (by rw [hf hfloor]) fun p => by rw [hst hstreams]

/-- The floor block is not touched, and no IMAGE stream begins or ends. -/
theorem SameBut.assemblyStreams_of_images {touched : List Block} (h : SameBut touched s t)
    (hfloor : .floor ∉ touched)
    (himages : ∀ p, (t.streams.get p).carriesImage = (s.streams.get p).carriesImage)
    (hs : s.AssemblyStreams) : t.AssemblyStreams := by
  obtain ⟨-, -, -, -, -, -, -, -, -, -, hf, -⟩ := h
  exact State.assemblyStreams_congr hs (by rw [hf hfloor]) himages

theorem State.assemblyStreams_discardAssembly (h : s.streams.link.carriesImage = false)
    (hs : s.AssemblyStreams) : s.discardAssembly.AssemblyStreams := by
  refine State.assemblyStreams_congr hs ?_ s.keeps_discardAssembly.images
  rw [hs.1, h, State.discardAssembly_eq]
  rfl

theorem State.assemblyStreams_closeChannel (p : Port) (hs : s.AssemblyStreams) :
    (s.closeChannel p).AssemblyStreams :=
  ChannelLeft.assemblyStreams (s.channelLeft_closeChannel p) (by simp [Channel.carriesImage_idle]) hs

theorem commitRule_images (s : State) (p : Port) :
    ((commitRule s).state.streams.get p).carriesImage = (s.streams.get p).carriesImage := by
  unfold commitRule State.commitTo
  dsimp only
  split
  · next i _ _ =>
    split
    · rfl
    · refine State.tested_keeps
        (P := fun u => (u.streams.get p).carriesImage = (s.streams.get p).carriesImage) rfl fun _ => ?_
      dsimp only [State.accept, State.setPrimary]
      rw [State.setStaging_streams, (State.keeps_restartLease _ i).images p]
      split
      · simp
      · rw [(State.keeps_abortReads _ i _).images p]
        simp
  · rfl

theorem commitNewRule_images (s : State) (p : Port) :
    ((commitNewRule s).state.streams.get p).carriesImage = (s.streams.get p).carriesImage := by
  refine State.tested_keeps
    (P := fun u => (u.streams.get p).carriesImage = (s.streams.get p).carriesImage) rfl fun _ => ?_
  split
  · next k i u hk hallocate =>
    dsimp only [State.accept, State.setPrimary]
    rw [State.setStaging_streams, (State.keeps_grantHold _ .console i).images p,
      ← (State.keeps_allocate hallocate).images p]
    simp
  · rfl

theorem uplinkAckRule_images (seq : Half) (s : State) (p : Port) :
    ((uplinkAckRule seq s).state.streams.get p).carriesImage = (s.streams.get p).carriesImage := by
  refine State.tested_keeps
    (P := fun u => (u.streams.get p).carriesImage = (s.streams.get p).carriesImage) rfl fun _ => ?_
  split
  · rfl
  · next gone kept h =>
    obtain ⟨-, -, -, -, -, -, -, -, -, -, -, -, hstreams, -⟩ :=
      SameBut.foldl _ State.settleRecord_same (s.setUplink { s.uplink with records := kept }) gone
    dsimp only [State.accept]
    rw [(State.keeps_afterAck _ gone).images p, hstreams (by simp)]
    rfl

theorem portResetRule_assemblyStreams (p : Port) (hs : s.AssemblyStreams) :
    (portResetRule p s).state.AssemblyStreams := by
  have hclosed := State.assemblyStreams_closeChannel p hs
  have hshare : ((s.closeChannel p).resetShare p).AssemblyStreams := by
    cases p with
    | console => exact State.assemblyStreams_congr hclosed rfl fun _ => rfl
    | tender =>
      exact (State.keeps_timeOutTaken _ false).assemblyStreams (by simp) hclosed
    | link =>
      have hidle : (s.closeChannel .link).streams.link.carriesImage = false := by
        simp [PerPort.set, Channel.carriesImage_idle]
      exact State.assemblyStreams_congr (t := (s.closeChannel .link).discardAssembly.loseLink)
        (State.assemblyStreams_discardAssembly hidle hclosed) (by simp [State.loseLink])
        (State.keeps_loseLink _).images
  have hreleased : (((s.closeChannel p).resetShare p).releaseAll p).AssemblyStreams :=
    SameBut.assemblyStreams_of_images (State.releaseAll_same _ p) (by simp)
      (State.keeps_releaseAll _ p).images hshare
  dsimp only [portResetRule, State.accept]
  exact State.assemblyStreams_congr hreleased (by simp) fun _ => by simp

theorem config1Rule_assemblyStreams (tid pin : Byte) (hs : s.AssemblyStreams) :
    (config1Rule tid pin s).state.AssemblyStreams := by
  refine State.tested_keeps hs fun _ => ?_
  have hclosed : (if s.modes.step = .ready then s.closeAll else s).AssemblyStreams := by
    split
    · exact State.assemblyStreams_closeChannel _
        (State.assemblyStreams_closeChannel _ (State.assemblyStreams_closeChannel _ hs))
    · exact hs
  exact State.assemblyStreams_congr hclosed rfl fun _ => rfl

theorem openReadRule_assemblyStreams (target index : Byte) (key : Half) (dir start count : Byte)
    (hs : s.AssemblyStreams) :
    (openReadRule p target index key dir start count s).state.AssemblyStreams := by
  unfold openReadRule
  split
  · exact hs
  · refine State.tested_keeps hs fun _ => State.onNamed_keeps hs fun i c _ => ?_
    refine ChannelLeft.assemblyStreams (State.channelLeft_setChannel s p _) ?_ hs
    simp [State.accept, State.setChannel, Channel.carriesImage_opened, readStream]

theorem openWriteRule_assemblyStreams (index : Byte) (key : Half) (count : Byte)
    (hs : s.AssemblyStreams) : (openWriteRule p index key count s).state.AssemblyStreams := by
  refine State.tested_keeps hs fun _ => State.onNamed_keeps hs fun i c _ =>
    State.tested_keeps hs fun _ => ?_
  refine ChannelLeft.assemblyStreams (State.channelLeft_setChannel s p _) ?_ hs
  simp [State.accept, State.setChannel, Channel.carriesImage, Channel.running, writeStream]

theorem streamNextRule_assemblyStreams (hs : s.AssemblyStreams) :
    (streamNextRule p s).state.AssemblyStreams := by
  unfold streamNextRule
  split
  · exact hs
  · exact hs
  · exact hs
  · next st hp =>
    split
    · have hmoved := State.assemblyStreams_continueStream (p := p) (st' := st.advanced)
        ((Channel.carriesImage_of_active hp).trans rfl) hs
      dsimp only [State.readNext, State.accept]
      split
      · exact (State.keeps_restartIfHolder _ p _).assemblyStreams (by simp) hmoved
      · exact hmoved
    · exact hs

theorem streamPutRule_assemblyStreams (count : Byte) (items : List ItemWire)
    (hs : s.AssemblyStreams) : (streamPutRule p count items s).state.AssemblyStreams := by
  refine State.tested_keeps hs fun _ => ?_
  split
  · exact hs
  · exact hs
  · exact hs
  · split
    · exact hs
    · exact State.assemblyStreams_putItems p _ hs

theorem streamCloseRule_assemblyStreams (hs : s.AssemblyStreams) :
    (streamCloseRule p s).state.AssemblyStreams := by
  unfold streamCloseRule
  dsimp only
  split
  · exact hs
  · exact State.assemblyStreams_closeChannel p hs

theorem linkUpRule_assemblyStreams (value : Byte) (hs : s.AssemblyStreams) :
    (linkUpRule value s).state.AssemblyStreams := by
  refine State.assemblyStreams_congr hs ?_ (linkUpRule_keeps value s).images
  refine State.tested_keeps
    (P := fun u => u.floor.assembly.isSome = s.floor.assembly.isSome) rfl fun _ => ?_
  split
  · rfl
  · dsimp only [State.accept]
    split <;> simp

theorem linkDownRule_assemblyStreams (hs : s.AssemblyStreams) :
    (linkDownRule s).state.AssemblyStreams := by
  unfold linkDownRule
  split
  · exact hs
  · have hlost : s.loseLink.AssemblyStreams :=
      State.assemblyStreams_congr hs (by simp [State.loseLink]) s.keeps_loseLink.images
    dsimp only [State.accept]
    unfold State.abortImage
    split
    · next st hrun =>
      split
      · exact State.assemblyStreams_failImage st _ hlost
      · next htarget =>
        refine State.assemblyStreams_discardAssembly ?_ hlost
        rw [Channel.carriesImage, hrun]
        exact decide_eq_false htarget
    · next hrun =>
      refine State.assemblyStreams_discardAssembly ?_ hlost
      rw [Channel.carriesImage, hrun]

theorem imageBeginRule_assemblyStreams (key server : Half) (owner covers seats count : Byte)
    (hs : s.AssemblyStreams) :
    (imageBeginRule key server owner covers seats count s).state.AssemblyStreams := by
  refine State.tested_keeps hs fun _ => ?_
  rw [State.assemblyStreams_iff] at hs ⊢
  refine ⟨?_, fun q hq => ?_⟩
  · simp [State.accept, State.setChannel, Channel.carriesImage_opened, imageStream]
  · simpa [State.accept, State.setChannel, hq] using hs.2 q hq

theorem imageAbortRule_assemblyStreams (hs : s.AssemblyStreams) :
    (imageAbortRule s).state.AssemblyStreams :=
  State.tested_keeps hs fun _ => State.assemblyStreams_ended rfl
    (by simp [State.discardAssembly_eq]) s.keeps_discardAssembly.images hs

/-- No branch of the image apply rules leaves an assembly. -/
theorem State.endImage_assembly (s : State) (a : Assembly) :
    (s.endImage a).state.floor.assembly = none := by
  have hplace : (s.placeImage a).state.floor.assembly = none := by
    unfold State.placeImage
    split <;> simp [State.discardAssembly_eq, State.accept, State.takeAssembly]
  unfold State.endImage State.endImageAt
  (repeat' split) <;> simp [State.discardAssembly_eq, State.accept, State.takeAssembly, hplace]

theorem State.placeImage_images (s : State) (a : Assembly) (p : Port) :
    ((s.placeImage a).state.streams.get p).carriesImage = (s.streams.get p).carriesImage := by
  unfold State.placeImage
  split
  · exact s.keeps_discardAssembly.images p
  · next i u hallocate =>
    dsimp only [State.accept]
    rw [(State.keeps_raise _ _ _).images p, ← (State.keeps_allocate hallocate).images p]
    simp [State.takeAssembly]

theorem State.endImage_images (s : State) (a : Assembly) (p : Port) :
    ((s.endImage a).state.streams.get p).carriesImage = (s.streams.get p).carriesImage := by
  unfold State.endImage
  split
  · exact s.placeImage_images a p
  · split
    · exact (s.keeps_endImageAt a _ _).images p
    · exact s.placeImage_images a p

theorem imageEndRule_assemblyStreams (hs : s.AssemblyStreams) :
    (imageEndRule s).state.AssemblyStreams := by
  unfold imageEndRule
  split
  · exact hs
  · next a _ =>
    exact State.tested_keeps hs fun _ => State.assemblyStreams_ended rfl
      (s.endImage_assembly a) (s.endImage_images a) hs


end

/-- Every rule keeps the assembly with its stream. -/
theorem rule_assemblyStreams {c : Instr} {r : Served} (h : requestOf c = some r) {s : State}
    (hs : s.AssemblyStreams) : (r.rule s).state.AssemblyStreams := by
  have hsame := rule_same h s
  cases c <;> simp only [requestOf, Option.some.injEq, reduceCtorEq] at h <;> subst h
  case portReset => exact portResetRule_assemblyStreams _ hs
  case config1 => exact config1Rule_assemblyStreams _ _ hs
  case streamOpenItemsRead => exact openReadRule_assemblyStreams _ _ _ _ _ _ hs
  case streamOpenItemsWrite => exact openWriteRule_assemblyStreams _ _ _ hs
  case streamNext => exact streamNextRule_assemblyStreams hs
  case streamPut => exact streamPutRule_assemblyStreams _ _ hs
  case streamClose => exact streamCloseRule_assemblyStreams hs
  case linkStateUp => exact linkUpRule_assemblyStreams _ hs
  case linkStateDown => exact linkDownRule_assemblyStreams hs
  case imageBegin => exact imageBeginRule_assemblyStreams _ _ _ _ _ _ hs
  case imageEnd => exact imageEndRule_assemblyStreams hs
  case imageAbort => exact imageAbortRule_assemblyStreams hs
  case commit => exact hsame.assemblyStreams_of_images (by simp [touchedBy]) (commitRule_images s) hs
  case commitNew =>
    exact hsame.assemblyStreams_of_images (by simp [touchedBy]) (commitNewRule_images s) hs
  case uplinkAck =>
    exact hsame.assemblyStreams_of_images (by simp [touchedBy]) (uplinkAckRule_images _ s) hs
  case checkClose =>
    exact hsame.assemblyStreams_of_images (by simp [touchedBy]) (checkCloseRule_keeps s _ _).images hs
  case resolveKeep =>
    exact hsame.assemblyStreams_of_images (by simp [touchedBy])
      (resolveKeepRule_keeps s _ _ _).images hs
  case resolveClose =>
    exact hsame.assemblyStreams_of_images (by simp [touchedBy])
      (resolveCloseRule_keeps s _ _).images hs
  case itemAdd =>
    exact hsame.assemblyStreams_of_images (by simp [touchedBy]) (itemAddRule_keeps s _ _ _).images hs
  case itemVoid =>
    exact hsame.assemblyStreams_of_images (by simp [touchedBy]) (itemVoidRule_keeps s _ _ _).images hs
  case splitSet =>
    exact hsame.assemblyStreams_of_images (by simp [touchedBy])
      (splitSetRule_keeps s _ _ _ _ _).images hs
  case splitClear =>
    exact hsame.assemblyStreams_of_images (by simp [touchedBy]) (splitClearRule_keeps s _ _).images hs
  case release =>
    exact hsame.assemblyStreams_of_images (by simp [touchedBy]) (releaseRule_keeps s _ _ _).images hs
  case retire =>
    exact hsame.assemblyStreams_of_images (by simp [touchedBy]) (retireRule_keeps _ _ s).images hs
  all_goals exact hsame.assemblyStreams (by simp [touchedBy]) (by simp [touchedBy]) hs

theorem State.assemblyStreams_same {s t : State} (h : SameBut [.modes, .attn, .ports, .uplink] s t)
    (hs : s.AssemblyStreams) : t.AssemblyStreams := h.assemblyStreams (by simp) (by simp) hs

theorem State.advance_same (s : State) (dt : Nat) :
    SameBut [.modes, .table, .ring, .uplink] s (s.advance dt) := by
  unfold State.advance
  (repeat' split) <;> simp [SameBut]

theorem State.expireLease_floor (s : State) (i : Fin 64) :
    (s.expireLease i).floor.assembly = s.floor.assembly := by
  unfold State.expireLease
  split <;> simp

theorem keptByEvents_assemblyStreams : KeptByEvents State.AssemblyStreams where
  ports s v := State.assemblyStreams_same (by simp [SameBut])
  raise s p c := State.assemblyStreams_same (by simp [SameBut])
  lower s p m := State.assemblyStreams_same (by simp [SameBut])
  lamp s := State.assemblyStreams_same (by simp [SameBut])
  wake s _ := State.assemblyStreams_same (by simp [SameBut])
  begins s _ := State.assemblyStreams_same (by simp [SameBut])
  pending s v := SameBut.assemblyStreams (touched := [.pending]) (by simp [SameBut]) (by simp) (by simp)
  advance s dt := (s.advance_same dt).assemblyStreams (by simp) (by simp)
  line s high := State.assemblyStreams_same (by simp [SameBut, State.setWakeLine])
  awake s _ := State.assemblyStreams_same (by simp [SameBut])
  expire s i _ := (s.keeps_expireLease i).assemblyStreams (s.expireLease_floor i)
  timeOut s _ := (s.keeps_timeOutTaken true).assemblyStreams (by simp)
  initial s held _ := by
    obtain ⟨-, -, -, -, -, -, -, -, -, -, -, -, -, -, hassembly, -⟩ := lawsHoldAtReset
    exact hassembly

/-! ### The lamp -/

theorem State.tablePattern_eq (s : State) :
    lampPattern s.modes.mode s.offline.exposureCap s.offline.exposure s.commitments s.floor.link
      s.uplink.records.length = s.tablePattern := by
  simp only [lampPattern, State.tablePattern, List.length_pos_iff]

theorem State.lampAgrees_iff (s : State) :
    s.LampAgrees ↔ s.uplink.lamp.pattern = s.tablePattern := by
  rw [State.LampAgrees, State.tablePattern_eq]

theorem State.relamp_eq (s : State) :
    s.relamp = { s with uplink := { s.uplink with
      lamp := if s.uplink.lamp.pattern = s.tablePattern then s.uplink.lamp
        else ⟨s.tablePattern, 0⟩ } } := by
  rw [← State.tablePattern_eq]
  rfl

/-- A re-evaluation changes none of the lamp's inputs. -/
theorem State.lampAgrees_relamp (s : State) : s.relamp.LampAgrees := by
  rw [State.LampAgrees, State.relamp_uplink, Lamp.show_pattern]
  simp [State.commitments, State.relamp]

/-- The lamp's pattern and its inputs are the same. -/
theorem State.lampAgrees_congr {s t : State} (hs : s.LampAgrees)
    (hlamp : t.uplink.lamp.pattern = s.uplink.lamp.pattern) (hmode : t.modes.mode = s.modes.mode)
    (hoffline : t.offline = s.offline) (hcommit : t.commitments = s.commitments)
    (hlink : t.floor.link = s.floor.link)
    (hrecords : t.uplink.records.length = s.uplink.records.length) : t.LampAgrees := by
  rw [State.LampAgrees] at hs ⊢
  rw [hlamp, hmode, hoffline, hcommit, hlink, hrecords]
  exact hs

theorem State.lampAgrees_setModes {s : State} {v : ModeController} (hmode : v.mode = s.modes.mode)
    (hs : s.LampAgrees) : (s.setModes v).LampAgrees :=
  State.lampAgrees_congr hs rfl hmode rfl rfl rfl rfl

/-- An exchange that is taken ends with the lamp's re-evaluation. -/
theorem State.lampAgrees_exchange (x : Exch) (answer : State → State) {s : State}
    (hs : s.LampAgrees) : (s.exchange x answer).LampAgrees := by
  unfold State.exchange
  split
  · exact State.lampAgrees_relamp _
  · exact hs

theorem State.lampAgrees_advance (dt : Nat) {s : State} (hs : s.LampAgrees) :
    (s.advance dt).LampAgrees := by
  by_cases hheld : s.modes.resetHeld = true
  · simpa [State.advance, hheld] using hs
  · rw [Bool.not_eq_true] at hheld
    by_cases hmode : s.modes.mode = .sleep
    · rw [State.advance_of_sleep dt hheld hmode]
      exact State.lampAgrees_setModes rfl hs
    · rw [State.advance_of_running dt hheld hmode]
      exact State.lampAgrees_congr hs (Lamp.advance_pattern _ dt) rfl rfl rfl rfl rfl

theorem State.lampAgrees_initial (s : State) (held : Bool) : (s.initial held).LampAgrees := by
  obtain ⟨-, -, -, -, -, -, -, -, -, -, -, -, -, hlamp, -⟩ := lawsHoldAtReset
  exact hlamp

theorem exec_event_lampAgrees {c : Instr} (hc : requestOf c = none) {s t : State}
    (h : exec c s = .next t) (hs : s.LampAgrees) : t.LampAgrees := by
  have hadvance (dt : Nat) : (s.advance dt).LampAgrees := State.lampAgrees_advance dt hs
  have hline (high : Bool) : (s.setWakeLine high).LampAgrees := State.lampAgrees_setModes rfl hs
  cases c <;> simp only [requestOf, reduceCtorEq] at hc
  case coldReset cause =>
    cases cause with
    | powerUp => cases h; exact s.lampAgrees_initial _
    | asserted micros =>
      cases h
      split
      · exact hs
      · exact s.lampAgrees_initial _
  all_goals cases h
  case badFrame | unknownRequest => exact State.lampAgrees_exchange _ _ hs
  case exchangeDiscarded | wakeByChipSelect =>
    split
    · exact State.lampAgrees_setModes rfl hs
    · exact hs
  case leaseExpiry | tenderTimeout | wakeTimerExpiry =>
    dsimp only
    split
    · exact State.lampAgrees_relamp _
    · exact hadvance _
  case wakeAssert =>
    dsimp only
    (repeat' split)
    · exact hline true
    · exact hline true
    · exact State.lampAgrees_relamp _
    · exact State.lampAgrees_setModes rfl (hline true)
    · exact hline true
  case resetRelease =>
    split
    · exact s.lampAgrees_initial _
    · exact hs
  case wakeLineFall => exact hline false

theorem exec_lampAgrees {c : Instr} {s t : State} (h : exec c s = .next t) (hs : s.LampAgrees) :
    t.LampAgrees := by
  cases hc : requestOf c with
  | some r =>
    rw [exec_of_request hc] at h
    cases h
    exact State.lampAgrees_exchange _ _ hs
  | none => exact exec_event_lampAgrees hc h hs

theorem step_lampAgrees {s t : State} (h : step s = .next t) (hs : s.LampAgrees) :
    t.LampAgrees := by
  have hpending (v : List Instr) : (s.setPending v).LampAgrees :=
    State.lampAgrees_congr hs rfl rfl rfl rfl rfl rfl
  unfold step at h
  split at h
  · cases h
    exact State.lampAgrees_congr (State.lampAgrees_advance _ hs) rfl rfl rfl rfl rfl rfl
  · exact exec_lampAgrees h (hpending _)

/-! ### SLEEP -/

theorem State.sleepBlocked_congr {s t : State} (htable : t.table = s.table) (hring : t.ring = s.ring)
    (hstreams : t.streams = s.streams) (hfloor : t.floor = s.floor) :
    t.sleepBlocked = s.sleepBlocked := by
  simp [State.sleepBlocked, State.countEntries, State.takenTender, State.anyActive, State.check,
    htable, hring, hstreams, hfloor]

/-- What SLEEP excludes reads table, ring, streams and floor; the rest of the law reads the modes. -/
theorem State.sleepQuiet_of_modes {s t : State}
    (h : SameBut [.pending, .ports, .attn, .uplink, .modes] s t)
    (hmode : t.modes.mode = s.modes.mode)
    (htimer : t.modes.wakeTimer.isSome = true →
      s.modes.mode = .sleep ∨ s.modes.wakeTimer.isSome = true)
    (hs : s.SleepQuiet) : t.SleepQuiet := by
  obtain ⟨hquiet, hwake⟩ := hs
  obtain ⟨-, -, -, htable, -, -, -, hring, -, -, hfloor, -, hstreams, -⟩ := h
  rw [State.SleepQuiet, hmode, State.sleepBlocked_congr (htable (by simp)) (hring (by simp))
    (hstreams (by simp)) (hfloor (by simp))]
  exact ⟨hquiet, fun h => (htimer h).elim id hwake⟩

/-- Outside SLEEP the law says only that the wake timer does not run. -/
theorem State.sleepQuiet_of_awake {s t : State} (hawake : s.modes.mode ≠ .sleep)
    (hmode : t.modes.mode = s.modes.mode) (htimer : t.modes.wakeTimer.isSome = s.modes.wakeTimer.isSome)
    (hs : s.SleepQuiet) : t.SleepQuiet := by
  rw [State.SleepQuiet, hmode, htimer]
  exact ⟨fun h => absurd h hawake, hs.2⟩

theorem powerSleepRule_sleepQuiet {s : State} (hs : s.SleepQuiet) :
    (powerSleepRule s).state.SleepQuiet := by
  refine State.tested_keeps hs fun h => ⟨fun _ => ?_, fun _ => rfl⟩
  have hfree := h (!s.sleepBlocked, .busy) (by simp)
  rw [Bool.not_eq_true'] at hfree
  exact (State.sleepBlocked_congr (s := s) rfl rfl rfl rfl).trans hfree

/-- A rule that is reached finds the part awake, and leaves it in its mode but for POWER. -/
theorem rule_sleepQuiet {c : Instr} {r : Served} (h : requestOf c = some r) {s : State}
    (ha : s.admission r.req = none) (hs : s.SleepQuiet) : (r.rule s).state.SleepQuiet := by
  have hawake := State.awake_of_admission ha
  have hsame := rule_same h s
  cases c <;> simp only [requestOf, Option.some.injEq, reduceCtorEq] at h <;> subst h
  case powerSleep => exact powerSleepRule_sleepQuiet hs
  case powerDoze =>
    have htimer (h : s.modes.wakeTimer.isSome = true) : False := hawake (hs.2 h)
    exact State.tested_keeps hs fun _ => ⟨fun h => absurd h (by simp [State.accept, State.setMode]),
      fun h => (htimer h).elim⟩
  case config1 | config4 =>
    refine State.tested_keeps hs fun _ => State.sleepQuiet_of_awake hawake ?_ ?_ hs <;>
      dsimp only [State.accept] <;> split <;> simp [State.closeAll]
  case config2 => exact State.tested_keeps hs fun _ => State.sleepQuiet_of_awake hawake rfl rfl hs
  case config3 =>
    refine State.sleepQuiet_of_awake hawake ?_ ?_ hs <;>
      simp only [config3Rule] <;> split <;> simp [State.accept]
  all_goals
    obtain ⟨-, -, -, -, -, -, -, -, -, -, -, -, -, hmodes⟩ := hsame
    have hmodes := hmodes (by simp [touchedBy])
    exact State.sleepQuiet_of_awake hawake (by rw [hmodes]) (by rw [hmodes]) hs

theorem State.sleepQuiet_advance (dt : Nat) {s : State} (hs : s.SleepQuiet) :
    (s.advance dt).SleepQuiet := by
  by_cases hheld : s.modes.resetHeld = true
  · simpa [State.advance, hheld] using hs
  · rw [Bool.not_eq_true] at hheld
    by_cases hmode : s.modes.mode = .sleep
    · rw [State.advance_of_sleep dt hheld hmode]
      exact State.sleepQuiet_of_modes (s := s) (by simp [SameBut]) rfl (fun _ => .inl hmode) hs
    · rw [State.advance_of_running dt hheld hmode]
      exact State.sleepQuiet_of_awake hmode rfl (by simp) hs

theorem keptByEvents_sleepQuiet : KeptByEvents State.SleepQuiet where
  ports s v := State.sleepQuiet_of_modes (by simp [SameBut]) rfl .inr
  raise s p c := State.sleepQuiet_of_modes (by simp [SameBut]) (by simp) fun h => .inr (by simpa using h)
  lower s p m := State.sleepQuiet_of_modes (by simp [SameBut]) (by simp) fun h => .inr (by simpa using h)
  lamp s := State.sleepQuiet_of_modes (by simp [SameBut]) (by simp) fun h => .inr (by simpa using h)
  wake s hmode hs :=
    ⟨fun h => absurd h (by simp [State.setMode]), fun h => absurd (hs.2 h) (by simp [hmode])⟩
  begins s hmode := State.sleepQuiet_of_modes (by simp [SameBut]) rfl fun _ => .inl hmode
  pending s v := State.sleepQuiet_of_modes (by simp [SameBut]) rfl .inr
  advance s dt := State.sleepQuiet_advance dt
  line s high := State.sleepQuiet_of_modes (by simp [SameBut, State.setWakeLine]) rfl .inr
  awake s _ _ := ⟨fun h => absurd h (by simp), fun h => absurd h (by simp)⟩
  expire s i hmode hs := by
    have hmodes := (s.keeps_expireLease i).modes
    exact State.sleepQuiet_of_awake hmode (by rw [hmodes]) (by rw [hmodes]) hs
  timeOut s hmode hs := by
    have hmodes := (s.keeps_timeOutTaken true).modes
    exact State.sleepQuiet_of_awake hmode (by rw [hmodes]) (by rw [hmodes]) hs
  initial s held _ :=
    ⟨fun h => absurd h (by simp [State.initial, State.reset]),
      fun h => absurd h (by simp [State.initial, State.reset])⟩

/-! ### The staging records -/

theorem StagingRecord.invalidForm_of_valid {r : StagingRecord} (h : r.valid = true) :
    r.InvalidForm := fun hf => by simp [h] at hf

theorem StagingRecord.invalidForm_invalid : StagingRecord.invalid.InvalidForm := fun _ => rfl

theorem State.stagingForm_congr {s t : State} (h : t.staging = s.staging) (hs : s.StagingForm) :
    t.StagingForm := by
  rw [State.StagingForm, h]
  exact hs

/-- The primary record changes to one of the form, and the alternate is as it was. -/
theorem State.stagingForm_primary {s t : State} {r : StagingRecord}
    (h : t.staging = { s.staging with primary := r }) (hr : r.InvalidForm) (hs : s.StagingForm) :
    t.StagingForm := by
  rw [State.StagingForm, h]
  exact ⟨hr, hs.2⟩

theorem StagingRecord.invalidForm_setProbe {r : StagingRecord} (h : r.InvalidForm)
    (i : Option (Fin 64)) : StagingRecord.InvalidForm { r with probe := i } := fun hvalid => by
  rw [h hvalid]

theorem probeRule_stagingForm (p : Port) (key : Half) (any : Byte) {s : State}
    (hs : s.StagingForm) : (probeRule p key any s).state.StagingForm := by
  have hload (i : Option (Fin 64)) : (s.loadProbe p i).StagingForm := by
    unfold State.loadProbe
    split
    · exact State.stagingForm_primary rfl
        (StagingRecord.invalidForm_setProbe hs.1 i) hs
    · exact hs
  refine State.tested_keeps hs fun _ => ?_
  dsimp only
  split
  · exact hload none
  · exact hload _

theorem readRule_stagingForm (index : Byte) {s : State} (hs : s.StagingForm) :
    (readRule index s).state.StagingForm := by
  have hfrom (i : Option (Fin 64)) : (s.readFrom i).state.StagingForm := by
    unfold State.readFrom
    split
    · exact hs
    · split
      · exact hs
      · exact State.stagingForm_primary rfl (StagingRecord.invalidForm_of_valid rfl) hs
  unfold readRule
  split
  · exact hfrom _
  · split
    · exact hs
    · exact hfrom _

theorem stageSetRule_stagingForm (selection : Byte) (key : Half) (covers seats : Byte) {s : State}
    (hs : s.StagingForm) : (stageSetRule selection key covers seats s).state.StagingForm := by
  refine State.tested_keeps hs fun _ =>
    State.stagingForm_primary rfl (StagingRecord.invalidForm_of_valid ?_) hs
  simp only [StagingRecord.write, StagingRecord.prepared]
  split
  · assumption
  · rfl

theorem commitRule_stagingForm {s : State} (hs : s.StagingForm) :
    (commitRule s).state.StagingForm := by
  unfold commitRule State.commitTo
  dsimp only
  split
  · next i hvalid _ =>
    split
    · exact hs
    · next c _ =>
      refine State.tested_keeps hs fun _ => State.stagingForm_primary ?_
        (StagingRecord.invalidForm_of_valid
          (r := s.staging.primary.committed (c.takeHeader s.staging.primary)) hvalid) hs
      dsimp only [State.accept, State.setPrimary]
      rw [State.setStaging_staging]
      split <;> simp
  · exact hs

theorem commitNewRule_stagingForm {s : State} (hs : s.StagingForm) :
    (commitNewRule s).state.StagingForm := by
  refine State.tested_keeps hs fun h => ?_
  have hvalid := h (s.staging.primary.valid, .noStage) (by simp [State.commitNewTests])
  split
  · next i u _ hallocate =>
    obtain ⟨-, -, -, -, hstaging, -⟩ := State.allocate_same hallocate
    refine State.stagingForm_primary ?_
      (StagingRecord.invalidForm_of_valid (r := s.staging.primary.placed i) hvalid) hs
    simp [State.accept, State.setPrimary, hstaging]
  · exact hs

theorem portResetRule_stagingForm (p : Port) {s : State} (hs : s.StagingForm) :
    (portResetRule p s).state.StagingForm := by
  have hshare : ((s.closeChannel p).resetShare p).StagingForm := by
    cases p with
    | console => exact ⟨StagingRecord.invalidForm_invalid, StagingRecord.invalidForm_invalid⟩
    | tender => exact State.stagingForm_congr (by simp [State.resetShare]) hs
    | link => exact State.stagingForm_congr (by simp [State.resetShare]) hs
  obtain ⟨-, -, -, -, hstaging, -⟩ := State.releaseAll_same ((s.closeChannel p).resetShare p) p
  dsimp only [portResetRule, State.accept]
  refine State.stagingForm_congr ?_ hshare
  rw [State.setAttn_staging, hstaging (by simp)]

theorem rule_stagingForm {c : Instr} {r : Served} (h : requestOf c = some r) {s : State}
    (hs : s.StagingForm) : (r.rule s).state.StagingForm := by
  have hsame := rule_same h s
  cases c <;> simp only [requestOf, Option.some.injEq, reduceCtorEq] at h <;> subst h
  case portReset x =>
    dsimp only
    exact portResetRule_stagingForm x.port hs
  case probe => exact probeRule_stagingForm _ _ _ hs
  case read => exact readRule_stagingForm _ hs
  case stageSet => exact stageSetRule_stagingForm _ _ _ _ hs
  case exchange => exact ⟨hs.2, hs.1⟩
  case commit => exact commitRule_stagingForm hs
  case commitNew => exact commitNewRule_stagingForm hs
  all_goals
    obtain ⟨-, -, -, -, hstaging, -⟩ := hsame
    exact State.stagingForm_congr (hstaging (by simp [touchedBy])) hs

theorem State.expireLease_staging (s : State) (i : Fin 64) :
    (s.expireLease i).staging = s.staging := by
  unfold State.expireLease
  split <;> simp

theorem keptByEvents_stagingForm : KeptByEvents State.StagingForm where
  ports s v := State.stagingForm_congr rfl
  raise s p c := State.stagingForm_congr (by simp)
  lower s p m := State.stagingForm_congr (by simp)
  lamp s := State.stagingForm_congr (by simp)
  wake s _ := State.stagingForm_congr (by simp)
  begins s _ := State.stagingForm_congr (by simp)
  pending s v := State.stagingForm_congr rfl
  advance s dt := State.stagingForm_congr ((s.advance_same dt).2.2.2.2.1 (by simp))
  line s high := State.stagingForm_congr rfl
  awake s _ := State.stagingForm_congr rfl
  expire s i _ := State.stagingForm_congr (s.expireLease_staging i)
  timeOut s _ := State.stagingForm_congr (by simp)
  initial s held _ := ⟨StagingRecord.invalidForm_invalid, StagingRecord.invalidForm_invalid⟩

/-- Settles O60: assembly, masks, SLEEP and staging by what every rule keeps, the lamp by its
re-evaluation at the end of every command. -/
theorem stepsKeepAssemblyLampSleep : Obligations.StepsKeepAssemblyLampSleep :=
  ⟨fun _ _ hs h => step_keeps keptByEvents_assemblyStreams
      (fun _ _ hc _ _ _ => rule_assemblyStreams hc) h hs,
    fun s => ⟨s.lampAgrees_iff, s.relamp_eq⟩,
    fun _ _ h => ⟨step_lampAgrees h, (step_lawsKept h).masks,
      step_keeps keptByEvents_sleepQuiet (fun _ _ hc _ _ ha => rule_sleepQuiet hc ha) h,
      step_keeps keptByEvents_stagingForm (fun _ _ hc _ _ _ => rule_stagingForm hc) h⟩⟩

end Sys2Proof.Machine
end

section
/-!
SUPPORT. The core of an entry is what is on its chains and who holds it or waits for it. What changes no
entry's core keeps the laws of the Item Pool and of holds (R41, R46, R64).
-/

namespace Sys2Proof.Machine

/-! ### The core of an entry -/

/-- An entry's items, its next item serial and its pending image. -/
def Check.chains (c : Check) : List Item × Nat × Option PendingImage :=
  (c.items, c.nextSerial, c.image)

/-- An entry's holder and its waiters. -/
def Check.seating (c : Check) : Option Port × List Port := (c.holder, c.waiters)

def Check.core (c : Check) : (List Item × Nat × Option PendingImage) × Option Port × List Port :=
  (c.chains, c.seating)

/-- The core of no entry changes, nor free list, assembly and the records of the ports' holds. -/
structure SameCore (s t : State) : Prop where
  entries : ∀ i, (t.check i).map Check.core = (s.check i).map Check.core
  free : t.pool.free = s.pool.free
  assembly : t.floor.assembly = s.floor.assembly
  holds : t.holds = s.holds

theorem SameCore.refl (s : State) : SameCore s s := ⟨fun _ => rfl, rfl, rfl, rfl⟩

theorem SameCore.trans {s t w : State} (h : SameCore s t) (k : SameCore t w) : SameCore s w where
  entries i := (k.entries i).trans (h.entries i)
  free := k.free.trans h.free
  assembly := k.assembly.trans h.assembly
  holds := k.holds.trans h.holds

theorem SameCore.foldl {α : Type} (f : State → α → State) (h : ∀ s a, SameCore s (f s a)) (s : State)
    (l : List α) : SameCore s (l.foldl f s) :=
  foldl_preserves f (SameCore s) (fun b a hb => hb.trans (h b a)) s l (.refl s)

/-- None of the blocks that change holds a core, a chain or a port's records. -/
theorem SameCore.of_same {touched : List Block} {s t : State} (h : SameBut touched s t)
    (hnot : ∀ b ∈ touched, b ∉ [Block.table, .pool, .holds, .floor]) : SameCore s t := by
  have hno (b : Block) (hb : b ∈ [Block.table, .pool, .holds, .floor]) : b ∉ touched :=
    fun hm => hnot b hm hb
  obtain ⟨-, -, -, htable, -, hpool, hholds, -, -, -, hfloor, -⟩ := h
  replace htable := htable (hno _ (by simp))
  exact ⟨fun i => by rw [State.check, htable, ← State.check], by rw [hpool (hno _ (by simp))],
    by rw [hfloor (hno _ (by simp))], hholds (hno _ (by simp))⟩

section
variable (s : State) (i : Fin 64) (p : Port)

theorem State.sameCore_mod {f : Check → Check}
    (h : ∀ c, (f c).core = c.core) : SameCore s (s.modCheck i f) := by
  refine ⟨fun j => ?_, by simp, by simp, by simp⟩
  rw [State.check_modCheck]
  split
  · next hj => simp [hj, Function.comp_def, h]
  · rfl

theorem State.sameCore_put {c d : Check} (hc : s.check i = some c)
    (h : d.core = c.core) : SameCore s (s.putCheck i (some d)) := by
  refine ⟨fun j => ?_, by simp, by simp, by simp⟩
  rw [State.check_putCheck]
  split
  · next hj => simp [hj, hc, h]
  · rfl

theorem State.sameCore_raise (c : Cause) : SameCore s (s.raise p c) :=
  .of_same (touched := [.attn]) (by simp [SameBut]) (by simp)

theorem State.sameCore_abortReads (r : AbortReason) : SameCore s (s.abortReads i r) :=
  .of_same (touched := [.attn, .streams]) (by simp [SameBut]) (by simp)

theorem State.sameCore_abortWrite (r : AbortReason) : SameCore s (s.abortWrite p i r) :=
  .of_same (touched := [.attn, .streams]) (by simp [SameBut]) (by simp)

theorem State.sameCore_countTotals (f : Totals → Totals) : SameCore s (s.countTotals f) :=
  .of_same (touched := [.totals]) (by simp [SameBut]) (by simp)

theorem State.sameCore_setRing (r : TenderRing) : SameCore s (s.setRing r) :=
  .of_same (touched := [.ring]) (by simp [SameBut]) (by simp)

theorem State.sameCore_setUplink (u : UplinkQueue) : SameCore s (s.setUplink u) :=
  .of_same (touched := [.uplink]) (by simp [SameBut]) (by simp)

theorem State.sameCore_setStaging (v : StagingUnit) : SameCore s (s.setStaging v) :=
  .of_same (touched := [.staging]) (by simp [SameBut]) (by simp)

theorem State.sameCore_setChannel (ch : Channel) : SameCore s (s.setChannel p ch) :=
  .of_same (touched := [.streams]) (by simp [SameBut]) (by simp)

theorem State.sameCore_setLink (link : LinkState) :
    SameCore s (s.setFloor { s.floor with link := link }) := ⟨fun _ => rfl, rfl, rfl, rfl⟩

/-! ### Checks -/

theorem Check.core_afterAmounts (c : Check) : c.afterAmounts.core = c.core := by
  unfold Check.afterAmounts
  split <;> rfl

theorem Check.core_dropOverpaidPlan (c : Check) : c.dropOverpaidPlan.evaluate.core = c.core := by
  unfold Check.dropOverpaidPlan
  split <;> rfl

theorem Check.core_takeHeader (c : Check) (r : StagingRecord) : (c.takeHeader r).core = c.core := by
  unfold Check.takeHeader
  dsimp only
  split
  · next h => exact congrArg Check.core h ▸ rfl
  · rfl

/-- A lease that runs or restarts changes nobody's hold. -/
theorem Check.core_lease (c : Check) (n : Hold → Nat) :
    ({ c with hold := c.hold.map fun h => { h with lease := n h } } : Check).core = c.core := by
  simp [Check.core, Check.chains, Check.seating, Check.holder, Function.comp_def]

/-! ### Shared operations -/

theorem State.sameCore_restartLease : SameCore s (s.restartLease i) :=
  s.sameCore_mod i fun c => c.core_lease fun _ => s.fullLease

theorem State.sameCore_restartIfHolder : SameCore s (s.restartIfHolder p i) := by
  unfold State.restartIfHolder
  split
  · exact s.sameCore_restartLease i
  · exact .refl s

theorem State.sameCore_afterEdit : SameCore s (s.afterEdit i) :=
  (s.sameCore_abortReads i _).trans (State.sameCore_restartLease _ i)

theorem State.sameCore_afterAmounts : SameCore s (s.modCheck i Check.afterAmounts) :=
  s.sameCore_mod i Check.core_afterAmounts

theorem State.sameCore_appendRecord (index : Option (Fin 64)) (key : Key) (body : RecordBody) :
    SameCore s (s.appendRecord index key body) := by
  refine ⟨fun j => ?_, by simp, by simp, by simp⟩
  cases index with
  | none => rw [State.check, State.appendRecord_none_table, ← State.check]
  | some i =>
    rw [State.appendRecord_check, ← State.check_modCheck]
    exact (s.sameCore_mod i (f := fun c => { c with pendingUplink := c.pendingUplink + 1 })
      fun _ => rfl).entries j

theorem State.sameCore_scheduleAt : SameCore s (s.scheduleAt i) := by
  unfold State.scheduleAt
  split
  · split
    · exact (s.sameCore_appendRecord _ _ _).trans (State.sameCore_mod _ i fun _ => by rfl)
    · exact .refl s
  · exact .refl s

theorem State.sameCore_scheduleDeltas : SameCore s s.scheduleDeltas :=
  SameCore.foldl _ State.sameCore_scheduleAt s allIdx

theorem State.sameCore_cancelPosted : SameCore s (s.cancelPosted i) :=
  (s.sameCore_setRing _).trans (State.sameCore_mod _ i fun c =>
    foldl_unreserve Check.core (fun _ _ _ => rfl) c _)

theorem State.sameCore_enterConflict (kind : ConflictKind) : SameCore s (s.enterConflict i kind) :=
  (s.sameCore_mod i fun _ => by rfl).trans
    ((State.sameCore_cancelPosted _ i).trans (State.sameCore_raise _ _ _))

theorem State.sameCore_settleImage : SameCore s (s.settleImage i) := by
  unfold State.settleImage
  split
  · split
    · exact s.sameCore_enterConflict i _
    · exact s.sameCore_afterAmounts i
  · exact .refl s

theorem State.sameCore_setServer (server : Nat) : SameCore s (s.setServer i server) :=
  s.sameCore_mod i fun _ => by rfl

theorem State.sameCore_uncount : SameCore s (s.uncount i) := s.sameCore_mod i fun _ => by rfl

theorem State.sameCore_unsend : SameCore s s.unsend := by
  unfold State.unsend
  exact (s.sameCore_setUplink _).trans (SameCore.foldl _ State.sameCore_uncount _ _)

theorem State.sameCore_loseLink : SameCore s s.loseLink :=
  (s.sameCore_setLink .down).trans (State.sameCore_unsend _)

theorem State.sameCore_finishTaken (k : Nat) (t : Tender) (e : TenderEnd) :
    SameCore s (s.finishTaken k t e) := s.sameCore_setRing _

theorem Check.core_unreserve (c : Check) (share base : Nat) :
    (c.unreserve share base).afterAmounts.core = c.core := Check.core_afterAmounts _

theorem State.sameCore_timeOutTaken (expired : Bool) : SameCore s (s.timeOutTaken expired) := by
  unfold State.timeOutTaken
  split
  · exact .refl s
  · next t _ =>
    have hfinished := (s.sameCore_setRing { s.ring with
        tenders := s.ring.tenders.set ‹Nat› { t with phase := .finished .timedOut }
        timer := none
        late := pushLate s.ring.late t.lateEntry }).trans
      ((State.sameCore_mod _ t.index fun c => c.core_unreserve t.share t.base).trans
        ((State.sameCore_countTotals _ fun n => { n with timeouts := bumpCount n.timeouts }).trans
          (State.sameCore_raise _ .console .tenderFinished)))
    dsimp only
    split
    · exact hfinished.trans (State.sameCore_raise _ _ _)
    · exact hfinished

theorem State.sameCore_advance (dt : Nat) : SameCore s (s.advance dt) := by
  have hsame := s.advance_same dt
  obtain ⟨-, -, -, -, -, hpool, hholds, -, -, -, hfloor, -⟩ := hsame
  refine ⟨fun i => ?_, by rw [hpool (by simp)], by rw [hfloor (by simp)], hholds (by simp)⟩
  by_cases hheld : s.modes.resetHeld = true
  · simp [State.advance, hheld]
  · rw [Bool.not_eq_true] at hheld
    by_cases hmode : s.modes.mode = .sleep
    · rw [State.advance_check_of_sleep dt hheld hmode]
    · rw [State.advance_check_of_running dt hheld hmode, Option.map_map]
      exact congrArg (Option.map · _) (funext fun c => c.core_lease fun h => h.lease - dt)

/-! ### Tenders and results -/

theorem State.sameCore_countApproval (w : ResultWire) (late : Bool) :
    SameCore s (s.countApproval w late) :=
  .of_same (touched := [.offline, .totals]) (by simp [SameBut]) (by simp)

theorem State.sameCore_applyLate (amount tip : Nat) : SameCore s (s.applyLate i amount tip) := by
  have hmod : SameCore s (s.modCheck i fun c => c.approve amount tip) :=
    s.sameCore_mod i fun _ => rfl
  unfold State.applyLate
  dsimp only
  split
  · split
    · exact hmod.trans (State.sameCore_enterConflict _ i _)
    · exact hmod.trans (State.sameCore_afterAmounts _ i)
  · exact hmod

theorem State.sameCore_approveTarget (g : ResultTarget) (w : ResultWire) :
    SameCore s (s.approveTarget g w) := by
  cases g with
  | taken k t =>
    exact (s.sameCore_finishTaken k t _).trans ((State.sameCore_mod _ t.index fun _ => by rfl).trans
      ((State.sameCore_appendRecord _ _ _ _).trans ((State.sameCore_countApproval _ w false).trans
        ((State.sameCore_afterAmounts _ t.index).trans (State.sameCore_raise _ _ _)))))
  | late e =>
    have hdrop : SameCore s (s.dropLate e) := s.sameCore_setRing _
    unfold State.approveTarget State.approveLate
    dsimp only
    split
    · exact hdrop.trans ((State.sameCore_appendRecord _ _ _ _).trans
        ((State.sameCore_applyLate _ _ _ _).trans ((State.sameCore_countApproval _ w true).trans
          (State.sameCore_raise _ _ _))))
    · exact hdrop.trans ((State.sameCore_appendRecord _ _ _ _).trans
        ((State.sameCore_countApproval _ w true).trans (State.sameCore_raise _ _ _)))

theorem State.sameCore_declineTarget (g : ResultTarget) : SameCore s (s.declineTarget g) := by
  cases g with
  | taken k t =>
    exact (s.sameCore_finishTaken k t _).trans ((State.sameCore_mod _ t.index fun c =>
      c.core_unreserve t.share t.base).trans ((State.sameCore_countTotals _ _).trans
        (State.sameCore_raise _ _ _)))
  | late e => exact s.sameCore_setRing _

theorem State.sameCore_settleRecord (r : UplinkRecord) : SameCore s (s.settleRecord r) := by
  have hcount : SameCore s (match r.index with
      | some i => s.uncount i
      | none => s) := by
    split
    · exact s.sameCore_uncount _
    · exact .refl s
  have hoffline (u : State) (v : OfflineUnit) : SameCore u (u.setOffline v) :=
    .of_same (touched := [.offline]) (by simp [SameBut]) (by simp)
  unfold State.settleRecord
  dsimp only
  (repeat' split) <;> simp only [*] at hcount
  · exact hcount.trans (hoffline _ _)
  · exact hcount.trans (hoffline _ _)
  · exact hcount
  · exact hcount

theorem State.sameCore_deliver (gone : List UplinkRecord) : SameCore s (s.deliver gone) :=
  .of_same (s.deliver_same gone) (by simp)

theorem State.sameCore_readyAgain : SameCore s s.readyAgain := by
  unfold State.readyAgain
  split
  · exact s.sameCore_raise _ _
  · exact .refl s

theorem State.sameCore_placeClose (c : Check) : SameCore s (s.placeClose i c).2 := by
  unfold State.placeClose
  split
  · exact s.sameCore_setUplink _
  · exact s.sameCore_appendRecord (some i) c.key (.close c.revision)

theorem State.sameCore_continueStream (st : Stream) : SameCore s (s.continueStream p st) :=
  .of_same (s.continueStream_same p st) (by simp)

theorem State.sameCore_failStream (st : Stream) (o : ReplyOutcome) :
    SameCore s (s.failStream p st o) :=
  .of_same (s.failStream_same p st o) (by simp)

end

/-! ### Rules -/

/-- The rules that change chains, holds or an assembly, each by its own argument. -/
def movesCore : Instr → Bool
  | .commitNew .. | .checkClose .. | .resolveClose .. | .itemAdd .. | .itemVoid .. | .hold .. |
    .release .. | .streamOpenItemsRead .. | .streamOpenItemsWrite .. | .streamPut .. |
    .streamClose .. | .imageBegin .. | .imageEnd .. | .imageAbort .. | .linkStateDown .. |
    .retire .. | .uplinkAck .. | .portReset .. | .config1 .. => true
  | _ => false

theorem commitRule_sameCore (s : State) : SameCore s (commitRule s).state := by
  unfold commitRule State.commitTo
  dsimp only
  split
  · next i _ _ =>
    split
    · exact .refl s
    · next c hc =>
      refine State.tested_keeps (.refl s) fun _ => ?_
      dsimp only [State.accept]
      refine (s.sameCore_put i hc (c.core_takeHeader s.staging.primary)).trans (SameCore.trans ?_
        ((State.sameCore_restartLease _ i).trans (State.sameCore_setStaging _ _)))
      split
      · exact .refl _
      · exact State.sameCore_abortReads _ i _
  · exact .refl s

theorem resolveKeepRule_sameCore (index : Byte) (key : Half) (resolution : Byte) (s : State) :
    SameCore s (resolveKeepRule index key resolution s).state := by
  refine State.tested_keeps (.refl s) fun _ => State.onNamed_keeps (.refl s) fun i c _ =>
    State.tested_keeps (.refl s) fun _ => ?_
  have hmod := s.sameCore_mod i Check.core_dropOverpaidPlan
  dsimp only [State.accept]
  refine SameCore.trans ?_ (State.sameCore_restartLease _ i)
  split
  · exact (hmod.trans (State.sameCore_abortReads _ i _)).trans (State.sameCore_appendRecord _ _ _ _)
  · exact hmod.trans (State.sameCore_appendRecord _ _ _ _)

theorem splitSetRule_sameCore (index : Byte) (key : Half) (basis count : Byte) (elems : List Tri)
    (s : State) : SameCore s (splitSetRule index key basis count elems s).state := by
  refine State.onNamed_keeps (.refl s) fun i c hc => State.tested_keeps (.refl s) fun _ => ?_
  split
  · exact .refl s
  · exact (s.sameCore_put i hc (by rfl)).trans (State.sameCore_afterEdit _ i)

theorem streamNextRule_sameCore (p : Port) (s : State) : SameCore s (streamNextRule p s).state := by
  unfold streamNextRule
  split
  · exact .refl s
  · exact .refl s
  · exact .refl s
  · split
    · dsimp only [State.readNext, State.accept]
      split
      · exact (s.sameCore_continueStream p _).trans (State.sameCore_restartIfHolder _ _ _)
      · exact s.sameCore_continueStream p _
    · exact .refl s

theorem Check.core_reserve (c : Check) (share base : Nat) :
    (c.reserve share base).afterAmounts.core = c.core := Check.core_afterAmounts _

theorem Check.core_approve (c : Check) (share base tip : Nat) :
    ((c.approve base tip).approveShare share base tip).afterAmounts.core = c.core :=
  Check.core_afterAmounts _

theorem State.sameCore_postCard (s : State) (i : Fin 64) (c : Check) (w : PostWire) (m : TipMode) :
    SameCore s (s.postCard i c w m) := by
  unfold State.postCard State.pushTender
  exact (s.sameCore_setRing _).trans ((State.sameCore_mod _ i fun c => c.core_reserve _ _).trans
    ((State.sameCore_restartLease _ i).trans (State.sameCore_raise _ _ _)))

theorem State.sameCore_postCash (s : State) (i : Fin 64) (c : Check) (w : PostWire) (m : TipMode) :
    SameCore s (s.postCash i c w m) := by
  unfold State.postCash State.pushTender
  dsimp only
  exact (s.sameCore_setRing _).trans ((State.sameCore_mod _ i fun c => c.core_approve _ _ _).trans
    ((State.sameCore_appendRecord _ _ _ _).trans
      ((State.sameCore_countTotals _ _).trans (State.sameCore_restartLease _ i))))

theorem postCardRule_sameCore (index : Byte) (key : Half) (cls : Byte) (w : PostWire) (s : State) :
    SameCore s (postCardRule index key cls w s).state :=
  State.tested_keeps (.refl s) fun _ => State.onNamed_keeps (.refl s) fun i c _ =>
    State.tested_keeps (.refl s) fun _ => s.sameCore_postCard i c w _

theorem postCashRule_sameCore (index : Byte) (key : Half) (w : PostWire) (s : State) :
    SameCore s (postCashRule index key w s).state :=
  State.tested_keeps (.refl s) fun _ => State.onNamed_keeps (.refl s) fun i c _ =>
    State.tested_keeps (.refl s) fun _ => s.sameCore_postCash i c w _

theorem tenderCancelRule_sameCore (serial : Half) (s : State) :
    SameCore s (tenderCancelRule serial s).state := by
  refine State.tested_keeps (.refl s) fun _ => ?_
  split
  · exact .refl s
  · next k t _ =>
    split
    · exact (s.sameCore_setRing _).trans
        (State.sameCore_mod _ t.index fun c => c.core_unreserve t.share t.base)
    · exact (s.sameCore_setRing _).trans (State.sameCore_raise _ _ _)
    · exact .refl s

theorem linkUpRule_sameCore (value : Byte) (s : State) :
    SameCore s (linkUpRule value s).state := by
  refine State.tested_keeps (.refl s) fun _ => ?_
  split
  · exact .refl s
  · dsimp only [State.accept]
    refine (s.sameCore_setLink .up).trans ?_
    split
    · exact State.sameCore_raise _ _ _
    · exact .refl _

theorem uplinkNextRule_sameCore (s : State) : SameCore s (uplinkNextRule s).state := by
  refine State.tested_keeps (.refl s) fun _ => ?_
  split
  · exact .refl s
  · dsimp only [State.accept]
    exact (s.sameCore_setUplink _).trans (State.sameCore_scheduleDeltas _)

/-- Every other rule changes no core. -/
theorem rule_sameCore {c : Instr} {r : Served} (h : requestOf c = some r) (s : State)
    (hc : movesCore c = false) : SameCore s (r.rule s).state := by
  have hsame := rule_same h s
  cases c <;> simp only [requestOf, Option.some.injEq, reduceCtorEq] at h <;>
    simp only [movesCore, Bool.true_eq_false] at hc <;> subst h
  case commit => exact commitRule_sameCore s
  case resolveKeep => exact resolveKeepRule_sameCore _ _ _ s
  case splitSet => exact splitSetRule_sameCore _ _ _ _ _ s
  case splitClear =>
    exact State.onNamed_keeps (.refl s) fun i _ hc => State.tested_keeps (.refl s) fun _ =>
      (s.sameCore_put i hc (by rfl)).trans (State.sameCore_afterEdit _ i)
  case renew =>
    exact State.onNamed_keeps (.refl s) fun i _ _ =>
      State.tested_keeps (.refl s) fun _ => s.sameCore_restartLease i
  case streamNext => exact streamNextRule_sameCore _ s
  case tenderPostCard => exact postCardRule_sameCore _ _ _ _ s
  case tenderPostCash => exact postCashRule_sameCore _ _ _ s
  case tenderCancel => exact tenderCancelRule_sameCore _ s
  case tenderResultApproved =>
    refine State.tested_keeps (.refl s) fun _ => ?_
    split
    · exact .refl s
    · exact State.tested_keeps (.refl s) fun _ => s.sameCore_approveTarget _ _
  case tenderResultDeclined =>
    refine State.tested_keeps (.refl s) fun _ => ?_
    split
    · exact .refl s
    · exact State.tested_keeps (.refl s) fun _ => s.sameCore_declineTarget _
  case linkStateUp => exact linkUpRule_sameCore _ s
  case uplinkNext => exact uplinkNextRule_sameCore s
  all_goals exact .of_same hsame (by simp [touchedBy])

end Sys2Proof.Machine
end

section
/-!
SUPPORT. The chains of the Item Pool: what each operation moves between them, counted record by record
(R41), and the serials on them (R46).
-/

namespace Sys2Proof.Machine

/-! ### How often a record stands on a chain -/

/-- How often a record stands on some items. -/
def uses (items : List Item) (n : Nat) : Nat := (items.map Item.record).count n

/-- The items of a pending image, if there is one. -/
def imageItems : Option PendingImage → List Item
  | none => []
  | some g => g.chain

/-- The items of an assembly, if there is one. -/
def assemblyItems : Option Assembly → List Item
  | none => []
  | some a => a.items

/-- How often a record stands on an entry's chains. -/
def entryUses (c : Option Check) (n : Nat) : Nat := (entryRecords c).count n

/-- How often a record stands on some chain. -/
def State.onChains (s : State) (n : Nat) : Nat := s.chainedRecords.count n

@[simp] theorem uses_nil (n : Nat) : uses [] n = 0 := rfl

@[simp] theorem uses_append (items more : List Item) (n : Nat) :
    uses (items ++ more) n = uses items n + uses more n := by
  simp [uses, List.count_append]

@[simp] theorem entryUses_none (n : Nat) : entryUses none n = 0 := rfl

@[simp] theorem entryUses_some (c : Check) (n : Nat) :
    entryUses (some c) n = uses c.items n + uses (imageItems c.image) n := by
  rw [entryUses, entryRecords, List.count_append]
  cases c.image <;> rfl

theorem State.assemblyRecords_eq (s : State) :
    s.assemblyRecords = (assemblyItems s.floor.assembly).map Item.record := by
  unfold State.assemblyRecords
  cases s.floor.assembly <;> rfl

theorem State.onChains_eq (s : State) (n : Nat) :
    s.onChains n = s.pool.free.count n + (∑ i, entryUses (s.check i) n +
      uses (assemblyItems s.floor.assembly) n) := by
  rw [State.onChains, State.chainedRecords, List.count_append, List.count_append,
    List.count_flatMap, State.assemblyRecords_eq, Fin.sum_univ_def]
  rfl

/-- Every record is on exactly one chain where every record stands as often as among the 512. -/
theorem State.poolPartitioned_iff (s : State) :
    s.PoolPartitioned ↔ ∀ n, s.onChains n = (List.range Config.poolSize).count n :=
  List.perm_iff_count

section
variable (s : State) (i : Fin 64) (n : Nat)

theorem State.onChains_putCheck (c : Option Check) :
    (s.putCheck i c).onChains n + entryUses (s.check i) n = s.onChains n + entryUses c n := by
  have hothers : ∑ j ∈ Finset.univ.erase i, entryUses ((s.putCheck i c).check j) n =
      ∑ j ∈ Finset.univ.erase i, entryUses (s.check j) n :=
    Finset.sum_congr rfl fun j hj => by rw [State.check_putCheck, if_neg (Finset.ne_of_mem_erase hj)]
  have hput := Finset.add_sum_erase Finset.univ (fun j => entryUses ((s.putCheck i c).check j) n)
    (Finset.mem_univ i)
  have hold := Finset.add_sum_erase Finset.univ (fun j => entryUses (s.check j) n)
    (Finset.mem_univ i)
  have hpool : (s.putCheck i c).pool = s.pool := by simp
  have hfloor : (s.putCheck i c).floor = s.floor := by simp
  simp only [State.check_putCheck, if_true] at hput hothers
  rw [State.onChains_eq, State.onChains_eq, hpool, hfloor]
  simp only [State.check_putCheck]
  omega

theorem State.onChains_freeItems (items : List Item) :
    (s.freeItems items).onChains n = s.onChains n + uses items n := by
  rw [State.onChains_eq, State.onChains_eq]
  simp only [State.freeItems, State.setPool_pool, State.setPool_check, State.setPool_floor,
    List.count_append, uses]
  omega

theorem State.onChains_setAssembly (a : Option Assembly) :
    (s.setFloor { s.floor with assembly := a }).onChains n +
      uses (assemblyItems s.floor.assembly) n = s.onChains n + uses (assemblyItems a) n := by
  rw [State.onChains_eq, State.onChains_eq]
  simp only [State.setFloor_pool, State.setFloor_check, State.setFloor_floor]
  omega

/-- The record at the head of the free list goes to an item. -/
theorem State.onChains_dropFree (h : s.pool.free ≠ []) {it : Item}
    (hit : it.record = s.pool.free.headD 0) :
    s.dropFree.onChains n + uses [it] n = s.onChains n := by
  obtain ⟨r, rest, hfree⟩ := List.exists_cons_of_ne_nil h
  rw [State.onChains_eq, State.onChains_eq]
  simp only [State.dropFree, State.setPool_pool, State.setPool_check, State.setPool_floor, uses,
    List.map_singleton, hit, hfree, List.headD_cons, List.tail_cons, List.count_cons, List.count_nil]
  omega

end

/-! ### What keeps the chains -/

/-- The chains of no entry change, nor free list and assembly. -/
structure SameChains (s t : State) : Prop where
  entries : ∀ i, (t.check i).map Check.chains = (s.check i).map Check.chains
  free : t.pool.free = s.pool.free
  assembly : t.floor.assembly = s.floor.assembly

theorem SameCore.chains {s t : State} (h : SameCore s t) : SameChains s t where
  entries i := by
    have := congrArg (Option.map Prod.fst) (h.entries i)
    rw [Option.map_map, Option.map_map] at this
    exact this
  free := h.free
  assembly := h.assembly

theorem SameChains.refl (s : State) : SameChains s s := (SameCore.refl s).chains

theorem SameChains.trans {s t w : State} (h : SameChains s t) (k : SameChains t w) :
    SameChains s w where
  entries i := (k.entries i).trans (h.entries i)
  free := k.free.trans h.free
  assembly := k.assembly.trans h.assembly

theorem SameChains.foldl {α : Type} (f : State → α → State) (h : ∀ s a, SameChains s (f s a))
    (s : State) (l : List α) : SameChains s (l.foldl f s) :=
  foldl_preserves f (SameChains s) (fun b a hb => hb.trans (h b a)) s l (.refl s)

theorem SameChains.check {s t : State} (h : SameChains s t) {i : Fin 64} {c : Check}
    (hc : s.check i = some c) : ∃ d, t.check i = some d ∧ d.chains = c.chains := by
  have := h.entries i
  rw [hc] at this
  exact Option.map_eq_some_iff.1 this

theorem SameChains.check_back {s t : State} (h : SameChains s t) {i : Fin 64} {d : Check}
    (hd : t.check i = some d) : ∃ c, s.check i = some c ∧ c.chains = d.chains := by
  have := (h.entries i).symm
  rw [hd] at this
  exact Option.map_eq_some_iff.1 this

theorem Check.chains_eq_iff (c d : Check) :
    c.chains = d.chains ↔ c.items = d.items ∧ c.nextSerial = d.nextSerial ∧ c.image = d.image := by
  simp [Check.chains]

theorem entryUses_congr {c d : Option Check} (h : c.map Check.chains = d.map Check.chains)
    (n : Nat) : entryUses c n = entryUses d n := by
  cases c with
  | none =>
    cases d with
    | none => rfl
    | some d => cases h
  | some c =>
    cases d with
    | none => cases h
    | some d =>
      obtain ⟨hitems, -, himage⟩ := (c.chains_eq_iff d).1 (Option.some.inj h)
      rw [entryUses_some, entryUses_some, hitems, himage]

/-- What the partition and the serials need of a change. -/
structure ChainsKept (s t : State) : Prop where
  records : ∀ n, t.onChains n = s.onChains n
  serials : s.SerialsRise → t.SerialsRise

theorem ChainsKept.partition {s t : State} (h : ChainsKept s t) (hs : s.PoolPartitioned) :
    t.PoolPartitioned := by
  rw [State.poolPartitioned_iff] at hs ⊢
  exact fun n => (h.records n).trans (hs n)

theorem ChainsKept.refl (s : State) : ChainsKept s s := ⟨fun _ => rfl, id⟩

theorem ChainsKept.trans {s t w : State} (h : ChainsKept s t) (k : ChainsKept t w) :
    ChainsKept s w :=
  ⟨fun n => (k.records n).trans (h.records n), fun hs => k.serials (h.serials hs)⟩

theorem ChainsKept.foldl {α : Type} (f : State → α → State) (h : ∀ s a, ChainsKept s (f s a))
    (s : State) (l : List α) : ChainsKept s (l.foldl f s) :=
  foldl_preserves f (ChainsKept s) (fun b a hb => hb.trans (h b a)) s l (.refl s)

theorem Check.serialsRise_congr {c d : Check} (h : d.chains = c.chains) (hc : c.SerialsRise) :
    d.SerialsRise := by
  obtain ⟨hitems, hnext, himage⟩ := (d.chains_eq_iff c).1 h
  rw [Check.SerialsRise, hitems, hnext, himage]
  exact hc

theorem SameChains.onChains {s t : State} (h : SameChains s t) (n : Nat) :
    t.onChains n = s.onChains n := by
  rw [State.onChains_eq, State.onChains_eq, h.free, h.assembly]
  simp only [fun i => entryUses_congr (h.entries i) n]

theorem SameChains.serialsRise {s t : State} (h : SameChains s t) (hs : s.SerialsRise) :
    t.SerialsRise := by
  refine ⟨fun i d hd => ?_, ?_⟩
  · obtain ⟨c, hc, hchains⟩ := h.check_back hd
    exact Check.serialsRise_congr hchains.symm (hs.1 i c hc)
  · rw [h.assembly]
    exact hs.2

theorem SameChains.kept {s t : State} (h : SameChains s t) : ChainsKept s t :=
  ⟨h.onChains, h.serialsRise⟩

theorem SameCore.kept {s t : State} (h : SameCore s t) : ChainsKept s t := h.chains.kept

theorem State.serialsRise_put {s : State} (i : Fin 64) {c : Option Check} (hs : s.SerialsRise)
    (hc : ∀ d ∈ c, d.SerialsRise) : (s.putCheck i c).SerialsRise := by
  refine ⟨fun j d hd => ?_, by simpa using hs.2⟩
  rw [State.check_putCheck] at hd
  split at hd
  · exact hc d hd
  · exact hs.1 j d hd

theorem State.serialsRise_setAssembly {s : State} {a : Option Assembly} (hs : s.SerialsRise)
    (ha : ∀ b ∈ a, serialsRise b.items 256) :
    (s.setFloor { s.floor with assembly := a }).SerialsRise := ⟨hs.1, ha⟩

theorem serialsRise_append {items : List Item} {bound : Nat} {it : Item}
    (h : serialsRise items bound) {more : Nat} (hbelow : ∀ a ∈ items, a.serial < it.serial)
    (hit : it.serial < more) (hmore : bound ≤ more) : serialsRise (items ++ [it]) more := by
  obtain ⟨hrise, hbound⟩ := h
  refine ⟨?_, fun a ha => ?_⟩
  · rw [List.map_append, List.pairwise_append]
    refine ⟨hrise, List.pairwise_singleton _ _, fun a ha b hb => ?_⟩
    obtain ⟨c, hc, rfl⟩ := List.mem_map.1 ha
    rw [List.map_singleton, List.mem_singleton] at hb
    exact hb ▸ hbelow c hc
  · obtain ha | ha := List.mem_append.1 ha
    · exact Nat.lt_of_lt_of_le (hbound a ha) hmore
    · exact List.mem_singleton.1 ha ▸ hit

/-- The serials that rise below any bound rise below one more than the highest. -/
theorem serialsRise_highest {items : List Item} {bound : Nat} (h : serialsRise items bound) :
    serialsRise items (highestSerial items + 1) :=
  ⟨h.1, (highestSerial_lt items _ (Nat.succ_pos _)).1 (Nat.lt_succ_self _)⟩

/-! ### Holds and waits move no chain -/

section
variable (s : State) (i : Fin 64) (p : Port)

theorem State.sameChains_mod {f : Check → Check}
    (h : ∀ c, (f c).chains = c.chains) : SameChains s (s.modCheck i f) := by
  refine ⟨fun j => ?_, by simp, by simp⟩
  rw [State.check_modCheck]
  split
  · next hj => simp [hj, Function.comp_def, h]
  · rfl

theorem State.sameChains_setHolds (v : HoldArbiter) : SameChains s (s.setHolds v) :=
  ⟨fun _ => rfl, rfl, rfl⟩

theorem State.sameChains_grantHold : SameChains s (s.grantHold p i) :=
  (s.sameChains_mod i fun _ => by rfl).trans (State.sameChains_setHolds _ _)

theorem State.sameChains_dropHold : SameChains s (s.dropHold i) := by
  unfold State.dropHold
  split
  · exact (s.sameChains_mod i fun _ => by rfl).trans (State.sameChains_setHolds _ _)
  · exact .refl s

theorem State.sameChains_endWait : SameChains s (s.endWait p) :=
  (s.sameChains_setHolds _).trans (State.sameCore_raise _ _ _).chains

theorem State.sameChains_dismissWaiters : SameChains s (s.dismissWaiters i) := by
  unfold State.dismissWaiters
  split
  · exact (SameChains.foldl _ State.sameChains_endWait s _).trans (State.sameChains_mod _ i fun _ => by rfl)
  · exact .refl s

theorem State.sameChains_leaveList : SameChains s (s.leaveList p i) :=
  (s.sameChains_mod i fun _ => by rfl).trans (State.sameChains_setHolds _ _)

theorem State.sameChains_joinList : SameChains s (s.joinList p i) :=
  (s.sameChains_mod i fun _ => by rfl).trans (State.sameChains_setHolds _ _)

theorem State.sameChains_grantWaiters (l : List Port) : SameChains s (State.grantWaiters i l s) := by
  induction l generalizing s with
  | nil => exact s.sameChains_mod i fun _ => by rfl
  | cons p rest ih =>
    unfold State.grantWaiters
    split
    · exact (s.sameChains_grantHold i p).trans ((State.sameChains_mod _ i fun _ => by rfl).trans
        ((State.sameChains_setHolds _ _).trans (State.sameCore_raise _ _ _).chains))
    · exact (s.sameChains_endWait p).trans (ih _)

theorem State.sameChains_endQuietly : SameChains s (s.endQuietly i) :=
  (s.sameChains_dropHold i).trans ((State.sameCore_abortWrite _ _ _ _).chains.trans
    (State.sameChains_dismissWaiters _ _))

/-! ### Chains that return to the free list -/

theorem State.discardImage_check {c : Check} (hc : s.check i = some c) :
    (s.discardImage i).check i = some { c with image := none } := by
  cases himage : c.image with
  | none =>
    simp only [State.discardImage, hc, himage]
    exact congrArg some (by rw [← himage])
  | some g => simp [State.discardImage, State.freeItems, hc, himage]

theorem State.discardImage_kept : ChainsKept s (s.discardImage i) := by
  unfold State.discardImage
  split
  · next c hc =>
    split
    · next g himage =>
      have hfreed : (s.freeItems g.chain).check i = some c := by simpa [State.freeItems] using hc
      rw [State.modCheck_of_check _ _ _ _ hfreed]
      refine ⟨fun n => ?_, fun hs => ?_⟩
      · have hput := (s.freeItems g.chain).onChains_putCheck i n (some { c with image := none })
        rw [hfreed, State.onChains_freeItems] at hput
        simp only [entryUses_some, himage, imageItems, uses_nil] at hput
        omega
      · refine State.serialsRise_put (s := s.freeItems g.chain) i hs fun d hd => ?_
        cases hd
        exact ⟨(hs.1 i c hc).1, fun g hg => by cases hg⟩
    · exact .refl s
  · exact .refl s

theorem State.discardOlder_kept (server : Nat) : ChainsKept s (s.discardOlder i server) := by
  unfold State.discardOlder
  split
  · split
    · split
      · exact s.discardImage_kept i
      · exact .refl s
    · exact .refl s
  · exact .refl s

/-- The check of an entry after an older pending image is discarded. -/
theorem State.discardOlder_check {c : Check} (hc : s.check i = some c) (server : Nat) :
    ∃ im, (s.discardOlder i server).check i = some { c with image := im } := by
  unfold State.discardOlder
  simp only [hc]
  split
  · split
    · exact ⟨none, s.discardImage_check i hc⟩
    · exact ⟨c.image, hc⟩
  · exact ⟨c.image, hc⟩

theorem State.discardAssembly_kept : ChainsKept s s.discardAssembly := by
  unfold State.discardAssembly
  split
  · next a ha =>
    refine ⟨fun n => ?_, fun hs => ⟨hs.1, fun b hb => by cases hb⟩⟩
    have hset := (s.freeItems a.items).onChains_setAssembly n none
    have hfloor : (s.freeItems a.items).floor = s.floor := by simp
    rw [hfloor, State.onChains_freeItems, ha] at hset
    simp only [assemblyItems, uses_nil] at hset ⊢
    omega
  · exact .refl s

theorem State.closeChannel_kept : ChainsKept s (s.closeChannel p) := by
  unfold State.closeChannel
  split
  · split
    · exact s.discardAssembly_kept.trans (State.sameCore_setChannel _ p _).kept
    · exact (s.sameCore_setChannel p _).kept
  · exact (s.sameCore_setChannel p _).kept

/-- An entry whose items are on the free list besides becomes FREE, its image gone before. -/
theorem State.freed_kept {s u : State} {i : Fin 64} {d : Check} (hd : u.check i = some d)
    (himage : d.image = none) (hrecords : ∀ n, u.onChains n = s.onChains n + uses d.items n)
    (hserials : s.SerialsRise → u.SerialsRise) : ChainsKept s (u.putCheck i none) := by
  refine ⟨fun n => ?_, fun hs => State.serialsRise_put i (hserials hs) fun d hd => by cases hd⟩
  have hput := u.onChains_putCheck i n none
  rw [hd, hrecords] at hput
  simp only [entryUses_some, himage, imageItems, uses_nil, entryUses_none] at hput
  omega

end

/-! ### Entries that become FREE -/

section
variable (s : State) (i : Fin 64)

theorem State.freeEntry_kept : ChainsKept s (s.freeEntry i) := by
  unfold State.freeEntry
  split
  · next c hc =>
    dsimp only
    have hheld : SameChains s (match c.holder with
        | some p => ((s.dropHold i).raise p .leaseLost).abortWrite p i .gone
        | none => s) := by
      split
      · exact (s.sameChains_dropHold i).trans
          ((State.sameCore_raise _ _ _).trans (State.sameCore_abortWrite _ _ _ _)).chains
      · exact .refl s
    have hquiet := hheld.trans (State.sameChains_dismissWaiters _ i)
    obtain ⟨b, hb, hchains⟩ := hquiet.check hc
    obtain ⟨hitems, -, -⟩ := (b.chains_eq_iff c).1 hchains
    have hfreed := hquiet.kept
    generalize State.dismissWaiters _ i = u at hb hfreed ⊢
    have hdiscarded := State.discardImage_kept (u.freeItems c.items) i
    have hcheck := State.discardImage_check (u.freeItems c.items) i hb
    have haborted := (State.sameCore_abortReads ((u.freeItems c.items).discardImage i) i .gone).chains
    obtain ⟨d, hd, hdchains⟩ := haborted.check hcheck
    obtain ⟨hditems, -, himage⟩ := (d.chains_eq_iff _).1 hdchains
    refine State.freed_kept hd himage (fun n => ?_) fun hs =>
      haborted.serialsRise (hdiscarded.serials (hfreed.serials hs))
    rw [haborted.onChains, hdiscarded.records, State.onChains_freeItems, hfreed.records, hditems,
      hitems]
  · exact .refl s

/-- An evicted entry has no pending image. -/
theorem State.evict_kept (h : s.evictable i = true) : ChainsKept s (s.evict i) := by
  unfold State.evict
  split
  · next c hc =>
    have himage : c.image = none := by
      simp only [State.evictable, hc, Bool.and_eq_true, Option.isNone_iff_eq_none] at h
      exact h.2
    have haborted := (State.sameCore_abortReads (s.freeItems c.items) i .gone).chains
    obtain ⟨d, hd, hchains⟩ := haborted.check (i := i) (c := c) (by simpa [State.freeItems] using hc)
    obtain ⟨hitems, -, hdimage⟩ := (d.chains_eq_iff c).1 hchains
    have hfreed := State.freed_kept (s := s) hd (hdimage.trans himage)
      (fun n => by rw [haborted.onChains, State.onChains_freeItems, hitems]) haborted.serialsRise
    refine hfreed.trans ((State.sameCore_raise _ .console .eviction).trans ?_).kept
    exact ⟨fun _ => rfl, rfl, rfl, rfl⟩
  · exact .refl s

theorem State.evict_check : (s.evict i).check i = none := by
  unfold State.evict
  split
  · rw [State.check, State.setTable_table]
    exact (State.check_putCheck _ i i none).trans (if_pos rfl)
  · next h => exact h

theorem State.allocate_kept {u : State} {i : Fin 64} (h : s.allocate = some (i, u)) :
    ChainsKept s u ∧ u.check i = none := by
  unfold State.allocate at h
  split at h
  · next hfree =>
    cases h
    exact ⟨.refl s, by simpa using List.find?_some hfree⟩
  · split at h
    · next hfound =>
      cases h
      exact ⟨s.evict_kept i (by simpa using List.find?_some hfound), s.evict_check i⟩
    · cases h

end

end Sys2Proof.Machine
end

section
/-!
SUPPORT. What images, retirements, items and streams move between the chains, and with them every rule
(R41, R46).
-/

namespace Sys2Proof.Machine

section
variable (s : State) (i : Fin 64)

/-! ### Images and retirements -/

/-- An image's items take the place of an entry's, which return to the free list. -/
theorem State.applyImage_records {c : Check} (hc : s.check i = some c)
    (server owner covers seats : Nat) (items : List Item) (n : Nat) :
    (s.applyImage i server owner covers seats items).onChains n = s.onChains n + uses items n := by
  have hfreed : (s.freeItems c.items).check i = some c := by simpa [State.freeItems] using hc
  have hdiscarded := (s.freeItems c.items).discardOlder_kept i server
  obtain ⟨im, hd⟩ := (s.freeItems c.items).discardOlder_check i hfreed server
  simp only [State.applyImage, hc]
  rw [(State.sameCore_settleImage _ i).chains.onChains, (State.sameCore_raise _ _ _).chains.onChains,
    (State.sameCore_abortReads _ i _).chains.onChains, State.modCheck_of_check _ _ _ _ hd]
  have hput := ((s.freeItems c.items).discardOlder i server).onChains_putCheck i n
    (some (({ c with image := im } : Check).takeImage (s.scopeOf owner) server owner covers seats
      items s.modes.taxRate))
  rw [hd, hdiscarded.records, State.onChains_freeItems] at hput
  simp only [entryUses_some, Check.takeImage, Check.recompute] at hput ⊢
  omega

theorem State.applyImage_serials (server owner covers seats : Nat) {items : List Item}
    (hitems : serialsRise items 256) (hs : s.SerialsRise) :
    (s.applyImage i server owner covers seats items).SerialsRise := by
  unfold State.applyImage
  split
  · next c hc =>
    dsimp only
    have hfreed : (s.freeItems c.items).check i = some c := by simpa [State.freeItems] using hc
    obtain ⟨im, hd⟩ := (s.freeItems c.items).discardOlder_check i hfreed server
    have hdiscarded := ((s.freeItems c.items).discardOlder_kept i server).serials hs
    refine (State.sameCore_settleImage _ i).chains.serialsRise
      ((State.sameCore_raise _ _ _).chains.serialsRise
        ((State.sameCore_abortReads _ i _).chains.serialsRise ?_))
    rw [State.modCheck_of_check _ _ _ _ hd]
    refine State.serialsRise_put i hdiscarded fun d hd' => ?_
    cases hd'
    exact ⟨serialsRise_highest hitems, (hdiscarded.1 i _ hd).2⟩
  · exact hs

/-- The image that leaves its entry, to be applied. -/
theorem State.takePending_records {c : Check} {g : PendingImage} (hc : s.check i = some c)
    (hg : c.image = some g) (n : Nat) :
    (s.takePending i).onChains n + uses g.chain n = s.onChains n := by
  have hput := s.onChains_putCheck i n (some { c with image := none })
  rw [State.takePending, State.modCheck_of_check _ _ _ _ hc]
  rw [hc] at hput
  simp only [entryUses_some, hg, imageItems, uses_nil] at hput
  omega

theorem State.takePending_serials (hs : s.SerialsRise) : (s.takePending i).SerialsRise := by
  unfold State.takePending State.modCheck
  split
  · next c hc =>
    refine State.serialsRise_put i hs fun d hd => ?_
    cases hd
    exact ⟨(hs.1 i c hc).1, fun g hg => by cases hg⟩
  · exact hs

theorem State.deferImage_records {c : Check} (hc : s.check i = some c) (g : PendingImage)
    (n : Nat) : (s.deferImage i g).onChains n = s.onChains n + uses g.chain n := by
  have hd := s.discardImage_check i hc
  rw [State.deferImage, State.modCheck_of_check _ _ _ _ hd]
  have hput := (s.discardImage i).onChains_putCheck i n (some { c with image := some g })
  rw [hd, (s.discardImage_kept i).records] at hput
  simp only [entryUses_some, imageItems, uses_nil] at hput ⊢
  omega

theorem State.deferImage_serials {g : PendingImage} (hg : serialsRise g.chain 256)
    (hs : s.SerialsRise) : (s.deferImage i g).SerialsRise := by
  have hdiscarded := (s.discardImage_kept i).serials hs
  unfold State.deferImage State.modCheck
  split
  · next c hc =>
    refine State.serialsRise_put i hdiscarded fun d hd => ?_
    cases hd
    exact ⟨(hdiscarded.1 i c hc).1, fun b hb => by cases hb; exact hg⟩
  · exact hdiscarded

theorem serialsRise_nil (bound : Nat) : serialsRise [] bound := by simp [serialsRise]

/-- A retirement that is deferred brings no chain. -/
theorem State.deferRetire_kept {c : Check} (hc : s.check i = some c) (server : Nat) :
    ChainsKept s (s.deferImage i ⟨server, .retire⟩) :=
  ⟨fun n => s.deferImage_records i hc ⟨server, .retire⟩ n,
    s.deferImage_serials i (g := ⟨server, .retire⟩) (serialsRise_nil _)⟩

theorem State.applyRetire_kept (server : Nat) : ChainsKept s (s.applyRetire i server) := by
  unfold State.applyRetire
  dsimp only
  refine (s.sameCore_setServer i server).kept.trans ((State.discardOlder_kept _ i server).trans
    (ChainsKept.trans ?_ (State.sameCore_raise _ _ _).kept))
  split
  · split
    · exact (State.sameCore_enterConflict _ i _).kept
    · split
      · exact (State.sameCore_mod _ i fun _ => by rfl).kept
      · exact State.freeEntry_kept _ i
  · exact .refl _

theorem State.discardAndSet_kept (server : Nat) :
    ChainsKept s ((s.discardImage i).setServer i server) :=
  (s.discardImage_kept i).trans (State.sameCore_setServer _ i server).kept

theorem State.tryPending_kept : ChainsKept s (s.tryPending i) := by
  unfold State.tryPending
  split
  · exact .refl s
  · next c hc =>
    split
    · exact .refl s
    · next g hg =>
      have htaken (n : Nat) := s.takePending_records i hc hg n
      have hcheck : (s.takePending i).check i = some { c with image := none } := by
        simp [State.takePending, hc]
      split
      · exact s.discardImage_kept i
      · split
        · next owner covers seats items hbody =>
          have hchain : g.chain = items := by simp [PendingImage.chain, hbody]
          split
          · exact s.discardImage_kept i
          · exact .refl s
          · exact s.discardAndSet_kept i _
          · refine ⟨fun n => ?_, fun hs => State.applyImage_serials _ i _ _ _ _ ?_
              (s.takePending_serials i hs)⟩
            · rw [State.applyImage_records _ i hcheck, ← htaken n, hchain]
            · exact hchain ▸ (hs.1 i c hc).2 g hg
        · next hbody =>
          have hchain : g.chain = [] := by simp [PendingImage.chain, hbody]
          split
          · exact s.discardAndSet_kept i _
          · split
            · exact .refl s
            · refine ChainsKept.trans ⟨fun n => ?_, s.takePending_serials i⟩
                (State.applyRetire_kept _ i _)
              rw [← htaken n, hchain, uses_nil, Nat.add_zero]

theorem State.endOfHold_kept : ChainsKept s (s.endOfHold i) := by
  unfold State.endOfHold
  dsimp only
  have htry := s.tryPending_kept i
  split
  · exact htry
  · next c _ =>
    have hgrant := htry.trans (State.sameChains_grantWaiters _ i c.waiters).kept
    split
    · exact hgrant.trans (State.sameCore_scheduleDeltas _).kept
    · exact hgrant

theorem State.dropAndEnd_kept (p : Port) (r : AbortReason) :
    ChainsKept s (((s.dropHold i).abortWrite p i r).endOfHold i) :=
  (s.sameChains_dropHold i).kept.trans ((State.sameCore_abortWrite _ _ _ _).kept.trans
    (State.endOfHold_kept _ i))

theorem State.expireLease_kept : ChainsKept s (s.expireLease i) := by
  unfold State.expireLease
  split
  · exact (s.sameChains_dropHold i).kept.trans ((State.sameCore_abortWrite _ _ _ _).kept.trans
      ((State.sameCore_raise _ _ _).kept.trans (State.endOfHold_kept _ i)))
  · exact .refl s

theorem State.releaseAll_kept (p : Port) : ChainsKept s (s.releaseAll p) := by
  have hat (s : State) (i : Fin 64) : ChainsKept s (State.releaseAt p s i) := by
    unfold State.releaseAt
    split
    · exact (s.sameChains_dropHold i).kept.trans (State.endOfHold_kept _ i)
    · exact .refl s
  unfold State.releaseAll
  dsimp only
  refine ChainsKept.trans ?_ (ChainsKept.foldl _ hat _ allIdx)
  split
  · exact (s.sameChains_leaveList _ p).kept
  · exact .refl s

theorem State.afterAck_kept (gone : List UplinkRecord) : ChainsKept s (s.afterAck gone) := by
  have hfree (s : State) (i : Fin 64) : ChainsKept s (s.freeIfDone i) := by
    unfold State.freeIfDone
    split
    · split
      · exact s.freeEntry_kept i
      · exact .refl s
    · exact .refl s
  have hretry (s : State) (i : Fin 64) : ChainsKept s (State.retryNamed gone s i) := by
    unfold State.retryNamed
    split
    · exact s.tryPending_kept i
    · exact .refl s
  unfold State.afterAck
  dsimp only
  exact (ChainsKept.foldl _ hfree s allIdx).trans ((ChainsKept.foldl _ hretry _ allIdx).trans
    ((State.sameCore_scheduleDeltas _).trans ((State.sameCore_deliver _ gone).trans
      (State.sameCore_readyAgain _))).kept)

/-! ### Items -/

theorem State.voidItem_kept {c : Check} (hc : s.check i = some c) (serial rate : Nat) :
    ChainsKept s
      (s.putCheck i (some (c.withoutItem serial rate).bump.afterAmounts)) := by
  have hchains : (c.withoutItem serial rate).bump.afterAmounts.chains =
      (voidItem serial c.items, c.nextSerial, c.image) := by
    have := congrArg Prod.fst (Check.core_afterAmounts (c.withoutItem serial rate).bump)
    exact this
  have hsame (it : Item) : (if it.serial = serial then { it with status := .voided } else it).record =
      it.record ∧ (if it.serial = serial then { it with status := .voided } else it).serial =
      it.serial := by
    split <;> exact ⟨rfl, rfl⟩
  generalize (c.withoutItem serial rate).bump.afterAmounts = d at hchains ⊢
  obtain ⟨hitems, hnext, himage⟩ : d.items = voidItem serial c.items ∧ d.nextSerial = c.nextSerial ∧
      d.image = c.image := by simpa [Check.chains] using hchains
  have hrecords : (voidItem serial c.items).map Item.record = c.items.map Item.record := by
    simp only [voidItem, List.map_map, Function.comp_def, hsame]
  have hserials : (voidItem serial c.items).map Item.serial = c.items.map Item.serial := by
    simp only [voidItem, List.map_map, Function.comp_def, hsame]
  refine ⟨fun n => ?_, fun hs => State.serialsRise_put i hs fun b hb => ?_⟩
  · have hput := s.onChains_putCheck i n (some d)
    rw [hc] at hput
    simp only [entryUses_some, hitems, himage, uses, hrecords] at hput
    omega
  · cases hb
    obtain ⟨⟨hrise, hbelow⟩, hpending⟩ := hs.1 i c hc
    refine ⟨⟨by rwa [hitems, hserials], fun it hit => ?_⟩, by rwa [himage]⟩
    rw [hitems] at hit
    obtain ⟨old, hold, rfl⟩ := List.mem_map.1 hit
    rw [(hsame old).2, hnext]
    exact hbelow old hold

theorem State.addItem_kept {c : Check} (hc : s.check i = some c) (w : ItemWire)
    (hfree : s.pool.free ≠ []) : ChainsKept s (s.addItem i c w) := by
  unfold State.addItem
  dsimp only
  refine ChainsKept.trans ?_ (State.sameCore_afterEdit _ i).kept
  have hit : (w.item (s.pool.free.headD 0) c.nextSerial .live .localAdd).record =
      s.pool.free.headD 0 := rfl
  have hserial : (w.item (s.pool.free.headD 0) c.nextSerial .live .localAdd).serial =
      c.nextSerial := rfl
  generalize w.item (s.pool.free.headD 0) c.nextSerial .live .localAdd = it at hit hserial ⊢
  have hchains : (c.withItem it s.modes.taxRate).bump.afterAmounts.chains =
      (c.items ++ [it], c.nextSerial + 1, c.image) := by
    have := congrArg Prod.fst (Check.core_afterAmounts (c.withItem it s.modes.taxRate).bump)
    exact this
  generalize (c.withItem it s.modes.taxRate).bump.afterAmounts = d at hchains ⊢
  obtain ⟨hitems, hnext, himage⟩ : d.items = c.items ++ [it] ∧ d.nextSerial = c.nextSerial + 1 ∧
      d.image = c.image := by simpa [Check.chains] using hchains
  have hdropped : s.dropFree.check i = some c := by simpa [State.dropFree] using hc
  refine ⟨fun n => ?_, fun hs => State.serialsRise_put (s := s.dropFree) i hs fun b hb => ?_⟩
  · have hput := s.dropFree.onChains_putCheck i n (some d)
    have hdrop := s.onChains_dropFree n hfree hit
    rw [hdropped] at hput
    simp only [entryUses_some, hitems, himage, uses_append] at hput
    omega
  · cases hb
    obtain ⟨hrise, hpending⟩ := hs.1 i c hc
    rw [Check.SerialsRise, hitems, hnext, himage]
    exact ⟨serialsRise_append hrise (fun a ha => hserial ▸ hrise.2 a ha) (by omega) (by omega),
      hpending⟩

theorem State.free_of_itemTests {c : Check} {w : ItemWire}
    (h : ∀ t ∈ s.itemTests c w, t.1 = true) : s.pool.free ≠ [] := by
  simpa using h (!s.pool.free.isEmpty, .poolFull) (by simp [State.itemTests])

theorem State.putWriteItem_kept (p : Port) (st : Stream) (w : ItemWire) :
    ChainsKept s (s.putWriteItem p st w).1 := by
  unfold State.putWriteItem
  split
  · exact (s.sameCore_failStream p st _).kept
  · split
    · exact (s.sameCore_failStream p st _).kept
    · next hc =>
      split
      · exact (s.sameCore_failStream p st _).kept
      · next hnone =>
        have hfree := s.free_of_itemTests ((firstFailure_eq_none_iff _).1 hnone)
        exact (s.addItem_kept _ hc w hfree).trans (State.sameCore_continueStream _ p _).kept

theorem State.putImageItem_kept (p : Port) (st : Stream) (w : ItemWire) :
    ChainsKept s (s.putImageItem p st w).1 := by
  unfold State.putImageItem
  split
  · exact (s.sameCore_failStream p st _).kept
  · next a ha =>
    split
    · exact (s.sameCore_failStream p st _).kept.trans (State.discardAssembly_kept _)
    · next hnone =>
      have htests := (firstFailure_eq_none_iff _).1 hnone
      have hfree : s.pool.free ≠ [] := by
        simpa using htests (!s.pool.free.isEmpty, .poolFull) (by simp [imageItemTests])
      have habove := htests (w.fieldsOk a.seats && decide (1 ≤ w.serial.toNat ∧
        highestSerial a.items < w.serial.toNat), .badField) (by simp [imageItemTests])
      simp only [Bool.and_eq_true, decide_eq_true_eq] at habove
      obtain ⟨-, hpos, hhighest⟩ := habove
      dsimp only
      refine ChainsKept.trans ?_ (State.sameCore_continueStream _ p _).kept
      have hit : (w.item (s.pool.free.headD 0) w.serial.toNat w.status .floor).record =
          s.pool.free.headD 0 := rfl
      have hserial : (w.item (s.pool.free.headD 0) w.serial.toNat w.status .floor).serial =
          w.serial.toNat := rfl
      generalize w.item (s.pool.free.headD 0) w.serial.toNat w.status .floor = it at hit hserial ⊢
      refine ⟨fun n => ?_, fun hs => State.serialsRise_setAssembly (s := s.dropFree) hs fun b hb => ?_⟩
      · have hset := s.dropFree.onChains_setAssembly n (some { a with items := a.items ++ [it] })
        have hdrop := s.onChains_dropFree n hfree hit
        have hfloor : s.dropFree.floor = s.floor := by simp
        rw [hfloor, ha] at hset
        simp only [assemblyItems, uses_append] at hset ⊢
        omega
      · cases hb
        refine serialsRise_append (hs.2 a ha) (fun c hc => ?_) ?_ (Nat.le_refl _)
        · rw [hserial]
          exact (highestSerial_lt a.items _ hpos).1 hhighest c hc
        · rw [hserial]
          exact w.serial.isLt

theorem State.putItems_kept (p : Port) (items : List ItemWire) :
    ChainsKept s (State.putItems p items s).1 := by
  induction items generalizing s with
  | nil => exact .refl s
  | cons w rest ih =>
    have hitem (st : Stream) : ChainsKept s
        (if st.target = .image then s.putImageItem p st w else s.putWriteItem p st w).1 := by
      split
      · exact s.putImageItem_kept p st w
      · exact s.putWriteItem_kept p st w
    unfold State.putItems
    split
    · next st _ =>
      dsimp only
      split
      · exact (hitem st).trans (ih _)
      · exact hitem st
    · exact .refl s

/-! ### New checks, and the end of an assembly -/

/-- A check is placed into a FREE entry with the items of an assembly that ends, or with none. -/
theorem State.place_records {d : Check} (hfree : s.check i = none) (himage : d.image = none)
    (n : Nat) : (s.putCheck i (some d)).onChains n = s.onChains n + uses d.items n := by
  have hput := s.onChains_putCheck i n (some d)
  rw [hfree] at hput
  simp only [entryUses_some, entryUses_none, himage, imageItems, uses_nil] at hput
  omega

theorem State.takeAssembly_records {a : Assembly} (ha : s.floor.assembly = some a) (n : Nat) :
    s.takeAssembly.onChains n + uses a.items n = s.onChains n := by
  have hset := s.onChains_setAssembly n none
  rw [ha] at hset
  simpa [State.takeAssembly, assemblyItems] using hset

theorem State.takeAssembly_serials (hs : s.SerialsRise) : s.takeAssembly.SerialsRise :=
  State.serialsRise_setAssembly hs fun b hb => by cases hb

theorem State.placeImage_kept {a : Assembly} (ha : s.floor.assembly = some a) :
    ChainsKept s (s.placeImage a).state := by
  unfold State.placeImage
  split
  · exact s.discardAssembly_kept
  · next i u hallocate =>
    obtain ⟨hkept, hfree⟩ := State.allocate_kept s hallocate
    have hassembly : u.floor.assembly = some a := by
      obtain ⟨-, -, -, -, -, -, -, -, -, -, hfloor, -⟩ := State.allocate_same hallocate
      rw [hfloor (by simp), ha]
    refine hkept.trans (ChainsKept.trans ?_ (State.sameCore_raise _ .console .floorChange).kept)
    have hchains : (a.newCheck (s.scopeOf a.owner) s.modes.taxRate).evaluate.chains =
        (a.items, highestSerial a.items + 1, none) := rfl
    generalize (a.newCheck (s.scopeOf a.owner) s.modes.taxRate).evaluate = d at hchains ⊢
    obtain ⟨hitems, hnext, himage⟩ : d.items = a.items ∧ d.nextSerial = highestSerial a.items + 1 ∧
        d.image = none := by simpa [Check.chains] using hchains
    refine ⟨fun n => ?_, fun hs => State.serialsRise_put i (u.takeAssembly_serials hs) fun b hb => ?_⟩
    · have hstill : u.takeAssembly.check i = none := hfree
      rw [State.place_records _ i hstill himage, hitems, u.takeAssembly_records hassembly]
    · cases hb
      rw [Check.SerialsRise, hitems, hnext, himage]
      exact ⟨serialsRise_highest (hs.2 a hassembly), fun g hg => by cases hg⟩

theorem State.endImageAt_kept {a : Assembly} (ha : s.floor.assembly = some a) {c : Check}
    (hc : s.check i = some c) : ChainsKept s (s.endImageAt a i c).state := by
  have htaken (n : Nat) := s.takeAssembly_records ha n
  have hcheck : s.takeAssembly.check i = some c := hc
  unfold State.endImageAt
  split
  · exact s.discardAssembly_kept
  · split
    · exact s.discardAssembly_kept
    · refine ⟨fun n => ?_, fun hs => State.deferImage_serials _ i (hs.2 a ha)
        (s.takeAssembly_serials hs)⟩
      rw [State.deferImage_records _ i hcheck, ← htaken n]
      rfl
    · exact (s.discardOlder_kept i _).trans ((State.discardAssembly_kept _).trans
        (State.sameCore_setServer _ i _).kept)
    · refine ⟨fun n => ?_, fun hs => State.applyImage_serials _ i _ _ _ _ (hs.2 a ha)
        (s.takeAssembly_serials hs)⟩
      dsimp only [State.accept]
      rw [State.applyImage_records _ i hcheck, htaken n]

end

/-! ### Rules -/

theorem commitNewRule_chains (s : State) : ChainsKept s (commitNewRule s).state := by
  refine State.tested_keeps (.refl s) fun _ => ?_
  split
  · next k i u _ hallocate =>
    obtain ⟨hkept, hfree⟩ := State.allocate_kept s hallocate
    dsimp only [State.accept]
    refine hkept.trans (ChainsKept.trans ?_ ((State.sameChains_grantHold _ i .console).trans
      (State.sameCore_setStaging _ _).chains).kept)
    refine ⟨fun n => ?_, fun hs => State.serialsRise_put i hs fun b hb => ?_⟩
    · exact State.place_records _ i hfree rfl n
    · cases hb
      exact ⟨serialsRise_nil _, fun g hg => by cases hg⟩
  · exact .refl s

theorem imageEndRule_chains (s : State) : ChainsKept s (imageEndRule s).state := by
  unfold imageEndRule
  split
  · exact .refl s
  · next a ha =>
    refine State.tested_keeps (.refl s) fun _ => ?_
    dsimp only
    refine ChainsKept.trans ?_ (State.sameCore_setChannel _ .link .idle).kept
    unfold State.endImage
    split
    · exact s.placeImage_kept ha
    · split
      · next hc => exact s.endImageAt_kept _ ha hc
      · exact s.placeImage_kept ha

theorem imageBeginRule_chains (key server : Half) (owner covers seats count : Byte) (s : State) :
    ChainsKept s (imageBeginRule key server owner covers seats count s).state := by
  refine State.tested_keeps (.refl s) fun h => ?_
  have hnone : s.floor.assembly = none := by
    simpa using h (s.floor.assembly.isNone, .busy) (by simp)
  dsimp only [State.accept]
  refine ChainsKept.trans ⟨fun n => ?_, fun hs => ?_⟩ (State.sameCore_setChannel _ .link _).kept
  · have hset := s.onChains_setAssembly n (some (newAssembly key server owner covers seats count))
    rw [hnone] at hset
    exact hset
  · exact State.serialsRise_setAssembly hs fun b hb => by cases hb; exact serialsRise_nil _

theorem retireRule_chains (key server : Half) (s : State) :
    ChainsKept s (retireRule key server s).state := by
  refine State.tested_keeps (.refl s) fun _ => ?_
  split
  · exact .refl s
  · next i _ =>
    split
    · next c hc =>
      unfold State.retireAt
      split
      · exact .refl s
      · split
        · exact (s.sameCore_setServer i _).kept.trans (State.discardOlder_kept _ i _)
        · split
          · exact s.deferRetire_kept i hc _
          · exact s.applyRetire_kept i _
    · exact .refl s

theorem uplinkAckRule_chains (seq : Half) (s : State) :
    ChainsKept s (uplinkAckRule seq s).state := by
  refine State.tested_keeps (.refl s) fun _ => ?_
  split
  · exact .refl s
  · next gone kept _ =>
    dsimp only [State.accept]
    exact ((s.sameCore_setUplink _).trans
      (SameCore.foldl _ State.sameCore_settleRecord _ gone)).kept.trans
      (State.afterAck_kept _ gone)

theorem linkDownRule_chains (s : State) : ChainsKept s (linkDownRule s).state := by
  unfold linkDownRule
  split
  · exact .refl s
  · refine s.sameCore_loseLink.kept.trans (ChainsKept.trans ?_ (State.discardAssembly_kept _))
    unfold State.abortImage
    split
    · split
      · exact (State.sameCore_failStream _ _ _ _).kept
      · exact .refl _
    · exact .refl _

theorem State.resetShare_chains (s : State) (p : Port) : ChainsKept s (s.resetShare p) := by
  cases p with
  | console =>
    exact (SameCore.of_same (t := s.resetShare .console) (touched := [.staging, .uplink, .totals])
      (by simp [SameBut, State.resetShare]) (by simp)).kept
  | tender => exact (s.sameCore_timeOutTaken false).kept
  | link => exact s.discardAssembly_kept.trans (State.sameCore_loseLink _).kept

theorem portResetRule_chains (p : Port) (s : State) : ChainsKept s (portResetRule p s).state := by
  have hattn (u : State) (v : AttnUnit) : SameCore u (u.setAttn v) :=
    .of_same (touched := [.attn]) (by simp [SameBut]) (by simp)
  unfold portResetRule
  dsimp only [State.accept]
  exact (s.closeChannel_kept p).trans ((State.resetShare_chains _ p).trans
    ((State.releaseAll_kept _ p).trans (hattn _ _).kept))

theorem config1Rule_chains (tid pin : Byte) (s : State) :
    ChainsKept s (config1Rule tid pin s).state := by
  refine State.tested_keeps (.refl s) fun _ => ?_
  dsimp only [State.accept]
  have hclosed : ChainsKept s (if s.modes.step = .ready then s.closeAll else s) := by
    split
    · exact (s.closeChannel_kept _).trans ((State.closeChannel_kept _ _).trans
        (State.closeChannel_kept _ _))
    · exact .refl s
  refine hclosed.trans ?_
  exact SameCore.kept ⟨fun _ => rfl, rfl, rfl, rfl⟩

theorem State.openChannel_chains (s : State) (p : Port) (ch : Channel) :
    ChainsKept s ((s.closeChannel p).setChannel p ch) :=
  (s.closeChannel_kept p).trans (State.sameCore_setChannel _ p ch).kept

theorem openReadRule_chains (p : Port) (target index : Byte) (key : Half) (dir start count : Byte)
    (s : State) : ChainsKept s (openReadRule p target index key dir start count s).state := by
  unfold openReadRule
  split
  · exact .refl s
  · exact State.tested_keeps (.refl s) fun _ => State.onNamed_keeps (.refl s) fun i c _ =>
      s.openChannel_chains p _

theorem streamPutRule_chains (p : Port) (count : Byte) (items : List ItemWire) (s : State) :
    ChainsKept s (streamPutRule p count items s).state := by
  refine State.tested_keeps (.refl s) fun _ => ?_
  split
  · exact .refl s
  · exact .refl s
  · exact .refl s
  · split
    · exact .refl s
    · exact s.putItems_kept p _

theorem streamCloseRule_chains (p : Port) (s : State) :
    ChainsKept s (streamCloseRule p s).state := by
  unfold streamCloseRule
  dsimp only
  split
  · exact .refl s
  · exact s.closeChannel_kept p

theorem checkCloseRule_chains (index : Byte) (key : Half) (s : State) :
    ChainsKept s (checkCloseRule index key s).state :=
  State.onNamed_keeps (.refl s) fun i c _ => State.tested_keeps (.refl s) fun _ =>
    ((s.sameCore_placeClose i c).trans (State.sameCore_mod _ i fun _ => by rfl)).kept.trans
      (State.sameChains_endQuietly _ i).kept

theorem resolveCloseRule_chains (index : Byte) (key : Half) (s : State) :
    ChainsKept s (resolveCloseRule index key s).state :=
  State.onNamed_keeps (.refl s) fun i c _ => State.tested_keeps (.refl s) fun _ =>
    ((s.sameCore_appendRecord _ _ _).trans (State.sameCore_mod _ i fun _ => by rfl)).kept.trans
      (State.sameChains_endQuietly _ i).kept

theorem holdRule_chains (p : Port) (index : Byte) (key : Half) (s : State) :
    ChainsKept s (holdRule p index key s).state := by
  refine State.onNamed_keeps (.refl s) fun i c _ => ?_
  unfold State.holdCases
  split
  · exact (s.sameCore_restartLease i).kept
  · split
    · exact .refl s
    · split
      · exact State.tested_keeps (.refl s) fun _ => (s.sameChains_grantHold i p).kept
      · exact State.tested_keeps (.refl s) fun _ => (s.sameChains_joinList i p).kept

theorem releaseRule_chains (p : Port) (index : Byte) (key : Half) (s : State) :
    ChainsKept s (releaseRule p index key s).state := by
  unfold releaseRule
  split
  · exact .refl s
  · next i _ =>
    refine State.tested_keeps (.refl s) fun _ => ?_
    unfold State.releaseCases
    split
    · exact .refl s
    · split
      · exact s.dropAndEnd_kept i p _
      · split
        · exact (s.sameChains_leaveList i p).kept
        · exact .refl s

/-- Every rule keeps the chains. -/
theorem rule_chains {c : Instr} {r : Served} (h : requestOf c = some r) (s : State) :
    ChainsKept s (r.rule s).state := by
  cases hc : movesCore c with
  | false => exact (rule_sameCore h s hc).kept
  | true =>
    cases c <;> simp only [requestOf, Option.some.injEq, reduceCtorEq] at h <;>
      simp only [movesCore, Bool.false_eq_true] at hc <;> subst h
    case commitNew => exact commitNewRule_chains s
    case checkClose => exact checkCloseRule_chains _ _ s
    case resolveClose => exact resolveCloseRule_chains _ _ s
    case itemAdd =>
      exact State.onNamed_keeps (.refl s) fun i _ hc => State.tested_keeps (.refl s) fun h =>
        s.addItem_kept i hc _ (s.free_of_itemTests h)
    case itemVoid =>
      exact State.tested_keeps (.refl s) fun _ => State.onNamed_keeps (.refl s) fun i _ hc =>
        State.tested_keeps (.refl s) fun _ =>
          (s.voidItem_kept i hc _ _).trans (State.sameCore_afterEdit _ i).kept
    case hold => exact holdRule_chains _ _ _ s
    case release => exact releaseRule_chains _ _ _ s
    case streamOpenItemsRead => exact openReadRule_chains _ _ _ _ _ _ _ s
    case streamOpenItemsWrite =>
      exact State.tested_keeps (.refl s) fun _ => State.onNamed_keeps (.refl s) fun i _ _ =>
        State.tested_keeps (.refl s) fun _ => s.openChannel_chains _ _
    case streamPut => exact streamPutRule_chains _ _ _ s
    case streamClose => exact streamCloseRule_chains _ s
    case imageBegin => exact imageBeginRule_chains _ _ _ _ _ _ s
    case imageEnd => exact imageEndRule_chains s
    case imageAbort =>
      exact State.tested_keeps (.refl s) fun _ => s.discardAssembly_kept.trans
        (State.sameCore_setChannel _ .link .idle).kept
    case linkStateDown => exact linkDownRule_chains s
    case retire => exact retireRule_chains _ _ s
    case uplinkAck => exact uplinkAckRule_chains _ s
    case portReset => exact portResetRule_chains _ s
    case config1 => exact config1Rule_chains _ _ s

/-! ### Every step -/

/-- What `SameBut` the blocks of an exchange or event changes no core. -/
theorem SameCore.of_outside {s t : State}
    (h : SameBut [.pending, .ports, .attn, .uplink, .modes] s t) : SameCore s t :=
  .of_same h (by simp)

/-- A property that every change of chains keeps, and the initial values have. -/
theorem keptByEvents_of_chains {P : State → Prop} (hkept : ∀ s t, ChainsKept s t → P s → P t)
    (hinitial : ∀ (s : State) held, P (s.initial held)) : KeptByEvents P where
  ports s v := hkept _ _ (SameCore.of_outside (by simp [SameBut])).kept
  raise s p c := hkept _ _ (SameCore.of_outside (by simp [SameBut])).kept
  lower s p m := hkept _ _ (SameCore.of_outside (by simp [SameBut])).kept
  lamp s := hkept _ _ (SameCore.of_outside (by simp [SameBut])).kept
  wake s _ := hkept _ _ (SameCore.of_outside (by simp [SameBut])).kept
  begins s _ := hkept _ _ (SameCore.of_outside (by simp [SameBut])).kept
  pending s v := hkept _ _ (SameCore.of_outside (by simp [SameBut])).kept
  advance s dt := hkept _ _ (s.sameCore_advance dt).kept
  line s high := hkept _ _ (SameCore.of_outside (by simp [SameBut, State.setWakeLine])).kept
  awake s _ := hkept _ _ (SameCore.of_outside (by simp [SameBut])).kept
  expire s i _ := hkept _ _ (s.expireLease_kept i)
  timeOut s _ := hkept _ _ (s.sameCore_timeOutTaken true).kept
  initial s held _ := hinitial s held

/-- Settles O56, by what every rule and event keeps of the chains. -/
theorem stepsKeepPoolPartition : Obligations.StepsKeepPoolPartition := by
  obtain ⟨-, -, -, -, -, -, hpool, hserials, -⟩ := lawsHoldAtReset
  exact ⟨fun _ _ hs h => step_keeps
      (keptByEvents_of_chains (fun _ _ hkept => hkept.partition) fun _ _ => hpool)
      (fun _ _ hc s _ _ => (rule_chains hc s).partition) h hs,
    fun _ _ hs h => step_keeps
      (keptByEvents_of_chains (fun _ _ hkept => hkept.serials) fun _ _ => hserials)
      (fun _ _ hc s _ _ => (rule_chains hc s).serials) h hs⟩

end Sys2Proof.Machine
end

section
/-!
SUPPORT. Who holds and who waits, entry by entry, with the ports' own records of it: what each operation
does to them, and the law they obey (R64 to R78).
-/

namespace Sys2Proof.Machine

/-! ### Holders and waiters -/

/-- The waiters of an entry's check; a FREE entry has none. -/
def checkWaiters : Option Check → List Port
  | some c => c.waiters
  | none => []

def State.waitersOf (s : State) (i : Fin 64) : List Port := checkWaiters (s.check i)

/-- Holders and waiters of the entries, and the ports' records of them. -/
structure Seats where
  holder : Fin 64 → Option Port
  waiters : Fin 64 → List Port
  count : PerPort Nat
  waits : PerPort (Option (Fin 64))

def State.seats (s : State) : Seats := ⟨s.holderOf, s.waitersOf, s.holds.count, s.holds.waits⟩

/-- The number of entries that a port holds. -/
def Seats.held (z : Seats) (p : Port) : Nat := ∑ i, if z.holder i = some p then 1 else 0

/-- The law of holds (R64), but that one entry may have waiters and no holder, as between the end of a
hold and the grant that follows. -/
structure Seated (but : Option (Fin 64)) (z : Seats) : Prop where
  count : ∀ p, z.count.get p = z.held p
  limit : ∀ p, z.count.get p ≤ 4
  waits : ∀ p i, p ∈ z.waiters i ↔ z.waits.get p = some i
  nodup : ∀ i, (z.waiters i).Nodup
  few : ∀ i, (z.waiters i).length ≤ 2
  apart : ∀ i, ∀ p ∈ z.waiters i, z.holder i ≠ some p
  vacant : ∀ i, but ≠ some i → z.holder i = none → z.waiters i = []

theorem Seated.open {z : Seats} (h : Seated none z) (but : Option (Fin 64)) : Seated but z :=
  { h with vacant := fun i _ => h.vacant i (by simp) }

/-- The one entry that the law leaves out obeys it too. -/
theorem Seated.close {i : Fin 64} {z : Seats} (h : Seated (some i) z)
    (hi : z.holder i = none → z.waiters i = []) : Seated none z :=
  { h with
    vacant := fun j _ hj => by
      by_cases hij : i = j
      · exact hij ▸ hi (hij ▸ hj)
      · exact h.vacant j (by simpa using hij) hj }

theorem countP_eq_sum {α : Type} (f : α → Bool) (l : List α) :
    l.countP f = (l.map fun a => if f a = true then 1 else 0).sum := by
  induction l with
  | nil => rfl
  | cons a rest ih =>
    rw [List.countP_cons, List.map_cons, List.sum_cons, ih, Nat.add_comm]

theorem State.heldBy_eq (s : State) (p : Port) : s.heldBy p = s.seats.held p := by
  rw [State.heldBy, Seats.held, Fin.sum_univ_def, ← List.countP_eq_length_filter, countP_eq_sum]
  simp only [beq_iff_eq]
  rfl

theorem State.waitsOn_iff (s : State) (p : Port) (i : Fin 64) :
    s.waitsOn p i = true ↔ p ∈ s.waitersOf i := by
  unfold State.waitsOn State.waitersOf
  cases s.check i <;> simp [checkWaiters]

theorem State.portRecordOk_iff (s : State) (p : Port) :
    s.PortRecordOk p ↔ s.seats.count.get p = s.seats.held p ∧ s.seats.count.get p ≤ 4 ∧
      ∀ i, p ∈ s.seats.waiters i ↔ s.seats.waits.get p = some i := by
  simp only [State.PortRecordOk, State.heldBy_eq, State.waitsOn_iff]
  rfl

theorem State.holdsAgree_iff (s : State) : s.HoldsAgree ↔ Seated none s.seats := by
  have hports : (s.PortRecordOk .console ∧ s.PortRecordOk .tender ∧ s.PortRecordOk .link) ↔
      ∀ p, s.PortRecordOk p :=
    ⟨fun ⟨hc, ht, hl⟩ p => by cases p <;> assumption, fun h => ⟨h _, h _, h _⟩⟩
  rw [State.HoldsAgree, hports]
  simp only [State.portRecordOk_iff]
  constructor
  · rintro ⟨hrecords, hentries⟩
    have hentry (i : Fin 64) : (s.waitersOf i).Nodup ∧ (s.waitersOf i).length ≤ 2 ∧
        (∀ p ∈ s.waitersOf i, s.holderOf i ≠ some p) ∧
        (s.holderOf i = none → s.waitersOf i = []) := by
      unfold State.waitersOf State.holderOf
      cases hc : s.check i with
      | none => simp [checkWaiters]
      | some c =>
        obtain ⟨hnodup, hfew, hapart, hvacant⟩ := hentries i c hc
        exact ⟨hnodup, hfew, hapart, fun h => hvacant (Option.map_eq_none_iff.1 h)⟩
    exact ⟨fun p => (hrecords p).1, fun p => (hrecords p).2.1, fun p => (hrecords p).2.2,
      fun i => (hentry i).1, fun i => (hentry i).2.1, fun i => (hentry i).2.2.1,
      fun i _ => (hentry i).2.2.2⟩
  · intro h
    refine ⟨fun p => ⟨h.count p, h.limit p, h.waits p⟩, fun i c hc => ?_⟩
    replace hc : s.check i = some c := hc
    have hwaiters : s.seats.waiters i = c.waiters := by simp [State.seats, State.waitersOf, checkWaiters, hc]
    have hholder : s.seats.holder i = c.holder := by simp [State.seats, State.holderOf, hc]
    exact ⟨hwaiters ▸ h.nodup i, hwaiters ▸ h.few i,
      fun p hp => hholder ▸ h.apart i p (hwaiters ▸ hp),
      fun hnone => hwaiters ▸ h.vacant i (by simp)
        (hholder.trans (by rw [Check.holder, hnone]; rfl))⟩

/-! ### Changes of one entry -/

/-- An entry's holder and waiters change. -/
def Seats.seat (z : Seats) (i : Fin 64) (h : Option Port) (w : List Port) : Seats :=
  { z with
    holder := fun j => if j = i then h else z.holder j
    waiters := fun j => if j = i then w else z.waiters j }

/-- The hold of a port on an entry ends. -/
def Seats.drop (z : Seats) (p : Port) (i : Fin 64) : Seats :=
  { z.seat i none (z.waiters i) with count := z.count.set p (z.count.get p - 1) }

/-- A port becomes an entry's holder. -/
def Seats.grant (z : Seats) (p : Port) (i : Fin 64) : Seats :=
  { z.seat i (some p) (z.waiters i) with count := z.count.set p (z.count.get p + 1) }

/-- A port leaves an entry's waiters. -/
def Seats.leave (z : Seats) (p : Port) (i : Fin 64) : Seats :=
  { z.seat i (z.holder i) ((z.waiters i).filter fun q => q ≠ p) with waits := z.waits.set p none }

/-- A port joins the tail of an entry's waiters. -/
def Seats.join (z : Seats) (p : Port) (i : Fin 64) : Seats :=
  { z.seat i (z.holder i) (z.waiters i ++ [p]) with waits := z.waits.set p (some i) }

/-- Some ports wait for nothing. -/
def Seats.forget (z : Seats) (l : List Port) : Seats :=
  { z with waits := l.foldl (fun v p => v.set p none) z.waits }

/-- An entry's waiters are dismissed. -/
def Seats.dismiss (z : Seats) (i : Fin 64) : Seats :=
  (z.seat i (z.holder i) []).forget (z.waiters i)

theorem Seats.held_seat (z : Seats) (i : Fin 64) (h : Option Port) (w : List Port) (p : Port) :
    (z.seat i h w).held p + (if z.holder i = some p then 1 else 0) =
      z.held p + (if h = some p then 1 else 0) := by
  have hnew := Finset.add_sum_erase Finset.univ
    (fun j => if (z.seat i h w).holder j = some p then 1 else 0) (Finset.mem_univ i)
  have hold := Finset.add_sum_erase Finset.univ
    (fun j => if z.holder j = some p then 1 else 0) (Finset.mem_univ i)
  have hothers : ∑ j ∈ Finset.univ.erase i, (if (z.seat i h w).holder j = some p then 1 else 0) =
      ∑ j ∈ Finset.univ.erase i, if z.holder j = some p then 1 else 0 :=
    Finset.sum_congr rfl fun j hj => by
      simp only [Seats.seat, if_neg (Finset.ne_of_mem_erase hj)]
  have hi : (z.seat i h w).holder i = h := if_pos rfl
  rw [Seats.held, Seats.held]
  simp only [hi] at hnew
  omega

theorem Seats.get_forget (z : Seats) (l : List Port) (p : Port) :
    (z.forget l).waits.get p = if p ∈ l then none else z.waits.get p := by
  suffices h : ∀ v : PerPort (Option (Fin 64)),
      (l.foldl (fun v p => v.set p none) v).get p = if p ∈ l then none else v.get p from h z.waits
  induction l with
  | nil => simp
  | cons q rest ih =>
    intro v
    rw [List.foldl_cons, ih, PerPort.get_set]
    by_cases hp : p = q <;> simp [hp]

section
variable {z : Seats} {i : Fin 64} {p : Port} {but : Option (Fin 64)}

/-- An entry's holder and waiters change, and the ports' records with them. -/
theorem Seated.seat (h : Seated (some i) z) {hd : Option Port} {w : List Port} {count : PerPort Nat}
    {waits : PerPort (Option (Fin 64))}
    (hcount : ∀ q, count.get q + (if z.holder i = some q then 1 else 0) =
      z.count.get q + (if hd = some q then 1 else 0))
    (hlimit : ∀ q, count.get q ≤ 4)
    (hwaits : ∀ q j, q ∈ (z.seat i hd w).waiters j ↔ waits.get q = some j)
    (hnodup : w.Nodup) (hfew : w.length ≤ 2) (hapart : ∀ q ∈ w, hd ≠ some q) :
    Seated (some i) { z.seat i hd w with count := count, waits := waits } where
  count q := by
    have hheld := z.held_seat i hd w q
    have := hcount q
    have := h.count q
    have hsame : Seats.held { z.seat i hd w with count := count, waits := waits } q =
      (z.seat i hd w).held q := rfl
    rw [hsame]
    simp only
    omega
  limit := hlimit
  waits := hwaits
  nodup j := by
    simp only [Seats.seat]
    split
    · exact hnodup
    · exact h.nodup j
  few j := by
    simp only [Seats.seat]
    split
    · exact hfew
    · exact h.few j
  apart j q hq := by
    simp only [Seats.seat] at hq ⊢
    split at hq
    · next hj => simpa [hj] using hapart q hq
    · next hj => simpa [hj] using h.apart j q hq
  vacant j hj hnone := by
    have hij : j ≠ i := fun hij => hj (by rw [hij])
    simp only [Seats.seat, hij, if_false] at hnone ⊢
    exact h.vacant j hj hnone

/-- Where the waiters stay, so do the ports' waited entries. -/
theorem Seated.waits_seat (h : Seated but z) (hd : Option Port) (q : Port) (j : Fin 64) :
    q ∈ (z.seat i hd (z.waiters i)).waiters j ↔ z.waits.get q = some j := by
  rw [← h.waits q j]
  simp only [Seats.seat]
  split
  · next hj => rw [hj]
  · rfl

theorem Seated.drop (h : Seated (some i) z) (hi : z.holder i = some p) :
    Seated (some i) (z.drop p i) := by
  have hpos : 1 ≤ z.count.get p := by
    have hheld := z.held_seat i none (z.waiters i) p
    rw [if_pos hi, if_neg (by simp)] at hheld
    have := h.count p
    omega
  refine h.seat (fun q => ?_) (fun q => ?_) (fun q j => h.waits_seat none q j) (h.nodup i) (h.few i)
    (by simp)
  · rw [PerPort.get_set, hi]
    by_cases hq : q = p
    · simp only [hq, if_true, reduceCtorEq, if_false]
      omega
    · simp [hq, Ne.symm hq]
  · have := h.limit q
    have := h.limit p
    rw [PerPort.get_set]
    split <;> omega

theorem Seated.grant (h : Seated (some i) z) (hi : z.holder i = none) (hp : p ∉ z.waiters i)
    (hlimit : z.count.get p < 4) : Seated none (z.grant p i) := by
  refine Seated.close (h.seat (fun q => ?_) (fun q => ?_) (fun q j => h.waits_seat (some p) q j)
    (h.nodup i) (h.few i) (fun q hq hpq => ?_)) (fun hnone => ?_)
  · rw [PerPort.get_set, hi]
    by_cases hq : q = p
    · simp [hq]
    · simp [hq, Ne.symm hq]
  · have := h.limit q
    rw [PerPort.get_set]
    split <;> omega
  · cases hpq
    exact hp hq
  · exact absurd hnone (by simp [Seats.grant, Seats.seat])

theorem Seated.leave (h : Seated (some i) z) (hp : p ∈ z.waiters i) :
    Seated (some i) (z.leave p i) := by
  have hwait := (h.waits p i).1 hp
  refine h.seat (fun q => rfl) h.limit (fun q j => ?_) ((h.nodup i).filter _)
    (Nat.le_trans (List.length_filter_le _ _) (h.few i))
    (fun q hq => h.apart i q (List.mem_filter.1 hq).1)
  have hq := h.waits q j
  rw [PerPort.get_set]
  simp only [Seats.seat]
  by_cases hqp : q = p
  · subst hqp
    rw [if_pos rfl]
    split
    · simp
    · next hj => simp [hq, hwait, Ne.symm hj]
  · rw [if_neg hqp, ← hq]
    split
    · next hj => simp [hqp, hj]
    · rfl

/-- The law of an entry whose waiters are fewer still leaves none without a holder. -/
theorem Seated.leave_closed (h : Seated none z) (hp : p ∈ z.waiters i) :
    Seated none (z.leave p i) := by
  refine ((h.open (some i)).leave hp).close fun hnone => ?_
  have hempty := h.vacant i (by simp) (by simpa [Seats.leave, Seats.seat] using hnone)
  simp [hempty] at hp

/-- A port that holds nothing here and waits nowhere joins the waiters of a held entry. -/
theorem Seated.join (h : Seated none z) {q : Port} (hi : z.holder i = some q) (hq : q ≠ p)
    (hp : z.waits.get p = none) : Seated none (z.join p i) := by
  have hnowhere (j : Fin 64) : p ∉ z.waiters j := fun hj => by simp [(h.waits p j).1 hj] at hp
  have hnodup : (z.waiters i ++ [p]).Nodup :=
    List.nodup_append.2 ⟨h.nodup i, List.nodup_singleton p, fun a ha b hb hab => by
      rw [List.mem_singleton] at hb
      exact hnowhere i (hb ▸ hab ▸ ha)⟩
  have hapart : ∀ r ∈ z.waiters i ++ [p], z.holder i ≠ some r := by
    intro r hr
    obtain hr | hr := List.mem_append.1 hr
    · exact h.apart i r hr
    · rw [List.mem_singleton.1 hr, hi]
      simpa using hq
  have hfew : (z.waiters i ++ [p]).length ≤ 2 := by
    have hall : (q :: (z.waiters i ++ [p])).Nodup :=
      List.nodup_cons.2 ⟨fun hmem => hapart q hmem hi, hnodup⟩
    have hsub : q :: (z.waiters i ++ [p]) ⊆ [.console, .tender, .link] := fun r _ => by
      cases r <;> simp
    have := (hall.subperm hsub).length_le
    simp only [List.length_cons, List.length_append, List.length_nil] at this ⊢
    omega
  refine Seated.close ((h.open (some i)).seat (fun r => rfl) h.limit (fun r j => ?_) hnodup hfew
    hapart) (fun hnone => ?_)
  · have hr := h.waits r j
    rw [PerPort.get_set]
    simp only [Seats.seat]
    by_cases hrp : r = p
    · subst hrp
      rw [if_pos rfl]
      split
      · next hj => simp [hj]
      · next hj => simp [hnowhere j, Ne.symm hj]
    · rw [if_neg hrp, ← hr]
      split
      · next hj => simp [hrp, hj]
      · rfl
  · exact absurd hnone (by simp [Seats.join, Seats.seat, hi])

theorem Seated.dismiss (h : Seated (some i) z) : Seated none (z.dismiss i) := by
  refine Seated.close (h.seat (fun r => rfl) h.limit (fun r j => ?_) List.nodup_nil (by simp)
    (by simp)) (fun _ => if_pos rfl)
  have hr := h.waits r j
  have hget := (z.seat i (z.holder i) []).get_forget (z.waiters i) r
  simp only [Seats.forget] at hget
  rw [hget]
  simp only [Seats.seat]
  by_cases hmem : r ∈ z.waiters i
  · rw [if_pos hmem]
    have hwait := (h.waits r i).1 hmem
    split
    · simp
    · next hj => simp [hr, hwait, Ne.symm hj]
  · rw [if_neg hmem, ← hr]
    split
    · next hj => simp [hj, hmem]
    · rfl

end

end Sys2Proof.Machine
end

section
/-!
SUPPORT. What the operations and rules do to holders and waiters, and the law of holds over every step
(R64 to R78).
-/

namespace Sys2Proof.Machine

/-! ### What changes no seat -/

/-- An entry's waiters are those of its check. -/
theorem State.waitersOf_of_check {s : State} {i : Fin 64} {c : Check} (h : s.check i = some c) :
    s.waitersOf i = c.waiters := by
  simp [State.waitersOf, checkWaiters, h]

theorem State.holderOf_of_check {s : State} {i : Fin 64} {c : Check} (h : s.check i = some c) :
    s.holderOf i = c.holder := by
  simp [State.holderOf, h]

theorem State.waitersOf_of_free {s : State} {i : Fin 64} (h : s.check i = none) :
    s.waitersOf i = [] := by
  simp [State.waitersOf, checkWaiters, h]

theorem State.holderOf_of_free {s : State} {i : Fin 64} (h : s.check i = none) :
    s.holderOf i = none := by
  simp [State.holderOf, h]

theorem Seats.ext_of {z y : Seats} (hholder : ∀ i, z.holder i = y.holder i)
    (hwaiters : ∀ i, z.waiters i = y.waiters i) (hcount : z.count = y.count)
    (hwaits : z.waits = y.waits) : z = y := by
  cases z
  cases y
  obtain rfl : _ = _ := funext hholder
  obtain rfl : _ = _ := funext hwaiters
  obtain rfl : _ = _ := hcount
  obtain rfl : _ = _ := hwaits
  rfl

theorem State.seats_of_entries {s t : State}
    (h : ∀ i, (t.check i).map Check.seating = (s.check i).map Check.seating)
    (hholds : t.holds = s.holds) : t.seats = s.seats := by
  have hentry (i : Fin 64) : t.holderOf i = s.holderOf i ∧ t.waitersOf i = s.waitersOf i := by
    have hi := h i
    cases hs : s.check i with
    | none =>
      rw [hs, Option.map_none, Option.map_eq_none_iff] at hi
      simp [State.holderOf, State.waitersOf, checkWaiters, hs, hi]
    | some c =>
      rw [hs, Option.map_some, Option.map_eq_some_iff] at hi
      obtain ⟨d, hd, hseating⟩ := hi
      obtain ⟨hholder, hwaiters⟩ := Prod.mk.inj hseating
      simp [State.holderOf, State.waitersOf, checkWaiters, hs, hd, hholder, hwaiters]
  exact Seats.ext_of (fun i => (hentry i).1) (fun i => (hentry i).2)
    (congrArg HoldArbiter.count hholds) (congrArg HoldArbiter.waits hholds)

theorem SameCore.seats {s t : State} (h : SameCore s t) : t.seats = s.seats :=
  State.seats_of_entries (fun i => by
    have := congrArg (Option.map Prod.snd) (h.entries i)
    rw [Option.map_map, Option.map_map] at this
    exact this) h.holds

/-- Neither table nor holds are among the blocks that change. -/
theorem SameBut.seats {touched : List Block} {s t : State} (h : SameBut touched s t)
    (htable : .table ∉ touched) (hholds : .holds ∉ touched) :
    t.seats = s.seats := by
  obtain ⟨-, -, -, ht, -, -, hh, -⟩ := h
  exact State.seats_of_entries (fun i => by rw [State.check, ht htable, ← State.check]) (hh hholds)

section
variable (s : State) (i : Fin 64) (p : Port)

theorem State.seats_putCheck (c : Option Check) :
    (s.putCheck i c).seats = s.seats.seat i (c.bind Check.holder)
      (checkWaiters c) := by
  refine Seats.ext_of (fun j => ?_) (fun j => ?_) (by simp [State.seats, Seats.seat])
    (by simp [State.seats, Seats.seat])
  · simp only [State.seats, State.holderOf, Seats.seat, State.check_putCheck]
    split
    · rfl
    · rfl
  · simp only [State.seats, State.waitersOf, Seats.seat, State.check_putCheck]
    split
    · rfl
    · rfl

/-- An entry keeps the holder and waiters it has. -/
theorem Seats.seat_self (z : Seats) {h : Option Port} {w : List Port} (hh : h = z.holder i)
    (hw : w = z.waiters i) : z.seat i h w = z := by
  subst hh hw
  refine Seats.ext_of (fun j => ?_) (fun j => ?_) rfl rfl <;> simp only [Seats.seat] <;> split
  · next hj => rw [hj]
  · rfl
  · next hj => rw [hj]
  · rfl

theorem State.seats_modCheck {c : Check} (hc : s.check i = some c) (f : Check → Check) :
    (s.modCheck i f).seats = s.seats.seat i (f c).holder (f c).waiters := by
  rw [State.modCheck_of_check _ _ _ _ hc, State.seats_putCheck]
  rfl

theorem State.seats_mod {f : Check → Check}
    (h : ∀ c, (f c).seating = c.seating) :
    (s.modCheck i f).seats = s.seats := by
  refine State.seats_of_entries (fun j => ?_) (by simp)
  rw [State.check_modCheck]
  split
  · next hj => simp [hj, Function.comp_def, h]
  · rfl

/-- A check that nobody holds or waits for is placed into a FREE entry. -/
theorem State.seats_place {d : Check} (hfree : s.check i = none) (hhold : d.hold = none)
    (hwaiters : d.waiters = []) : (s.putCheck i (some d)).seats = s.seats := by
  rw [State.seats_putCheck]
  exact s.seats.seat_self i (by simp [Check.holder, hhold, State.seats, State.holderOf_of_free hfree])
    (by simp [checkWaiters, hwaiters, State.seats, State.waitersOf_of_free hfree])

/-- An entry that nobody holds or waits for becomes FREE. -/
theorem State.seats_free (hholder : s.seats.holder i = none) (hwaiters : s.seats.waiters i = []) :
    (s.putCheck i none).seats = s.seats := by
  rw [State.seats_putCheck]
  exact s.seats.seat_self i hholder.symm hwaiters.symm

/-! ### Chains that move change no seat -/

theorem State.seats_freeItems (items : List Item) : (s.freeItems items).seats = s.seats :=
  SameBut.seats (touched := [.pool]) (by simp [SameBut]) (by simp) (by simp)

theorem State.seats_discardImage : (s.discardImage i).seats = s.seats := by
  unfold State.discardImage
  split
  · split
    · rw [State.seats_mod, State.seats_freeItems]
      exact fun _ => rfl
    · rfl
  · rfl

theorem State.seats_discardOlder (server : Nat) : (s.discardOlder i server).seats = s.seats := by
  unfold State.discardOlder
  split
  · split
    · split
      · exact s.seats_discardImage i
      · rfl
    · rfl
  · rfl

theorem State.seats_discardAssembly : s.discardAssembly.seats = s.seats :=
  SameBut.seats (touched := [.pool, .floor]) (by simp [SameBut]) (by simp) (by simp)

theorem State.seats_closeChannel : (s.closeChannel p).seats = s.seats :=
  SameBut.seats (touched := [.pool, .floor, .streams]) (by simp [SameBut]) (by simp) (by simp)

theorem State.seats_takeAssembly : s.takeAssembly.seats = s.seats := rfl

theorem State.seats_applyImage (server owner covers seats : Nat) (items : List Item) :
    (s.applyImage i server owner covers seats items).seats = s.seats := by
  unfold State.applyImage
  split
  · dsimp only
    rw [(State.sameCore_settleImage _ i).seats, (State.sameCore_raise _ _ _).seats,
      (State.sameCore_abortReads _ i _).seats, State.seats_mod, State.seats_discardOlder,
      State.seats_freeItems]
    exact fun _ => rfl
  · rfl

theorem State.seats_takePending : (s.takePending i).seats = s.seats := s.seats_mod i fun _ => rfl

theorem State.seats_deferImage (g : PendingImage) : (s.deferImage i g).seats = s.seats := by
  rw [State.deferImage, State.seats_mod, State.seats_discardImage]
  exact fun _ => rfl

theorem State.seats_setServer (server : Nat) : (s.setServer i server).seats = s.seats :=
  (s.sameCore_setServer i server).seats

theorem State.seats_put {c d : Check} (hc : s.check i = some c) (h : d.seating = c.seating) :
    (s.putCheck i (some d)).seats = s.seats := by
  refine State.seats_of_entries (fun j => ?_) (by simp)
  rw [State.check_putCheck]
  split
  · next hj => simp [hj, hc, h]
  · rfl

theorem Check.seating_afterAmounts (c : Check) : c.afterAmounts.seating = c.seating :=
  congrArg Prod.snd c.core_afterAmounts

theorem State.seats_addItem {c : Check} (hc : s.check i = some c) (w : ItemWire) :
    (s.addItem i c w).seats = s.seats := by
  have hdropped : s.dropFree.check i = some c := by simpa [State.dropFree] using hc
  unfold State.addItem
  dsimp only
  rw [(State.sameCore_afterEdit _ i).seats, State.seats_put _ i hdropped
    (d := (c.withItem (w.item (s.pool.free.headD 0) c.nextSerial .live .localAdd)
      s.modes.taxRate).bump.afterAmounts) (Check.seating_afterAmounts _)]
  exact SameBut.seats (touched := [.pool]) (by simp [SameBut]) (by simp) (by simp)

theorem State.seats_putItems (items : List ItemWire) :
    (State.putItems p items s).1.seats = s.seats := by
  have himage (s : State) (st : Stream) (w : ItemWire) : (s.putImageItem p st w).1.seats = s.seats :=
    (s.putImageItem_same p st w).seats (by simp) (by simp)
  have hwrite (s : State) (st : Stream) (w : ItemWire) :
      (s.putWriteItem p st w).1.seats = s.seats := by
    unfold State.putWriteItem
    split
    · exact (s.sameCore_failStream p st _).seats
    · split
      · exact (s.sameCore_failStream p st _).seats
      · next hc =>
        split
        · exact (s.sameCore_failStream p st _).seats
        · exact (State.sameCore_continueStream _ p _).seats.trans (s.seats_addItem _ hc w)
  induction items generalizing s with
  | nil => rfl
  | cons w rest ih =>
    have hitem (st : Stream) : (if st.target = .image then s.putImageItem p st w
        else s.putWriteItem p st w).1.seats = s.seats := by
      split
      · exact himage s st w
      · exact hwrite s st w
    unfold State.putItems
    split
    · next st _ =>
      dsimp only
      split
      · exact (ih _).trans (hitem st)
      · exact hitem st
    · rfl

/-! ### Holds and waits -/

theorem State.seats_setHolds (v : HoldArbiter) :
    (s.setHolds v).seats = { s.seats with count := v.count, waits := v.waits } := rfl

theorem State.seats_grantHold {c : Check} (hc : s.check i = some c) :
    (s.grantHold p i).seats = s.seats.grant p i := by
  have hmod := s.seats_modCheck i hc fun c => { c with hold := some ⟨p, s.fullLease⟩ }
  rw [State.grantHold, State.setCount, State.seats_setHolds, hmod]
  simp [Seats.grant, Seats.seat, State.seats, State.waitersOf_of_check hc, Check.holder]

theorem State.seats_dropHold (h : s.holderOf i = some p) :
    (s.dropHold i).seats = s.seats.drop p i := by
  obtain ⟨c, hc, -⟩ := Option.bind_eq_some_iff.1 h
  have hmod := s.seats_modCheck i hc fun c => { c with hold := none }
  rw [State.dropHold, h]
  dsimp only
  rw [State.setCount, State.seats_setHolds, hmod]
  simp [Seats.drop, Seats.seat, State.seats, State.waitersOf_of_check hc, Check.holder]

theorem State.seats_leaveList {c : Check} (hc : s.check i = some c) :
    (s.leaveList p i).seats = s.seats.leave p i := by
  have hmod := s.seats_modCheck i hc fun c => { c with waiters := c.waiters.filter fun q => q ≠ p }
  rw [State.leaveList, State.setWait, State.seats_setHolds, hmod]
  simp [Seats.leave, Seats.seat, State.seats, State.waitersOf_of_check hc,
    State.holderOf_of_check hc, Check.holder]

theorem State.seats_joinList {c : Check} (hc : s.check i = some c) :
    (s.joinList p i).seats = s.seats.join p i := by
  have hmod := s.seats_modCheck i hc fun c => { c with waiters := c.waiters ++ [p] }
  rw [State.joinList, State.setWait, State.seats_setHolds, hmod]
  simp [Seats.join, Seats.seat, State.seats, State.waitersOf_of_check hc,
    State.holderOf_of_check hc, Check.holder]

theorem State.seats_endWait : (s.endWait p).seats = s.seats.forget [p] := by
  rw [State.endWait, (State.sameCore_raise _ _ _).seats]
  rfl

theorem State.seats_endWaits (l : List Port) :
    (l.foldl State.endWait s).seats = s.seats.forget l := by
  induction l generalizing s with
  | nil => rfl
  | cons p rest ih =>
    rw [List.foldl_cons, ih, State.seats_endWait]
    rfl

theorem State.endWaits_check (l : List Port) : (l.foldl State.endWait s).check i = s.check i :=
  foldl_keeps State.endWait (fun u => u.check i) (fun u p => by simp [State.check]) s l

theorem State.seats_dismissWaiters {c : Check} (hc : s.check i = some c) :
    (s.dismissWaiters i).seats = s.seats.dismiss i := by
  have hcheck := (s.endWaits_check i c.waiters).trans hc
  unfold State.dismissWaiters
  simp only [hc]
  rw [State.seats_modCheck _ i hcheck, State.seats_endWaits]
  simp [Seats.dismiss, Seats.seat, Seats.forget, State.seats, State.waitersOf_of_check hc,
    State.holderOf_of_check hc, Check.holder]

end

/-! ### The law over the operations -/

section
variable (s : State) (i : Fin 64)

theorem Seated.dropHold {s : State} {i : Fin 64} (h : Seated (some i) s.seats) :
    Seated (some i) (s.dropHold i).seats ∧ (s.dropHold i).seats.holder i = none := by
  cases hi : s.holderOf i with
  | none =>
    have hsame : s.dropHold i = s := by simp [State.dropHold, hi]
    rw [hsame]
    exact ⟨h, hi⟩
  | some p =>
    rw [s.seats_dropHold i p hi]
    exact ⟨h.drop hi, if_pos rfl⟩

/-- Every waiter of an entry is dismissed: nobody waits for it, and the law holds. -/
theorem Seated.dismissWaiters {s : State} {i : Fin 64} (h : Seated (some i) s.seats) :
    Seated none (s.dismissWaiters i).seats ∧ (s.dismissWaiters i).seats.waiters i = [] ∧
      (s.dismissWaiters i).seats.holder i = s.seats.holder i := by
  cases hc : s.check i with
  | none =>
    have hsame : s.dismissWaiters i = s := by simp [State.dismissWaiters, hc]
    have hempty : s.seats.waiters i = [] := s.waitersOf_of_free hc
    rw [hsame]
    exact ⟨h.close fun _ => hempty, hempty, rfl⟩
  | some c =>
    rw [s.seats_dismissWaiters i hc]
    exact ⟨h.dismiss, if_pos rfl, if_pos rfl⟩

/-- The holder of an entry that becomes FREE loses it (R23). -/
def State.loseHolder (s : State) (i : Fin 64) : Option Port → State
  | some p => ((s.dropHold i).raise p .leaseLost).abortWrite p i .gone
  | none => s

theorem State.freeEntry_of_check {s : State} {i : Fin 64} {c : Check} (hc : s.check i = some c) :
    s.freeEntry i = (((((s.loseHolder i c.holder).dismissWaiters i).freeItems c.items).discardImage
      i).abortReads i .gone).putCheck i none := by
  cases hholder : c.holder with
  | none => simp only [State.freeEntry, State.loseHolder, hc, hholder]
  | some p => simp only [State.freeEntry, State.loseHolder, hc, hholder]

theorem State.freeEntry_of_free {s : State} {i : Fin 64} (h : s.check i = none) :
    s.freeEntry i = s := by
  simp [State.freeEntry, h]

theorem State.freeEntry_check : (s.freeEntry i).check i = none := by
  cases hc : s.check i with
  | none => rw [State.freeEntry_of_free hc, hc]
  | some c => rw [State.freeEntry_of_check hc, State.check_putCheck, if_pos rfl]

theorem Seated.loseHolder {s : State} {i : Fin 64} (h : Seated (some i) s.seats) :
    Seated (some i) (s.loseHolder i (s.holderOf i)).seats ∧
      (s.loseHolder i (s.holderOf i)).seats.holder i = none := by
  cases hi : s.holderOf i with
  | none => exact ⟨h, hi⟩
  | some p =>
    have hsame : (s.loseHolder i (some p)).seats = (s.dropHold i).seats :=
      ((State.sameCore_raise _ _ _).trans (State.sameCore_abortWrite _ _ _ _)).seats
    rw [hsame]
    exact h.dropHold

theorem Seated.freeEntry {s : State} {i : Fin 64} (h : Seated (some i) s.seats) :
    Seated none (s.freeEntry i).seats := by
  cases hc : s.check i with
  | none =>
    rw [State.freeEntry_of_free hc]
    exact h.close fun _ => State.waitersOf_of_free hc
  | some c =>
    have hquiet (u : State) : (((u.freeItems c.items).discardImage i).abortReads i .gone).seats =
        u.seats := by
      rw [(State.sameCore_abortReads _ i _).seats, State.seats_discardImage, State.seats_freeItems]
    obtain ⟨hopen, hholder⟩ := h.loseHolder
    obtain ⟨hseated, hempty, hsame⟩ := hopen.dismissWaiters
    rw [State.holderOf_of_check hc] at hholder hseated hempty hsame
    rw [State.freeEntry_of_check hc, State.seats_free, hquiet]
    · exact hseated
    · rw [hquiet, hsame, hholder]
    · rw [hquiet, hempty]

theorem State.seats_evict (h : s.evictable i = true) : (s.evict i).seats = s.seats := by
  unfold State.evict
  split
  · next c hc =>
    simp only [State.evictable, hc, Bool.and_eq_true, Option.isNone_iff_eq_none,
      List.isEmpty_iff] at h
    obtain ⟨⟨⟨-, hhold⟩, hwaiters⟩, -⟩ := h
    have hseats : ((s.freeItems c.items).abortReads i .gone).seats = s.seats := by
      rw [(State.sameCore_abortReads _ i _).seats, State.seats_freeItems]
    refine (SameCore.seats (s := (((s.freeItems c.items).abortReads i .gone).putCheck i none).raise
      .console .eviction) ⟨fun _ => rfl, rfl, rfl, rfl⟩).trans ?_
    rw [(State.sameCore_raise _ _ _).seats, State.seats_free, hseats]
    · rw [hseats]
      exact (State.holderOf_of_check hc).trans (by rw [Check.holder, hhold]; rfl)
    · rw [hseats]
      exact (State.waitersOf_of_check hc).trans hwaiters
  · rfl

theorem State.seats_allocate {u : State} {i : Fin 64} (h : s.allocate = some (i, u)) :
    u.seats = s.seats := by
  unfold State.allocate at h
  split at h
  · cases h
    rfl
  · split at h
    · next hfound =>
      cases h
      exact s.seats_evict i (by simpa using List.find?_some hfound)
    · cases h

/-- A retirement frees its entry, or changes no seat. -/
theorem State.applyRetire_seats (server : Nat) :
    (s.applyRetire i server).seats = s.seats ∨
      ((s.applyRetire i server).check i = none ∧
        (Seated (some i) s.seats → Seated none (s.applyRetire i server).seats)) := by
  have hbefore : ((s.setServer i server).discardOlder i server).seats = s.seats := by
    rw [State.seats_discardOlder, State.seats_setServer]
  have hraise (u : State) : (u.raise .console .floorChange).seats = u.seats :=
    (State.sameCore_raise _ _ _).seats
  unfold State.applyRetire
  dsimp only
  simp only [hraise]
  split
  · split
    · exact .inl ((State.sameCore_enterConflict _ i _).seats.trans hbefore)
    · split
      · exact .inl ((State.seats_mod _ i fun _ => by rfl).trans hbefore)
      · refine .inr ⟨?_, fun h => Seated.freeEntry (hbefore ▸ h)⟩
        simpa [State.check] using State.freeEntry_check _ i
  · exact .inl hbefore

/-- A pending image or retirement is tried: the entry becomes FREE, or no seat changes. -/
theorem State.tryPending_seats :
    (s.tryPending i).seats = s.seats ∨
      ((s.tryPending i).check i = none ∧
        (Seated (some i) s.seats → Seated none (s.tryPending i).seats)) := by
  have hset (server : Nat) : ((s.discardImage i).setServer i server).seats = s.seats := by
    rw [State.seats_setServer, State.seats_discardImage]
  unfold State.tryPending
  split
  · exact .inl rfl
  · split
    · exact .inl rfl
    · next g _ =>
      split
      · exact .inl (s.seats_discardImage i)
      · split
        · split
          · exact .inl (s.seats_discardImage i)
          · exact .inl rfl
          · exact .inl (hset _)
          · exact .inl ((State.seats_applyImage _ i _ _ _ _ _).trans (s.seats_takePending i))
        · split
          · exact .inl (hset _)
          · split
            · exact .inl rfl
            · have htaken := s.seats_takePending i
              have hretired := (s.takePending i).applyRetire_seats i g.server
              rwa [htaken] at hretired

theorem Seated.tryPending {s : State} {i : Fin 64} (h : Seated none s.seats) :
    Seated none (s.tryPending i).seats := by
  obtain hsame | ⟨-, hfreed⟩ := s.tryPending_seats i
  · rw [hsame]
    exact h
  · exact hfreed (h.open _)

/-- The waiters of an entry are the rest of its list, as while the list is gone through. -/
def Seats.queue (z : Seats) (i : Fin 64) (l : List Port) : Seats := z.seat i (z.holder i) l

/-- A waiter passed over leaves the head of the list. -/
theorem Seats.queue_leave (z : Seats) (i : Fin 64) {p : Port} {rest : List Port}
    (hp : p ∉ rest) :
    (z.queue i (p :: rest)).leave p i = (z.forget [p]).queue i rest := by
  have hrest : (p :: rest).filter (fun q => q ≠ p) = rest := by
    rw [List.filter_cons_of_neg (by simp)]
    exact List.filter_eq_self.2 fun q hq => by simpa using fun hqp : q = p => hp (hqp ▸ hq)
  refine Seats.ext_of (fun j => ?_) (fun j => ?_) rfl rfl
  · simp only [Seats.leave, Seats.queue, Seats.seat, Seats.forget, if_true]
    split
    · rfl
    · rfl
  · simp only [Seats.leave, Seats.queue, Seats.seat, Seats.forget, if_true, hrest]
    split
    · rfl
    · rfl

/-- The oldest waiter with room is granted the hold, those before it being passed over (R76). -/
theorem Seated.grantWaiters {i : Fin 64} (l : List Port) {s : State} {c : Check}
    (hc : s.check i = some c) (hhold : c.holder = none)
    (h : Seated (some i) (s.seats.queue i l)) :
    Seated none (State.grantWaiters i l s).seats := by
  have hholder : s.seats.holder i = none := (State.holderOf_of_check hc).trans hhold
  induction l generalizing s with
  | nil =>
    have hdone : (State.grantWaiters i [] s).seats = s.seats.queue i [] := by
      rw [State.grantWaiters, State.seats_modCheck s i hc, Seats.queue, hholder]
      exact congrArg (fun h => s.seats.seat i h []) hhold
    rw [hdone]
    exact h.close fun _ => if_pos rfl
  | cons p rest ih =>
    have hwaiters : (s.seats.queue i (p :: rest)).waiters i = p :: rest := if_pos rfl
    have hnodup := h.nodup i
    rw [hwaiters] at hnodup
    obtain ⟨hp, -⟩ := List.nodup_cons.1 hnodup
    have hleft := h.leave (p := p) (by rw [hwaiters]; exact List.mem_cons_self)
    rw [s.seats.queue_leave i hp] at hleft
    unfold State.grantWaiters
    split
    · next hroom =>
      have hgranted : (s.grantHold p i).check i = some { c with hold := some ⟨p, s.fullLease⟩ } := by
        simp [State.grantHold, State.setCount, hc]
      have hseats : (((((s.grantHold p i).modCheck i fun c => { c with waiters := rest }).setWait p
          none).raise p .holdGranted).seats) = ((s.seats.forget [p]).queue i rest).grant p i := by
        rw [(State.sameCore_raise _ _ _).seats, State.setWait, State.seats_setHolds,
          State.seats_modCheck _ i hgranted, State.seats_grantHold s i p hc]
        refine Seats.ext_of (fun j => ?_) (fun j => ?_) ?_ ?_
        · simp only [Seats.grant, Seats.queue, Seats.seat, Seats.forget]
          split
          · rfl
          · rfl
        · simp only [Seats.grant, Seats.queue, Seats.seat, Seats.forget, if_true]
          split
          · rfl
          · rfl
        · simp [Seats.grant, Seats.queue, Seats.seat, Seats.forget, State.seats, State.grantHold,
            State.setCount]
        · simp [Seats.grant, Seats.queue, Seats.seat, Seats.forget, State.seats, State.grantHold,
            State.setCount]
      rw [hseats]
      refine hleft.grant ?_ ?_ hroom
      · exact (if_pos rfl).trans hholder
      · exact fun hmem => hp (by simpa [Seats.queue, Seats.seat] using hmem)
    · have hpassed : (s.endWait p).check i = some c := by simpa [State.check] using hc
      refine ih hpassed ?_ ((State.holderOf_of_check hpassed).trans hhold)
      rw [State.seats_endWait]
      exact hleft

theorem Seats.queue_self (z : Seats) (i : Fin 64) : z.queue i (z.waiters i) = z :=
  z.seat_self i rfl rfl

/-- The end-of-hold actions find a held entry no more, and leave the law whole (R75). -/
theorem Seated.endOfHold {s : State} {i : Fin 64} (h : Seated (some i) s.seats)
    (hi : s.seats.holder i = none) : Seated none (s.endOfHold i).seats := by
  unfold State.endOfHold
  dsimp only
  split
  · next hnone =>
    obtain hsame | ⟨-, hfreed⟩ := s.tryPending_seats i
    · refine Seated.close (i := i) (hsame ▸ h) fun _ => State.waitersOf_of_free hnone
    · exact hfreed h
  · next c hc =>
    have hsame : (s.tryPending i).seats = s.seats := by
      obtain hsame | ⟨hnone, -⟩ := s.tryPending_seats i
      · exact hsame
      · rw [hc] at hnone
        cases hnone
    have hhold : c.holder = none := by
      rw [← hsame] at hi
      exact (State.holderOf_of_check hc).symm.trans hi
    have hqueue : (s.tryPending i).seats.queue i c.waiters = s.seats := by
      have hwaiters : c.waiters = (s.tryPending i).seats.waiters i :=
        (State.waitersOf_of_check hc).symm
      rw [hwaiters, Seats.queue_self, hsame]
    have hgranted := Seated.grantWaiters c.waiters hc hhold (hqueue ▸ h)
    split
    · rw [(State.sameCore_scheduleDeltas _).seats]
      exact hgranted
    · exact hgranted

theorem Seated.endHold {s : State} {i : Fin 64} (h : Seated none s.seats) (p : Port) :
    Seated none (s.endHold p i).seats := by
  obtain ⟨hdropped, hnone⟩ := (h.open (some i)).dropHold
  have hsame := (State.sameCore_abortWrite (s.dropHold i) i p (.refused .notHolder)).seats
  exact Seated.endOfHold (hsame ▸ hdropped) (hsame ▸ hnone)

theorem Seated.expireLease {s : State} (i : Fin 64) (h : Seated none s.seats) :
    Seated none (s.expireLease i).seats := by
  unfold State.expireLease
  split
  · next p _ =>
    obtain ⟨hdropped, hnone⟩ := (h.open (some i)).dropHold
    have hsame := ((State.sameCore_abortWrite (s.dropHold i) i p (.refused .notHolder)).trans
      (State.sameCore_raise _ p .leaseLost)).seats
    exact Seated.endOfHold (hsame ▸ hdropped) (hsame ▸ hnone)
  · exact h

theorem Seated.endQuietly {s : State} (i : Fin 64) (h : Seated none s.seats) :
    Seated none (s.endQuietly i).seats := by
  have hdropped := (h.open (some i)).dropHold.1
  have hsame := (State.sameCore_abortWrite (s.dropHold i) i .console (.refused .notHolder)).seats
  exact (Seated.dismissWaiters (hsame ▸ hdropped)).1

theorem Seated.leaveList {s : State} {i : Fin 64} {p : Port} (h : Seated none s.seats)
    (hp : p ∈ s.waitersOf i) : Seated none (s.leaveList p i).seats := by
  cases hc : s.check i with
  | none => simp [State.waitersOf_of_free hc] at hp
  | some c =>
    rw [s.seats_leaveList i p hc]
    exact h.leave_closed hp

theorem Seated.releaseAll {s : State} (p : Port) (h : Seated none s.seats) :
    Seated none (s.releaseAll p).seats := by
  have hat (u : State) (i : Fin 64) (hu : Seated none u.seats) :
      Seated none (State.releaseAt p u i).seats := by
    unfold State.releaseAt
    split
    · obtain ⟨hdropped, hnone⟩ := (hu.open (some i)).dropHold
      exact hdropped.endOfHold hnone
    · exact hu
  unfold State.releaseAll
  dsimp only
  refine foldl_preserves (State.releaseAt p) (fun u => Seated none u.seats) hat _ allIdx ?_
  split
  · next i hi => exact h.leaveList ((h.waits p i).2 hi)
  · exact h

theorem Seated.afterAck {s : State} (gone : List UplinkRecord) (h : Seated none s.seats) :
    Seated none (s.afterAck gone).seats := by
  have hfree (u : State) (i : Fin 64) (hu : Seated none u.seats) :
      Seated none (u.freeIfDone i).seats := by
    unfold State.freeIfDone
    split
    · split
      · exact (hu.open _).freeEntry
      · exact hu
    · exact hu
  have hretry (u : State) (i : Fin 64) (hu : Seated none u.seats) :
      Seated none (State.retryNamed gone u i).seats := by
    unfold State.retryNamed
    split
    · exact hu.tryPending
    · exact hu
  unfold State.afterAck
  dsimp only
  rw [(State.sameCore_readyAgain _).seats, (State.sameCore_deliver _ gone).seats,
    (State.sameCore_scheduleDeltas _).seats]
  exact foldl_preserves (State.retryNamed gone) (fun u : State => Seated none u.seats) hretry _ allIdx
    (foldl_preserves State.freeIfDone (fun u : State => Seated none u.seats) hfree s allIdx h)

end

/-! ### Rules -/

section
variable {s : State}

/-- The law of holds, over a rule's answer. -/
abbrev State.HoldsLaw (s : State) : Prop := Seated none s.seats

theorem State.HoldsLaw.of_seats {t : State} (hs : s.HoldsLaw) (h : t.seats = s.seats) :
    t.HoldsLaw := by
  rw [State.HoldsLaw, h]
  exact hs

theorem commitNewRule_holds (hs : s.HoldsLaw) : (commitNewRule s).state.HoldsLaw := by
  refine State.tested_keeps hs fun h => ?_
  have hroom : s.seats.count.get .console < 4 := of_decide_eq_true
    (h (decide (s.holds.count.console < Config.holdsPerPort), .holdLimit)
      (by simp [State.commitNewTests]))
  split
  · next k i u _ hallocate =>
    have hfree := (State.allocate_kept s hallocate).2
    have hseats := s.seats_allocate hallocate
    have hplaced := u.seats_place i (d := newCheck k s.staging.primary.covers
      s.staging.primary.seats (s.modes.terminalId.getD 0)) hfree rfl rfl
    have hholder : s.seats.holder i = none := hseats ▸ State.holderOf_of_free hfree
    have hwaiters : s.seats.waiters i = [] := hseats ▸ State.waitersOf_of_free hfree
    dsimp only [State.accept, State.HoldsLaw, State.setPrimary]
    rw [(State.sameCore_setStaging _ _).seats, State.seats_grantHold _ i .console
      ((State.check_putCheck u i i _).trans (if_pos rfl)), hplaced, hseats]
    exact (hs.open (some i)).grant hholder (by simp [hwaiters]) hroom
  · exact hs

theorem checkCloseRule_holds (index : Byte) (key : Half) (hs : s.HoldsLaw) :
    (checkCloseRule index key s).state.HoldsLaw :=
  State.onNamed_keeps hs fun i c _ => State.tested_keeps hs fun _ =>
    Seated.endQuietly i (hs.of_seats
      ((s.sameCore_placeClose i c).trans (State.sameCore_mod _ i fun _ => by rfl)).seats)

theorem resolveCloseRule_holds (index : Byte) (key : Half) (hs : s.HoldsLaw) :
    (resolveCloseRule index key s).state.HoldsLaw :=
  State.onNamed_keeps hs fun i c _ => State.tested_keeps hs fun _ =>
    Seated.endQuietly i (hs.of_seats
      ((s.sameCore_appendRecord _ _ _).trans (State.sameCore_mod _ i fun _ => by rfl)).seats)

theorem holdRule_holds (p : Port) (index : Byte) (key : Half) (hs : s.HoldsLaw) :
    (holdRule p index key s).state.HoldsLaw := by
  refine State.onNamed_keeps hs fun i c hc => ?_
  have hholder : s.seats.holder i = c.holder := State.holderOf_of_check hc
  have hwaiters : s.seats.waiters i = c.waiters := State.waitersOf_of_check hc
  unfold State.holdCases
  split
  · exact hs.of_seats (s.sameCore_restartLease i).seats
  · next hnot =>
    split
    · exact hs
    · next hnotWaiting =>
      split
      · next hnone =>
        refine State.tested_keeps hs fun h => ?_
        have hroom : s.holds.count.get p < 4 := of_decide_eq_true
          (h (decide (s.holds.count.get p < Config.holdsPerPort), .holdLimit) (by simp))
        dsimp only [State.accept, State.HoldsLaw]
        rw [s.seats_grantHold i p hc]
        exact (hs.open (some i)).grant (hholder.trans (by rw [Check.holder, hnone]; rfl))
          (hwaiters ▸ hnotWaiting) hroom
      · next hsome =>
        refine State.tested_keeps hs fun h => ?_
        have hwait : s.holds.waits.get p = none := by
          simpa using h (decide (s.holds.waits.get p = none), .waitBusy) (by simp)
        obtain ⟨g, hg⟩ := Option.ne_none_iff_exists'.1 hsome
        have hholds : c.holder = some g.holder := by rw [Check.holder, hg]; rfl
        dsimp only [State.HoldsLaw]
        rw [s.seats_joinList i p hc]
        exact hs.join (hholder.trans hholds) (fun heq => hnot (heq ▸ hholds)) hwait

theorem releaseRule_holds (p : Port) (index : Byte) (key : Half) (hs : s.HoldsLaw) :
    (releaseRule p index key s).state.HoldsLaw := by
  unfold releaseRule
  split
  · exact hs
  · next i _ =>
    refine State.tested_keeps hs fun _ => ?_
    unfold State.releaseCases
    split
    · exact hs
    · next c hc =>
      split
      · exact hs.endHold p
      · split
        · next hwaiting => exact hs.leaveList (by rwa [State.waitersOf_of_check hc])
        · exact hs

theorem imageEndRule_holds (hs : s.HoldsLaw) : (imageEndRule s).state.HoldsLaw := by
  have hplace (a : Assembly) : (s.placeImage a).state.seats = s.seats := by
    unfold State.placeImage
    split
    · exact s.seats_discardAssembly
    · next i u hallocate =>
      have hfree : u.takeAssembly.check i = none := (State.allocate_kept s hallocate).2
      dsimp only [State.accept]
      rw [(State.sameCore_raise _ _ _).seats, State.seats_place _ i hfree rfl rfl,
        State.seats_takeAssembly, s.seats_allocate hallocate]
  have hend (a : Assembly) (i : Fin 64) (c : Check) :
      (s.endImageAt a i c).state.seats = s.seats := by
    unfold State.endImageAt
    split
    · exact s.seats_discardAssembly
    · split
      · exact s.seats_discardAssembly
      · exact State.seats_deferImage _ i _
      · dsimp only [State.accept]
        rw [State.seats_setServer, State.seats_discardAssembly, State.seats_discardOlder]
      · exact State.seats_applyImage _ i _ _ _ _ _
  unfold imageEndRule
  split
  · exact hs
  · next a _ =>
    refine State.tested_keeps hs fun _ => hs.of_seats ((State.sameCore_setChannel _ _ _).seats.trans ?_)
    unfold State.endImage
    split
    · exact hplace a
    · split
      · exact hend a _ _
      · exact hplace a

theorem retireRule_holds (key server : Half) (hs : s.HoldsLaw) :
    (retireRule key server s).state.HoldsLaw := by
  refine State.tested_keeps hs fun _ => ?_
  split
  · exact hs
  · next i _ =>
    split
    · next c hc =>
      unfold State.retireAt
      split
      · exact hs
      · split
        · exact hs.of_seats ((State.seats_discardOlder _ i _).trans (s.seats_setServer i _))
        · split
          · exact hs.of_seats (s.seats_deferImage i _)
          · obtain hsame | ⟨-, hfreed⟩ := s.applyRetire_seats i server.toNat
            · exact hs.of_seats hsame
            · exact hfreed (hs.open _)
    · exact hs

theorem uplinkAckRule_holds (seq : Half) (hs : s.HoldsLaw) :
    (uplinkAckRule seq s).state.HoldsLaw := by
  refine State.tested_keeps hs fun _ => ?_
  split
  · exact hs
  · next gone kept _ =>
    dsimp only [State.accept]
    exact Seated.afterAck gone (hs.of_seats ((s.sameCore_setUplink _).trans
      (SameCore.foldl _ State.sameCore_settleRecord _ gone)).seats)

theorem linkDownRule_holds (hs : s.HoldsLaw) : (linkDownRule s).state.HoldsLaw := by
  unfold linkDownRule
  split
  · exact hs
  · refine hs.of_seats ((State.seats_discardAssembly _).trans (Eq.trans ?_ s.sameCore_loseLink.seats))
    unfold State.abortImage
    split
    · split
      · exact (State.sameCore_failStream _ _ _ _).seats
      · rfl
    · rfl

theorem State.seats_resetShare (s : State) (p : Port) : (s.resetShare p).seats = s.seats := by
  cases p with
  | console => rfl
  | tender => exact (s.sameCore_timeOutTaken false).seats
  | link => exact (State.sameCore_loseLink _).seats.trans s.seats_discardAssembly

theorem portResetRule_holds (p : Port) (hs : s.HoldsLaw) : (portResetRule p s).state.HoldsLaw := by
  have hreleased : State.HoldsLaw _ := Seated.releaseAll p (s := (s.closeChannel p).resetShare p)
    (hs.of_seats ((State.seats_resetShare _ p).trans (s.seats_closeChannel p)))
  dsimp only [portResetRule, State.accept]
  exact hreleased.of_seats (SameBut.seats (touched := [.attn]) (by simp [SameBut]) (by simp) (by simp))

theorem config1Rule_holds (tid pin : Byte) (hs : s.HoldsLaw) :
    (config1Rule tid pin s).state.HoldsLaw := by
  refine State.tested_keeps hs fun _ => ?_
  have hclosed : (if s.modes.step = .ready then s.closeAll else s).seats = s.seats := by
    split
    · simp only [State.closeAll, State.seats_closeChannel]
    · rfl
  exact hs.of_seats (Eq.trans rfl hclosed)

/-- Every rule keeps the law of holds. -/
theorem rule_holds {c : Instr} {r : Served} (h : requestOf c = some r) (hs : s.HoldsLaw) :
    (r.rule s).state.HoldsLaw := by
  have hsame := rule_same h s
  cases hc : movesCore c with
  | false => exact hs.of_seats (rule_sameCore h s hc).seats
  | true =>
    cases c <;> simp only [requestOf, Option.some.injEq, reduceCtorEq] at h <;>
      simp only [movesCore, Bool.false_eq_true] at hc <;> subst h
    case commitNew => exact commitNewRule_holds hs
    case checkClose => exact checkCloseRule_holds _ _ hs
    case resolveClose => exact resolveCloseRule_holds _ _ hs
    case itemAdd =>
      exact State.onNamed_keeps hs fun i _ hc => State.tested_keeps hs fun _ =>
        hs.of_seats (s.seats_addItem i hc _)
    case itemVoid =>
      exact State.tested_keeps hs fun _ => State.onNamed_keeps hs fun i c hc =>
        State.tested_keeps hs fun _ => hs.of_seats ((State.sameCore_afterEdit _ i).seats.trans
          (s.seats_put i hc (Check.seating_afterAmounts _)))
    case hold => exact holdRule_holds _ _ _ hs
    case release => exact releaseRule_holds _ _ _ hs
    case streamPut =>
      refine State.tested_keeps hs fun _ => ?_
      split
      · exact hs
      · exact hs
      · exact hs
      · split
        · exact hs
        · exact hs.of_seats (s.seats_putItems _ _)
    case imageEnd => exact imageEndRule_holds hs
    case linkStateDown => exact linkDownRule_holds hs
    case retire => exact retireRule_holds _ _ hs
    case uplinkAck => exact uplinkAckRule_holds _ hs
    case portReset x =>
      dsimp only
      exact portResetRule_holds x.port hs
    case config1 => exact config1Rule_holds _ _ hs
    all_goals exact hs.of_seats (hsame.seats (by simp [touchedBy]) (by simp [touchedBy]))

end

theorem State.HoldsLaw.of_outside {s t : State}
    (h : SameBut [.pending, .ports, .attn, .uplink, .modes] s t) (hs : s.HoldsLaw) : t.HoldsLaw :=
  hs.of_seats (SameCore.of_outside h).seats

theorem keptByEvents_holds : KeptByEvents State.HoldsLaw where
  ports s v := .of_outside (by simp [SameBut])
  raise s p c := .of_outside (by simp [SameBut])
  lower s p m := .of_outside (by simp [SameBut])
  lamp s := .of_outside (by simp [SameBut])
  wake s _ := .of_outside (by simp [SameBut])
  begins s _ := .of_outside (by simp [SameBut])
  pending s v := .of_outside (by simp [SameBut])
  advance s dt hs := hs.of_seats (s.sameCore_advance dt).seats
  line s high := .of_outside (by simp [SameBut, State.setWakeLine])
  awake s _ := .of_outside (by simp [SameBut])
  expire s i _ := Seated.expireLease i
  timeOut s _ hs := hs.of_seats (s.sameCore_timeOutTaken true).seats
  initial s held _ := by
    obtain ⟨-, -, -, -, -, -, -, -, hholds, -⟩ := lawsHoldAtReset
    have hreset : State.reset.HoldsLaw := (State.holdsAgree_iff _).1 hholds
    exact hreset.of_seats (State.seats_of_entries (fun _ => rfl) rfl)

/-- Settles O57, by the law of holders and waiters over every rule and event. -/
theorem stepsKeepHolds : Obligations.StepsKeepHolds := fun s t hs h =>
  t.holdsAgree_iff.2 (step_keeps keptByEvents_holds (fun _ _ hc _ _ _ => rule_holds hc) h
    (s.holdsAgree_iff.1 hs))

end Sys2Proof.Machine
end

section
/-!
SUPPORT. What is attached to an entry: the records of the queue that name it and the claims of the
descriptors in POSTED or TAKEN (R4, R7, R93), and what the shared operations do to them.
-/

namespace Sys2Proof.Machine

/-! ### Names and claims -/

theorem State.recordsNaming_eq (s : State) (i : Fin 64) :
    s.recordsNaming i = (s.uplink.records.map UplinkRecord.index).count (some i) := by
  rw [State.recordsNaming, List.count, List.countP_map, ← List.countP_eq_length_filter]
  rfl

/-- What a descriptor in POSTED or TAKEN claims of the entry it names: its base, under its key. -/
def Tender.claimOn (i : Fin 64) (t : Tender) : Option (Nat × Key) :=
  if t.committed && t.index == i then some (t.base, t.key) else none

/-- The claims of some descriptors on an entry. -/
def claims (tenders : List Tender) (i : Fin 64) : List (Nat × Key) :=
  tenders.filterMap (Tender.claimOn i)

theorem State.claims_eq (s : State) (i : Fin 64) :
    claims s.ring.tenders i = (s.committedOn i).map fun t => (t.base, t.key) := by
  rw [claims, State.committedOn]
  induction s.ring.tenders with
  | nil => rfl
  | cons t rest ih =>
    cases h : (t.committed && t.index == i) with
    | false => rw [List.filterMap_cons_none (by simp [Tender.claimOn, h]), ih]; simp [h]
    | true =>
      rw [List.filterMap_cons_some (b := (t.base, t.key)) (by simp [Tender.claimOn, h]), ih]
      simp [h]

theorem Tender.claimOn_eq_some {i : Fin 64} {t : Tender} (hc : t.committed = true)
    (hi : t.index = i) : t.claimOn i = some (t.base, t.key) := by
  simp [Tender.claimOn, hc, hi]

theorem Tender.claimOn_of_not {i : Fin 64} {t : Tender} (h : t.committed = false ∨ t.index ≠ i) :
    t.claimOn i = none := by
  obtain h | h := h <;> simp [Tender.claimOn, h]

/-- The claims do not change where a descriptor is replaced by one with the same claim. -/
theorem claims_set {tenders : List Tender} {k : Nat} {t t' : Tender} (hk : tenders[k]? = some t)
    {i : Fin 64} (h : t'.claimOn i = t.claimOn i) :
    claims (tenders.set k t') i = claims tenders i := by
  have hmap : (tenders.set k t').map (Tender.claimOn i) = tenders.map (Tender.claimOn i) := by
    rw [List.map_set, h]
    refine List.ext_getElem? fun j => ?_
    rw [List.getElem?_set]
    split
    · next hjk =>
      subst hjk
      obtain ⟨hlt, hget⟩ := List.getElem?_eq_some_iff.1 hk
      simp [hlt, hget]
    · rfl
  have hid (l : List Tender) : claims l i = (l.map (Tender.claimOn i)).filterMap id := by
    rw [claims, List.filterMap_map]
    rfl
  rw [hid, hid, hmap]

/-- A descriptor that no longer claims leaves the claims of its entry. -/
theorem claims_set_none {tenders : List Tender} {k : Nat} {t t' : Tender} {i : Fin 64}
    {a : Nat × Key} (hk : tenders[k]? = some t) (ht : t.claimOn i = some a)
    (ht' : t'.claimOn i = none) :
    (claims tenders i).Perm (a :: claims (tenders.set k t') i) := by
  obtain ⟨hlt, hget⟩ := List.getElem?_eq_some_iff.1 hk
  have hbefore := (List.getElem_cons_eraseIdx_perm hlt).filterMap (Tender.claimOn i)
  have hafter := (List.set_perm_cons_eraseIdx hlt t').filterMap (Tender.claimOn i)
  rw [List.filterMap_cons_some (hget ▸ ht)] at hbefore
  rw [List.filterMap_cons_none ht'] at hafter
  exact hbefore.symm.trans (hafter.symm.cons a)

theorem claims_append (tenders : List Tender) (t : Tender) (i : Fin 64) :
    claims (tenders ++ [t]) i = claims tenders i ++ (t.claimOn i).toList := by
  rw [claims, List.filterMap_append, claims]
  cases h : t.claimOn i <;> simp [h]

/-! ### The law of attachment -/

/-- A check agrees with the number of records that name its entry and the claims on it. -/
structure EntryLaw (names : Nat) (l : List (Nat × Key)) (c : Check) : Prop where
  pending : c.pendingUplink = names
  reserved : c.reserved = (l.map Prod.fst).sum
  closing : c.state = .closing → c.reserved = 0
  keys : ∀ a ∈ l, a.2 = c.key
  conflict : c.state.entry = .conflict → c.overpaid = false

/-- What the law asks of a descriptor by itself. -/
def Tender.Sound (t : Tender) : Prop := 1 ≤ t.base ∧ (t.cls = .cash → t.isFinished = true)

/-- The law of attachment, but that one check may not be evaluated yet, as between a change of its
amounts and the evaluation that follows. -/
structure Attached (but : Option (Fin 64)) (s : State) : Prop where
  free : ∀ i, s.check i = none → s.recordsNaming i = 0 ∧ claims s.ring.tenders i = []
  entry : ∀ i c, s.check i = some c → EntryLaw (s.recordsNaming i) (claims s.ring.tenders i) c
  evaluated : ∀ i c, s.check i = some c → but ≠ some i → c.Evaluated
  tenders : ∀ t ∈ s.ring.tenders, t.Sound

theorem Check.Evaluated.conflict {c : Check} (h : c.Evaluated) (hc : c.state.entry = .conflict) :
    c.overpaid = false := by
  rw [h.1, hc]
  rfl

theorem State.entriesAttached_iff (s : State) : s.EntriesAttached ↔ Attached none s := by
  have hclaims (i : Fin 64) := s.claims_eq i
  have hkeys (i : Fin 64) (k : Key) : (∀ a ∈ claims s.ring.tenders i, a.2 = k) ↔
      ∀ t ∈ s.committedOn i, t.key = k := by
    rw [hclaims]
    simp
  have hsum (i : Fin 64) : ((claims s.ring.tenders i).map Prod.fst).sum =
      ((s.committedOn i).map Tender.base).sum := by
    rw [hclaims, List.map_map]
    rfl
  have hnil (i : Fin 64) : claims s.ring.tenders i = [] ↔ s.committedOn i = [] := by
    rw [hclaims, List.map_eq_nil_iff]
  constructor
  · rintro ⟨hattached, hevaluated, htenders⟩
    refine ⟨fun i hi => ?_, fun i c hc => ?_, fun i c hc _ => hevaluated i c hc, htenders⟩
    · exact ⟨((hattached i).1 hi).1, (hnil i).2 ((hattached i).1 hi).2⟩
    · obtain ⟨hpending, hreserved, hclosing, hkey⟩ := (hattached i).2 c hc
      exact ⟨hpending, hreserved.trans (hsum i).symm, hclosing, (hkeys i c.key).2 hkey,
        (hevaluated i c hc).conflict⟩
  · intro h
    refine ⟨fun i => ⟨fun hi => ?_, fun c hc => ?_⟩, fun i c hc => h.evaluated i c hc (by simp),
      h.tenders⟩
    · exact ⟨(h.free i hi).1, (hnil i).1 (h.free i hi).2⟩
    · obtain ⟨hpending, hreserved, hclosing, hkey, -⟩ := h.entry i c hc
      exact ⟨hpending, hreserved.trans (hsum i), hclosing, (hkeys i c.key).1 hkey⟩

theorem Attached.open {s : State} (h : Attached none s) (but : Option (Fin 64)) : Attached but s :=
  { h with evaluated := fun i c hc _ => h.evaluated i c hc (by simp) }

theorem Attached.close {s : State} {i : Fin 64} (h : Attached (some i) s)
    (hi : ∀ c, s.check i = some c → c.Evaluated) : Attached none s :=
  { h with
    evaluated := fun j c hc _ => by
      by_cases hij : i = j
      · exact hi c (hij ▸ hc)
      · exact h.evaluated j c hc (by simpa using hij) }

/-! ### What changes nothing attached -/

/-- What the law reads of a check. -/
def Check.dues (c : Check) : Key × Nat × Nat × CheckState × Bool × Nat × Nat :=
  (c.key, c.pendingUplink, c.reserved, c.state, c.overpaid, c.due, c.approved)

theorem Check.dues_eq_iff (c d : Check) :
    c.dues = d.dues ↔ c.key = d.key ∧ c.pendingUplink = d.pendingUplink ∧
      c.reserved = d.reserved ∧ c.state = d.state ∧ c.overpaid = d.overpaid ∧ c.due = d.due ∧
        c.approved = d.approved := by
  simp [Check.dues]

theorem Check.evaluated_congr {c d : Check} (h : d.dues = c.dues) (hc : c.Evaluated) :
    d.Evaluated := by
  obtain ⟨-, -, hreserved, hstate, hoverpaid, hdue, happroved⟩ := (d.dues_eq_iff c).1 h
  rw [Check.Evaluated, hreserved, hstate, hoverpaid, hdue, happroved]
  exact hc

theorem EntryLaw.congr {names : Nat} {l : List (Nat × Key)} {c d : Check} (h : d.dues = c.dues)
    (hc : EntryLaw names l c) : EntryLaw names l d := by
  obtain ⟨hkey, hpending, hreserved, hstate, hoverpaid, -, -⟩ := (d.dues_eq_iff c).1 h
  obtain ⟨hp, hr, hcl, hk, hco⟩ := hc
  exact ⟨hpending.trans hp, hreserved.trans hr, fun h => hreserved.trans (hcl (hstate ▸ h)),
    fun a ha => (hk a ha).trans hkey.symm, fun h => hoverpaid.trans (hco (hstate ▸ h))⟩

/-- The dues of no check change, nor the descriptors, nor which entries the records name. -/
structure SameDues (s t : State) : Prop where
  entries : ∀ i, (t.check i).map Check.dues = (s.check i).map Check.dues
  tenders : t.ring.tenders = s.ring.tenders
  names : t.uplink.records.map UplinkRecord.index = s.uplink.records.map UplinkRecord.index

theorem SameDues.refl (s : State) : SameDues s s := ⟨fun _ => rfl, rfl, rfl⟩

theorem SameDues.trans {s t w : State} (h : SameDues s t) (k : SameDues t w) : SameDues s w where
  entries i := (k.entries i).trans (h.entries i)
  tenders := k.tenders.trans h.tenders
  names := k.names.trans h.names

theorem SameDues.foldl {α : Type} (f : State → α → State) (h : ∀ s a, SameDues s (f s a)) (s : State)
    (l : List α) : SameDues s (l.foldl f s) :=
  foldl_preserves f (SameDues s) (fun b a hb => hb.trans (h b a)) s l (.refl s)

/-- None of the blocks that change holds anything of it. -/
theorem SameDues.of_same {touched : List Block} {s t : State} (h : SameBut touched s t)
    (hnot : ∀ b ∈ touched, b ∉ [Block.table, .ring, .uplink]) : SameDues s t := by
  have hno (b : Block) (hb : b ∈ [Block.table, .ring, .uplink]) : b ∉ touched :=
    fun hm => hnot b hm hb
  obtain ⟨-, -, -, htable, -, -, -, hring, -, -, -, hu, -⟩ := h
  exact ⟨fun i => by rw [State.check, htable (hno _ (by simp)), ← State.check],
    by rw [hring (hno _ (by simp))], by rw [hu (hno _ (by simp))]⟩

theorem SameDues.check_back {s t : State} (h : SameDues s t) {i : Fin 64} {d : Check}
    (hd : t.check i = some d) : ∃ c, s.check i = some c ∧ c.dues = d.dues := by
  have := (h.entries i).symm
  rw [hd] at this
  exact Option.map_eq_some_iff.1 this

theorem SameDues.check {s t : State} (h : SameDues s t) {i : Fin 64} {c : Check}
    (hc : s.check i = some c) : ∃ d, t.check i = some d ∧ d.dues = c.dues := by
  have := h.entries i
  rw [hc] at this
  exact Option.map_eq_some_iff.1 this

theorem SameDues.check_none {s t : State} (h : SameDues s t) {i : Fin 64} :
    t.check i = none ↔ s.check i = none := by
  rw [← Option.map_eq_none_iff, h.entries i, Option.map_eq_none_iff]

theorem SameDues.recordsNaming {s t : State} (h : SameDues s t) (i : Fin 64) :
    t.recordsNaming i = s.recordsNaming i := by
  rw [State.recordsNaming_eq, State.recordsNaming_eq, h.names]

theorem SameDues.attached {s t : State} {but : Option (Fin 64)} (h : SameDues s t)
    (hs : Attached but s) : Attached but t where
  free i hi := by
    rw [h.recordsNaming, h.tenders]
    exact hs.free i (h.check_none.1 hi)
  entry i d hd := by
    obtain ⟨c, hc, hdues⟩ := h.check_back hd
    rw [h.recordsNaming, h.tenders]
    exact (hs.entry i c hc).congr hdues.symm
  evaluated i d hd hi := by
    obtain ⟨c, hc, hdues⟩ := h.check_back hd
    exact Check.evaluated_congr hdues.symm (hs.evaluated i c hc hi)
  tenders := by
    rw [h.tenders]
    exact hs.tenders

section
variable (s : State) (i : Fin 64) (p : Port)

theorem State.sameDues_mod {f : Check → Check}
    (h : ∀ c, (f c).dues = c.dues) : SameDues s (s.modCheck i f) := by
  refine ⟨fun j => ?_, by simp, by simp⟩
  rw [State.check_modCheck]
  split
  · next hj => simp [hj, Function.comp_def, h]
  · rfl

theorem State.sameDues_put {c d : Check} (hc : s.check i = some c)
    (h : d.dues = c.dues) : SameDues s (s.putCheck i (some d)) := by
  refine ⟨fun j => ?_, by simp, by simp⟩
  rw [State.check_putCheck]
  split
  · next hj => simp [hj, hc, h]
  · rfl

theorem State.sameDues_setUplink {u : UplinkQueue}
    (h : u.records.map UplinkRecord.index = s.uplink.records.map UplinkRecord.index) :
    SameDues s (s.setUplink u) := ⟨fun _ => rfl, rfl, h⟩

theorem State.sameDues_raise (c : Cause) : SameDues s (s.raise p c) :=
  .of_same (touched := [.attn]) (by simp [SameBut]) (by simp)

theorem State.sameDues_abortReads (r : AbortReason) : SameDues s (s.abortReads i r) :=
  .of_same (touched := [.attn, .streams]) (by simp [SameBut]) (by simp)

theorem State.sameDues_abortWrite (r : AbortReason) : SameDues s (s.abortWrite p i r) :=
  .of_same (touched := [.attn, .streams]) (by simp [SameBut]) (by simp)

theorem State.sameDues_freeItems (items : List Item) : SameDues s (s.freeItems items) :=
  .of_same (touched := [.pool]) (by simp [SameBut]) (by simp)

theorem State.sameDues_setHolds (v : HoldArbiter) : SameDues s (s.setHolds v) :=
  ⟨fun _ => rfl, rfl, rfl⟩

theorem State.sameDues_setStaging (v : StagingUnit) : SameDues s (s.setStaging v) :=
  ⟨fun _ => rfl, rfl, rfl⟩

theorem State.sameDues_setChannel (ch : Channel) : SameDues s (s.setChannel p ch) :=
  ⟨fun _ => rfl, rfl, rfl⟩

theorem State.sameDues_setFloor (f : FloorSync) : SameDues s (s.setFloor f) :=
  ⟨fun _ => rfl, rfl, rfl⟩

theorem State.sameDues_countTotals (f : Totals → Totals) : SameDues s (s.countTotals f) :=
  .of_same (touched := [.totals]) (by simp [SameBut]) (by simp)

theorem State.sameDues_discardAssembly : SameDues s s.discardAssembly :=
  .of_same (touched := [.pool, .floor]) (by simp [SameBut]) (by simp)

theorem State.sameDues_closeChannel : SameDues s (s.closeChannel p) :=
  .of_same (touched := [.pool, .floor, .streams]) (by simp [SameBut]) (by simp)

theorem State.sameDues_restartLease : SameDues s (s.restartLease i) := s.sameDues_mod i fun _ => by rfl

theorem State.sameDues_restartIfHolder : SameDues s (s.restartIfHolder p i) := by
  unfold State.restartIfHolder
  split
  · exact s.sameDues_restartLease i
  · exact .refl s

theorem State.sameDues_afterEdit : SameDues s (s.afterEdit i) :=
  (s.sameDues_abortReads i _).trans (State.sameDues_restartLease _ i)

theorem State.sameDues_grantHold : SameDues s (s.grantHold p i) :=
  (s.sameDues_mod i fun _ => by rfl).trans (State.sameDues_setHolds _ _)

theorem State.sameDues_dropHold : SameDues s (s.dropHold i) := by
  unfold State.dropHold
  split
  · exact (s.sameDues_mod i fun _ => by rfl).trans (State.sameDues_setHolds _ _)
  · exact .refl s

theorem State.sameDues_endWait : SameDues s (s.endWait p) :=
  (s.sameDues_setHolds _).trans (State.sameDues_raise _ _ _)

theorem State.sameDues_dismissWaiters : SameDues s (s.dismissWaiters i) := by
  unfold State.dismissWaiters
  split
  · exact (SameDues.foldl _ State.sameDues_endWait s _).trans (State.sameDues_mod _ i fun _ => by rfl)
  · exact .refl s

theorem State.sameDues_leaveList : SameDues s (s.leaveList p i) :=
  (s.sameDues_mod i fun _ => by rfl).trans (State.sameDues_setHolds _ _)

theorem State.sameDues_joinList : SameDues s (s.joinList p i) :=
  (s.sameDues_mod i fun _ => by rfl).trans (State.sameDues_setHolds _ _)

theorem State.sameDues_grantWaiters (l : List Port) : SameDues s (State.grantWaiters i l s) := by
  induction l generalizing s with
  | nil => exact s.sameDues_mod i fun _ => by rfl
  | cons p rest ih =>
    unfold State.grantWaiters
    split
    · exact (s.sameDues_grantHold i p).trans ((State.sameDues_mod _ i fun _ => by rfl).trans
        ((State.sameDues_setHolds _ _).trans (State.sameDues_raise _ _ _)))
    · exact (s.sameDues_endWait p).trans (ih _)

theorem State.sameDues_endQuietly : SameDues s (s.endQuietly i) :=
  (s.sameDues_dropHold i).trans ((State.sameDues_abortWrite _ _ _ _).trans
    (State.sameDues_dismissWaiters _ _))

theorem State.sameDues_discardImage : SameDues s (s.discardImage i) := by
  unfold State.discardImage
  split
  · split
    · exact (s.sameDues_freeItems _).trans (State.sameDues_mod _ i fun _ => by rfl)
    · exact .refl s
  · exact .refl s

theorem State.sameDues_discardOlder (server : Nat) : SameDues s (s.discardOlder i server) := by
  unfold State.discardOlder
  split
  · split
    · split
      · exact s.sameDues_discardImage i
      · exact .refl s
    · exact .refl s
  · exact .refl s

theorem State.sameDues_setServer (server : Nat) : SameDues s (s.setServer i server) :=
  s.sameDues_mod i fun _ => by rfl

theorem State.sameDues_takePending : SameDues s (s.takePending i) := s.sameDues_mod i fun _ => by rfl

theorem State.sameDues_deferImage (g : PendingImage) : SameDues s (s.deferImage i g) :=
  (s.sameDues_discardImage i).trans (State.sameDues_mod _ i fun _ => by rfl)

theorem State.sameDues_loseHolder (p : Option Port) : SameDues s (s.loseHolder i p) := by
  cases p with
  | none => exact .refl s
  | some p =>
    exact (s.sameDues_dropHold i).trans ((State.sameDues_raise _ _ _).trans
      (State.sameDues_abortWrite _ _ _ _))

theorem State.sameDues_continueStream (st : Stream) : SameDues s (s.continueStream p st) :=
  .of_same (s.continueStream_same p st) (by simp)

theorem State.sameDues_failStream (st : Stream) (o : ReplyOutcome) :
    SameDues s (s.failStream p st o) :=
  .of_same (s.failStream_same p st o) (by simp)

theorem State.sameDues_advance (dt : Nat) : SameDues s (s.advance dt) := by
  by_cases hheld : s.modes.resetHeld = true
  · simpa [State.advance, hheld] using SameDues.refl s
  · rw [Bool.not_eq_true] at hheld
    by_cases hmode : s.modes.mode = .sleep
    · rw [State.advance_of_sleep dt hheld hmode]
      exact ⟨fun _ => rfl, rfl, rfl⟩
    · refine ⟨fun i => ?_, ?_, ?_⟩
      · rw [State.advance_check_of_running dt hheld hmode, Option.map_map]
        rfl
      · rw [State.advance_of_running dt hheld hmode]
      · rw [State.advance_of_running dt hheld hmode]

end

end Sys2Proof.Machine
end

section
/-!
SUPPORT. What the operations that append records, remove them, move amounts or end descriptors do to the
law of attachment (R4, R7 to R10, R23).
-/

namespace Sys2Proof.Machine

/-! ### Evaluation -/

theorem evaluatedState_editable (reserved due approved : Nat) :
    (evaluatedState reserved due approved).editable = true := by
  unfold evaluatedState
  (repeat' split) <;> rfl

theorem CheckState.entry_of_editable {st : CheckState} (h : st.editable = true) :
    st.entry ≠ .conflict ∧ st ≠ .closing := by
  cases st <;> simp [CheckState.editable, CheckState.entry] at h ⊢

theorem Check.evaluated_evaluate (c : Check) : c.evaluate.Evaluated := by
  have hconflict := (CheckState.entry_of_editable
    (evaluatedState_editable c.reserved c.due c.approved)).1
  have hflag : decide (c.evaluate.state.entry ≠ .conflict) = true := decide_eq_true hconflict
  exact ⟨by rw [hflag, Bool.true_and]; rfl, fun _ => rfl⟩

theorem Check.evaluated_markOverpaid {c : Check} (h : c.state = .closing) :
    c.markOverpaid.Evaluated := by
  refine ⟨?_, fun hedit => ?_⟩
  · simp [Check.markOverpaid, h, CheckState.entry]
  · simp [Check.markOverpaid, h, CheckState.editable] at hedit

theorem Check.evaluated_conflict {c : Check} {kind : ConflictKind} (h : c.state = .conflict kind)
    (ho : c.overpaid = false) : c.Evaluated := by
  refine ⟨?_, fun hedit => ?_⟩
  · simp [h, ho, CheckState.entry]
  · simp [h, CheckState.editable] at hedit

theorem CheckState.conflict_iff (st : CheckState) :
    st.entry = .conflict ↔ ∃ kind, st = .conflict kind := by
  cases st <;> simp [CheckState.entry]

/-- After its amounts change a check is evaluated, where a check in CONFLICT has the flag clear. -/
theorem Check.evaluated_afterAmounts {c : Check} (h : c.state.entry = .conflict → c.overpaid = false) :
    c.afterAmounts.Evaluated := by
  unfold Check.afterAmounts
  split
  · exact c.evaluated_evaluate
  · exact c.evaluated_evaluate
  · exact c.evaluated_evaluate
  · next hs => exact Check.evaluated_markOverpaid hs
  · next hs => exact Check.evaluated_conflict hs (h ((CheckState.conflict_iff _).2 ⟨_, hs⟩))

section
variable {names : Nat} {l : List (Nat × Key)} {c : Check}

/-- The law of an entry whose check is given an evaluated state. -/
theorem EntryLaw.of_state (h : EntryLaw names l c) {d : Check} (hkey : d.key = c.key)
    (hpending : d.pendingUplink = c.pendingUplink) (hreserved : d.reserved = c.reserved)
    (hclosing : d.state = .closing → c.reserved = 0)
    (hconflict : d.state.entry = .conflict → d.overpaid = false) : EntryLaw names l d where
  pending := hpending.trans h.pending
  reserved := hreserved.trans h.reserved
  closing hs := hreserved.trans (hclosing hs)
  keys a ha := (h.keys a ha).trans hkey.symm
  conflict := hconflict

theorem EntryLaw.evaluate (h : EntryLaw names l c) : EntryLaw names l c.evaluate := by
  have hstate := CheckState.entry_of_editable (evaluatedState_editable c.reserved c.due c.approved)
  exact h.of_state rfl rfl rfl (fun hs => absurd hs hstate.2) fun hs => absurd hs hstate.1

theorem EntryLaw.afterAmounts (h : EntryLaw names l c) : EntryLaw names l c.afterAmounts := by
  unfold Check.afterAmounts
  split
  · exact h.evaluate
  · exact h.evaluate
  · exact h.evaluate
  · next hs =>
    exact h.of_state rfl rfl rfl (fun _ => h.closing hs) fun hc => by
      simp [Check.markOverpaid, hs, CheckState.entry] at hc
  · exact h

end

/-! ### Records that join and leave the queue -/

section
variable {s t : State} {but : Option (Fin 64)} {i : Fin 64}

/-- A record joins the queue, with the pending uplink count of the entry it names. -/
theorem Attached.append (h : Attached but s) (index : Option (Fin 64)) (key : Key)
    (body : RecordBody) (hindex : ∀ i, index = some i → s.check i ≠ none) :
    Attached but (s.appendRecord index key body) := by
  have hnames (j : Fin 64) : (s.appendRecord index key body).recordsNaming j =
      s.recordsNaming j + if index = some j then 1 else 0 := by
    rw [State.recordsNaming_eq, State.recordsNaming_eq, State.appendRecord_uplink]
    simp [List.count_append, List.count_singleton]
  have htenders : (s.appendRecord index key body).ring.tenders = s.ring.tenders := by simp
  have hcheck (j : Fin 64) : (s.appendRecord index key body).check j =
      if index = some j then (s.check j).map fun c => { c with pendingUplink := c.pendingUplink + 1 }
      else s.check j := by
    cases index with
    | none => rw [State.check, State.appendRecord_none_table, ← State.check]; rfl
    | some i =>
      rw [State.appendRecord_check]
      by_cases hj : j = i
      · simp [hj]
      · simp [hj, Ne.symm hj]
  refine ⟨fun j hj => ?_, fun j d hd => ?_, fun j d hd hbut => ?_, htenders ▸ h.tenders⟩
  · rw [hcheck] at hj
    split at hj
    · next hij => exact absurd (Option.map_eq_none_iff.1 hj) (hindex j hij)
    · next hij =>
      rw [hnames, htenders, if_neg hij]
      exact h.free j hj
  · rw [hcheck] at hd
    rw [hnames, htenders]
    split at hd
    · next hij =>
      obtain ⟨c, hc, rfl⟩ := Option.map_eq_some_iff.1 hd
      obtain ⟨hp, hr, hcl, hk, hco⟩ := h.entry j c hc
      rw [if_pos hij]
      exact ⟨congrArg (· + 1) hp, hr, hcl, hk, hco⟩
    · next hij =>
      rw [if_neg hij]
      exact h.entry j d hd
  · rw [hcheck] at hd
    split at hd
    · obtain ⟨c, hc, rfl⟩ := Option.map_eq_some_iff.1 hd
      exact h.evaluated j c hc hbut
    · exact h.evaluated j d hd hbut

/-- A check with its pending uplink count lowered. -/
def Check.uncounted (n : Nat) (c : Check) : Check := { c with pendingUplink := c.pendingUplink - n }

/-- Records leave the queue, with the pending uplink counts of the entries they named. -/
theorem Attached.dequeue (h : Attached but s) (m : Fin 64 → Nat)
    (hcheck : ∀ j, t.check j = (s.check j).map (Check.uncounted (m j)))
    (hnames : ∀ j, t.recordsNaming j + m j = s.recordsNaming j)
    (htenders : t.ring.tenders = s.ring.tenders) : Attached but t := by
  refine ⟨fun j hj => ?_, fun j d hd => ?_, fun j d hd hbut => ?_, htenders ▸ h.tenders⟩
  · rw [hcheck, Option.map_eq_none_iff] at hj
    have := hnames j
    obtain ⟨hzero, hclaims⟩ := h.free j hj
    exact ⟨by omega, htenders ▸ hclaims⟩
  · rw [hcheck] at hd
    obtain ⟨c, hc, rfl⟩ := Option.map_eq_some_iff.1 hd
    obtain ⟨hp, hr, hcl, hk, hco⟩ := h.entry j c hc
    have hn := hnames j
    rw [htenders]
    refine ⟨?_, hr, hcl, hk, hco⟩
    simp only [Check.uncounted]
    omega
  · rw [hcheck] at hd
    obtain ⟨c, hc, rfl⟩ := Option.map_eq_some_iff.1 hd
    exact h.evaluated j c hc hbut

theorem Check.uncounted_zero : Check.uncounted 0 = id := by
  funext c
  rfl

theorem Check.uncounted_add (m n : Nat) :
    Check.uncounted m ∘ Check.uncounted n = Check.uncounted (n + m) := by
  funext c
  simp [Check.uncounted, Nat.sub_sub]

theorem State.uncount_check (s : State) (i j : Fin 64) :
    (s.uncount i).check j = (s.check j).map (Check.uncounted (if i = j then 1 else 0)) := by
  rw [State.uncount, State.check_modCheck]
  by_cases hj : j = i
  · subst hj
    rw [if_pos rfl, if_pos rfl]
    rfl
  · rw [if_neg hj, if_neg (Ne.symm hj), Check.uncounted_zero, Option.map_id_apply]

theorem State.foldl_uncount_check (gone : List (Fin 64)) (s : State) (j : Fin 64) :
    (gone.foldl State.uncount s).check j = (s.check j).map (Check.uncounted (gone.count j)) := by
  induction gone generalizing s with
  | nil => rw [List.foldl_nil, List.count_nil, Check.uncounted_zero, Option.map_id_apply]
  | cons i rest ih =>
    rw [List.foldl_cons, ih, State.uncount_check, Option.map_map, Check.uncounted_add,
      List.count_cons, Nat.add_comm]
    simp

/-- The entries that superseded records named, and the records that stay. -/
theorem supersede_count (mark : Option Nat) (l : List UplinkRecord) (j : Fin 64) :
    ((supersede mark l).1.map UplinkRecord.index).count (some j) + (supersede mark l).2.2.count j =
      (l.map UplinkRecord.index).count (some j) := by
  induction l generalizing mark with
  | nil => rfl
  | cons r rest ih =>
    unfold supersede
    split
    · next i _ hindex =>
      split
      · extract_lets mark'
        have := ih mark'
        generalize supersede mark' rest = out at this ⊢
        obtain ⟨kept, mark', gone⟩ := out
        simp only [List.map_cons, List.count_cons, hindex, beq_iff_eq, Option.some.injEq] at this ⊢
        omega
      · have := ih mark
        generalize supersede mark rest = out at this ⊢
        obtain ⟨kept, mark', gone⟩ := out
        simp only [List.map_cons, List.count_cons] at this ⊢
        omega
    · have := ih mark
      generalize supersede mark rest = out at this ⊢
      obtain ⟨kept, mark', gone⟩ := out
      simp only [List.map_cons, List.count_cons] at this ⊢
      omega

theorem Attached.unsend (h : Attached but s) : Attached but s.unsend := by
  have hring : s.unsend.ring = s.ring := by simp
  have huplink : s.unsend.uplink.records = (supersede s.uplink.mark
      (s.uplink.records.map fun r => { r with sent := false })).1 := by
    unfold State.unsend
    exact foldl_keeps State.uncount (fun u => u.uplink.records) (fun u i => by simp) _ _
  refine h.dequeue (fun j => (supersede s.uplink.mark
    (s.uplink.records.map fun r => { r with sent := false })).2.2.count j) (fun j => ?_)
    (fun j => ?_) (by rw [hring])
  · unfold State.unsend
    dsimp only
    rw [State.foldl_uncount_check, State.setUplink_check]
  · rw [State.recordsNaming_eq, State.recordsNaming_eq, huplink, supersede_count, List.map_map]
    rfl

theorem Attached.loseLink (h : Attached but s) : Attached but s.loseLink :=
  Attached.unsend ((s.sameDues_setFloor _).attached h)

theorem State.settleRecord_check (s : State) (r : UplinkRecord) (j : Fin 64) :
    (s.settleRecord r).check j =
      (s.check j).map (Check.uncounted (if r.index = some j then 1 else 0)) := by
  unfold State.settleRecord
  cases r.index with
  | none =>
    cases r.offlineAmount <;> simp [Check.uncounted_zero]
  | some i =>
    cases r.offlineAmount <;> simp [State.uncount_check]

theorem State.foldl_settleRecord_check (gone : List UplinkRecord) (s : State) (j : Fin 64) :
    (gone.foldl State.settleRecord s).check j = (s.check j).map
      (Check.uncounted ((gone.map UplinkRecord.index).count (some j))) := by
  induction gone generalizing s with
  | nil => rw [List.foldl_nil, List.map_nil, List.count_nil, Check.uncounted_zero,
      Option.map_id_apply]
  | cons r rest ih =>
    rw [List.foldl_cons, ih, State.settleRecord_check, Option.map_map, Check.uncounted_add,
      List.map_cons, List.count_cons, Nat.add_comm]
    simp

theorem Attached.settle (h : Attached but s) {seq : Nat} {gone kept : List UplinkRecord}
    (hsplit : ackSplit seq s.uplink.records = some (gone, kept)) :
    Attached but (gone.foldl State.settleRecord
      (s.setUplink { s.uplink with records := kept })) := by
  obtain ⟨-, -, -, -, -, -, -, hring, -, -, -, hu, -⟩ := SameBut.foldl _ State.settleRecord_same
    (s.setUplink { s.uplink with records := kept }) gone
  refine h.dequeue (fun j => (gone.map UplinkRecord.index).count (some j)) (fun j => ?_)
    (fun j => ?_) (by rw [hring (by simp)]; rfl)
  · rw [State.foldl_settleRecord_check, State.setUplink_check]
  · have hperm := ((ackSplit_sublist hsplit).2.map UplinkRecord.index).count_eq (some j)
    rw [List.map_append, List.count_append] at hperm
    rw [State.recordsNaming_eq, State.recordsNaming_eq, hu (by simp)]
    simp only [State.setUplink_uplink]
    omega

theorem Attached.scheduleDeltas (h : Attached but s) : Attached but s.scheduleDeltas := by
  have hat (u : State) (i : Fin 64) (hu : Attached but u) : Attached but (u.scheduleAt i) := by
    unfold State.scheduleAt
    split
    · next c hc =>
      split
      · refine (State.sameDues_mod _ i fun _ => by rfl).attached (hu.append _ _ _ fun j hj => ?_)
        cases hj
        simp [hc]
      · exact hu
    · exact hu
  exact foldl_preserves State.scheduleAt (Attached but) hat s allIdx h

/-! ### Amounts and states of one check -/

/-- The check of one entry changes, within the law of the entry. -/
theorem Attached.mod (h : Attached (some i) s) {f : Check → Check}
    (hf : ∀ n l c, EntryLaw n l c → EntryLaw n l (f c)) : Attached (some i) (s.modCheck i f) := by
  have hnames (j : Fin 64) : (s.modCheck i f).recordsNaming j = s.recordsNaming j := by
    rw [State.recordsNaming_eq, State.recordsNaming_eq]
    simp
  have htenders : (s.modCheck i f).ring.tenders = s.ring.tenders := by simp
  refine ⟨fun j hj => ?_, fun j d hd => ?_, fun j d hd hbut => ?_, htenders ▸ h.tenders⟩
  · rw [hnames, htenders]
    rw [State.check_modCheck] at hj
    split at hj
    · next hij => exact h.free j (hij ▸ Option.map_eq_none_iff.1 hj)
    · exact h.free j hj
  · rw [hnames, htenders]
    rw [State.check_modCheck] at hd
    split at hd
    · next hij =>
      obtain ⟨c, hc, rfl⟩ := Option.map_eq_some_iff.1 hd
      exact hf _ _ c (h.entry j c (hij ▸ hc))
    · exact h.entry j d hd
  · rw [State.check_modCheck] at hd
    split at hd
    · next hij => exact absurd (congrArg some hij.symm) hbut
    · exact h.evaluated j d hd hbut

theorem Attached.afterAmounts (h : Attached (some i) s) :
    Attached none (s.modCheck i Check.afterAmounts) := by
  refine (h.mod fun _ _ _ hc => hc.afterAmounts).close fun d hd => ?_
  rw [State.check_modCheck, if_pos rfl] at hd
  obtain ⟨c, hc, rfl⟩ := Option.map_eq_some_iff.1 hd
  exact Check.evaluated_afterAmounts (h.entry i c hc).conflict

theorem EntryLaw.approve {n : Nat} {l : List (Nat × Key)} {c : Check} (h : EntryLaw n l c)
    (amount tip : Nat) : EntryLaw n l (c.approve amount tip) :=
  ⟨h.1, h.2, h.3, h.4, h.5⟩

/-! ### CONFLICT -/

/-- A descriptor cancelled for one entry claims nothing of it, and as before of the others. -/
theorem Tender.claimOn_cancelledOn (i j : Fin 64) (t : Tender) :
    (t.cancelledOn i).claimOn j = if t.postedOn i = true ∧ i = j then none else t.claimOn j := by
  unfold Tender.cancelledOn
  by_cases hposted : t.postedOn i = true
  · rw [if_pos hposted]
    have hindex : t.index = i := by
      simp only [Tender.postedOn, decide_eq_true_eq] at hposted
      exact hposted.2
    have hfinished : Tender.claimOn j { t with phase := .finished .cancelledByFloor } = none :=
      Tender.claimOn_of_not (.inl (Tender.not_committed_of_finished rfl))
    rw [hfinished]
    by_cases hij : i = j
    · rw [if_pos ⟨hposted, hij⟩]
    · rw [if_neg fun h => hij h.2]
      exact (Tender.claimOn_of_not (.inr fun h => hij (hindex.symm.trans h))).symm
  · rw [if_neg hposted, if_neg fun h => hposted h.1]

theorem Tender.Sound.cancelledOn {t : Tender} (h : t.Sound) (i : Fin 64) :
    (t.cancelledOn i).Sound := by
  unfold Tender.cancelledOn
  split
  · exact ⟨h.1, fun _ => rfl⟩
  · exact h

/-- A POSTED descriptor claims its base. -/
theorem Tender.claimOn_of_postedOn {t : Tender} (h : t.Sound) {i : Fin 64}
    (hp : t.postedOn i = true) : t.claimOn i = some (t.base, t.key) := by
  simp only [Tender.postedOn, decide_eq_true_eq] at hp
  have hopen := Tender.not_finished_of_posted (t.isPosted_iff.2 hp.1)
  exact Tender.claimOn_eq_some (Tender.committed_of_open h.2 hopen) hp.2

/-- Of the claims on an entry, those of its POSTED descriptors are released. -/
theorem claims_cancelledOn {tenders : List Tender} (h : ∀ t ∈ tenders, t.Sound) (i : Fin 64) :
    ((claims tenders i).map Prod.fst).sum =
        ((claims (tenders.map (Tender.cancelledOn i)) i).map Prod.fst).sum +
          ((tenders.filter fun t => t.postedOn i).map Tender.base).sum ∧
      (claims (tenders.map (Tender.cancelledOn i)) i).Sublist (claims tenders i) := by
  induction tenders with
  | nil => exact ⟨rfl, .refl _⟩
  | cons t rest ih =>
    obtain ⟨hsum, hsub⟩ := ih fun u hu => h u (List.mem_cons_of_mem t hu)
    have hclaim := t.claimOn_cancelledOn i i
    simp only [claims] at hsum hsub ⊢
    rw [List.map_cons]
    by_cases hp : t.postedOn i = true
    · have hbefore := Tender.claimOn_of_postedOn (h t List.mem_cons_self) hp
      rw [if_pos ⟨hp, rfl⟩] at hclaim
      rw [List.filterMap_cons_none hclaim, List.filterMap_cons_some hbefore,
        List.filter_cons_of_pos (p := fun u : Tender => u.postedOn i) hp]
      refine ⟨?_, hsub.cons _⟩
      simp only [List.map_cons, List.sum_cons]
      omega
    · rw [if_neg fun h => hp h.1] at hclaim
      rw [List.filter_cons_of_neg (p := fun u : Tender => u.postedOn i) hp]
      cases hc : t.claimOn i with
      | none =>
        rw [List.filterMap_cons_none (hclaim.trans hc), List.filterMap_cons_none hc]
        exact ⟨hsum, hsub⟩
      | some a =>
        rw [List.filterMap_cons_some (hclaim.trans hc), List.filterMap_cons_some hc]
        refine ⟨?_, hsub.cons_cons a⟩
        simp only [List.map_cons, List.sum_cons]
        omega

theorem claims_cancelledOn_other (tenders : List Tender) {i j : Fin 64} (h : i ≠ j) :
    claims (tenders.map (Tender.cancelledOn i)) j = claims tenders j := by
  rw [claims, List.filterMap_map, claims]
  refine congrArg (List.filterMap · tenders) (funext fun t => ?_)
  rw [Function.comp_apply, Tender.claimOn_cancelledOn, if_neg fun hij => h hij.2]

theorem foldl_unreserve_reserved (c : Check) (l : List Tender) :
    (l.foldl (fun c t => c.unreserve t.share t.base) c).reserved =
      c.reserved - (l.map Tender.base).sum := by
  induction l generalizing c with
  | nil => rfl
  | cons t rest ih =>
    rw [List.foldl_cons, ih, List.map_cons, List.sum_cons, ← Nat.sub_sub]
    rfl

theorem State.check_raise (s : State) (p : Port) (cause : Cause) (i : Fin 64) :
    (s.raise p cause).check i = s.check i := rfl

/-- An entry enters CONFLICT, whatever its evaluation. -/
theorem Attached.enterConflict (h : Attached (some i) s) (kind : ConflictKind) :
    Attached none (s.enterConflict i kind) := by
  have hcheck (j : Fin 64) : (s.enterConflict i kind).check j = if j = i then
      (s.check i).map (fun c => (s.ring.tenders.filter fun t => t.postedOn i).foldl
        (fun c t => c.unreserve t.share t.base) { c with state := .conflict kind, overpaid := false })
      else s.check j := by
    simp only [State.enterConflict, State.cancelPosted, State.check_raise, State.check_modCheck,
      State.setRing_check, State.modCheck_frame]
    by_cases hj : j = i <;> simp [hj, Function.comp_def]
  have hring : (s.enterConflict i kind).ring.tenders =
      s.ring.tenders.map (Tender.cancelledOn i) := by
    simp only [State.enterConflict, State.raise_frame, State.cancelPosted_ring, State.modCheck_frame]
    rfl
  have hnames (j : Fin 64) : (s.enterConflict i kind).recordsNaming j = s.recordsNaming j := by
    rw [State.recordsNaming_eq, State.recordsNaming_eq]
    simp
  obtain ⟨hsum, hsub⟩ := claims_cancelledOn h.tenders i
  have hentry (c : Check) (hc : s.check i = some c) (d : Check)
      (hd : d = (s.ring.tenders.filter fun t => t.postedOn i).foldl
        (fun c t => c.unreserve t.share t.base)
          { c with state := .conflict kind, overpaid := false }) :
      EntryLaw (s.recordsNaming i) (claims (s.ring.tenders.map (Tender.cancelledOn i)) i) d ∧
        d.Evaluated := by
    subst hd
    have hkeep {α : Type} (g : Check → α) (hg : ∀ c share base, g (Check.unreserve c share base) = g c) :=
      foldl_unreserve g hg { c with state := .conflict kind, overpaid := false }
        (s.ring.tenders.filter fun t => t.postedOn i)
    have hstate := hkeep Check.state fun _ _ _ => rfl
    have hoverpaid := hkeep Check.overpaid fun _ _ _ => rfl
    obtain ⟨hp, hr, -, hk, -⟩ := h.entry i c hc
    refine ⟨⟨?_, ?_, fun hs => ?_, fun a ha => ?_, fun _ => hoverpaid⟩,
      Check.evaluated_conflict hstate hoverpaid⟩
    · exact (hkeep Check.pendingUplink fun _ _ _ => rfl).trans hp
    · rw [foldl_unreserve_reserved]
      simp only
      omega
    · rw [hstate] at hs
      cases hs
    · exact (hk a (hsub.subset ha)).trans (hkeep Check.key fun _ _ _ => rfl).symm
  refine ⟨fun j hj => ?_, fun j d hd => ?_, fun j d hd _ => ?_, fun t ht => ?_⟩
  · rw [hcheck] at hj
    rw [hnames, hring]
    split at hj
    · next hij =>
      obtain ⟨hzero, hnil⟩ := h.free j (hij ▸ Option.map_eq_none_iff.1 hj)
      exact ⟨hzero, List.sublist_nil.1 (hnil ▸ hij ▸ hsub)⟩
    · next hij =>
      rw [claims_cancelledOn_other _ (Ne.symm hij)]
      exact h.free j hj
  · rw [hcheck] at hd
    rw [hnames, hring]
    split at hd
    · next hij =>
      obtain ⟨c, hc, rfl⟩ := Option.map_eq_some_iff.1 hd
      exact hij ▸ (hentry c hc _ rfl).1
    · next hij =>
      rw [claims_cancelledOn_other _ (Ne.symm hij)]
      exact h.entry j d hd
  · rw [hcheck] at hd
    split at hd
    · obtain ⟨c, hc, rfl⟩ := Option.map_eq_some_iff.1 hd
      exact (hentry c hc _ rfl).2
    · next hij => exact h.evaluated j d hd (by simpa using Ne.symm hij)
  · rw [hring] at ht
    obtain ⟨u, hu, rfl⟩ := List.mem_map.1 ht
    exact (h.tenders u hu).cancelledOn i

end

end Sys2Proof.Machine
end

section
/-!
SUPPORT. Images, retirements and freed entries under the law of attachment (R15 to R18, R23, R127 to
R136).
-/

namespace Sys2Proof.Machine

/-- Two changes of one check, one after the other. -/
theorem State.modCheck_modCheck (s : State) (i : Fin 64) (f g : Check → Check) :
    (s.modCheck i f).modCheck i g = s.modCheck i fun c => g (f c) := by
  have hcheck : (s.modCheck i f).check i = (s.check i).map f := by
    rw [State.check_modCheck, if_pos rfl]
  cases hc : s.check i with
  | none => simp [State.modCheck, hc]
  | some c =>
    rw [hc] at hcheck
    rw [State.modCheck_of_check _ _ _ _ hcheck, State.modCheck_of_check _ _ _ _ hc,
      State.modCheck_of_check _ _ _ _ hc]
    simp [State.putCheck, State.setTable]

/-! ### Entries placed, replaced and freed -/

section
variable {s t : State} {i : Fin 64}

/-- What one entry's check, and the claims on it, may change to. -/
theorem Attached.change (h : Attached (some i) s) (hother : ∀ j, j ≠ i → t.check j = s.check j)
    (hclaims : ∀ j, j ≠ i → claims t.ring.tenders j = claims s.ring.tenders j)
    (hnames : t.uplink.records.map UplinkRecord.index = s.uplink.records.map UplinkRecord.index)
    (hsound : ∀ u ∈ t.ring.tenders, u.Sound)
    (hfree : t.check i = none → s.recordsNaming i = 0 ∧ claims t.ring.tenders i = [])
    (hentry : ∀ d, t.check i = some d →
      EntryLaw (s.recordsNaming i) (claims t.ring.tenders i) d) : Attached (some i) t := by
  have hnaming (j : Fin 64) : t.recordsNaming j = s.recordsNaming j := by
    rw [State.recordsNaming_eq, State.recordsNaming_eq, hnames]
  refine ⟨fun j hj => ?_, fun j d hd => ?_, fun j d hd hbut => ?_, hsound⟩
  · rw [hnaming]
    by_cases hij : j = i
    · subst hij
      exact hfree hj
    · rw [hclaims j hij]
      exact h.free j (hother j hij ▸ hj)
  · rw [hnaming]
    by_cases hij : j = i
    · subst hij
      exact hentry d hd
    · rw [hclaims j hij]
      exact h.entry j d (hother j hij ▸ hd)
  · have hij : j ≠ i := fun hij => hbut (congrArg some hij.symm)
    exact h.evaluated j d (hother j hij ▸ hd) hbut

/-- Only the check of one entry changes. -/
theorem Attached.putCheck (h : Attached none s) (i : Fin 64) (o : Option Check)
    (hfree : o = none → s.recordsNaming i = 0 ∧ claims s.ring.tenders i = [])
    (hentry : ∀ d, o = some d →
      EntryLaw (s.recordsNaming i) (claims s.ring.tenders i) d ∧ d.Evaluated) :
    Attached none (s.putCheck i o) := by
  have hcheck : (s.putCheck i o).check i = o := by rw [State.check_putCheck, if_pos rfl]
  have htenders : (s.putCheck i o).ring.tenders = s.ring.tenders := by simp
  refine ((h.open (some i)).change (fun j hj => ?_) (fun j _ => by rw [htenders]) (by simp)
    (htenders ▸ h.tenders) (fun hnone => ?_) fun d hd => ?_).close fun d hd => ?_
  · rw [State.check_putCheck, if_neg hj]
  · rw [htenders]
    exact hfree (hcheck ▸ hnone)
  · rw [htenders]
    exact (hentry d (hcheck ▸ hd)).1
  · exact (hentry d (hcheck ▸ hd)).2

/-- A check is replaced, within the law of its entry. -/
theorem Attached.replace (h : Attached none s) {c d : Check} (hc : s.check i = some c)
    (hd : ∀ n l, EntryLaw n l c → EntryLaw n l d) (he : d.Evaluated) :
    Attached none (s.putCheck i (some d)) :=
  h.putCheck i (some d) (fun h => nomatch h) fun e hed => by
    cases hed
    exact ⟨hd _ _ (h.entry i c hc), he⟩

/-- A check with nothing pending and nothing reserved is placed in a FREE entry. -/
theorem Attached.place (h : Attached none s) (hfree : s.check i = none) {d : Check}
    (hpending : d.pendingUplink = 0) (hreserved : d.reserved = 0) (he : d.Evaluated) :
    Attached none (s.putCheck i (some d)) := by
  obtain ⟨hnames, hclaims⟩ := h.free i hfree
  refine h.putCheck i (some d) (fun h => nomatch h) fun e hed => ?_
  cases hed
  rw [hnames, hclaims]
  exact ⟨⟨hpending, hreserved, fun _ => hreserved, fun _ ha => (nomatch ha), he.conflict⟩, he⟩

/-- The claims of sound descriptors are of more than nothing. -/
theorem claims_eq_nil {tenders : List Tender} (h : ∀ t ∈ tenders, t.Sound)
    (hsum : ((claims tenders i).map Prod.fst).sum = 0) : claims tenders i = [] := by
  refine List.eq_nil_iff_forall_not_mem.2 fun a ha => ?_
  obtain ⟨t, ht, hclaim⟩ := List.mem_filterMap.1 ha
  have hbase : a.1 = t.base := by
    unfold Tender.claimOn at hclaim
    split at hclaim
    · cases hclaim
      rfl
    · cases hclaim
  have hzero := List.sum_eq_zero_iff.1 hsum a.1 (List.mem_map_of_mem ha)
  have hone := (h t ht).1
  omega

/-- Nothing is claimed of an entry with nothing reserved. -/
theorem Attached.claims_nil {but : Option (Fin 64)} (h : Attached but s) {c : Check}
    (hc : s.check i = some c) (hreserved : c.reserved = 0) : claims s.ring.tenders i = [] :=
  claims_eq_nil h.tenders ((h.entry i c hc).reserved ▸ hreserved)

/-- An entry with nothing pending and nothing reserved becomes FREE. -/
theorem Attached.free_check (h : Attached none s) {c : Check} (hc : s.check i = some c)
    (hpending : c.pendingUplink = 0) (hreserved : c.reserved = 0) :
    Attached none (s.putCheck i none) :=
  h.putCheck i none (fun _ => ⟨(h.entry i c hc).pending ▸ hpending, h.claims_nil hc hreserved⟩)
    fun _ hd => nomatch hd

theorem Attached.freeEntry (h : Attached none s) {c : Check} (hc : s.check i = some c)
    (hpending : c.pendingUplink = 0) (hreserved : c.reserved = 0) :
    Attached none (s.freeEntry i) := by
  rw [State.freeEntry_of_check hc]
  have hsame : SameDues s (((((s.loseHolder i c.holder).dismissWaiters i).freeItems
      c.items).discardImage i).abortReads i .gone) :=
    (s.sameDues_loseHolder i c.holder).trans ((State.sameDues_dismissWaiters _ i).trans
      ((State.sameDues_freeItems _ c.items).trans ((State.sameDues_discardImage _ i).trans
        (State.sameDues_abortReads _ i .gone))))
  obtain ⟨d, hd, hdues⟩ := hsame.check hc
  obtain ⟨-, hdpending, hdreserved, -⟩ := (d.dues_eq_iff c).1 hdues
  exact (hsame.attached h).free_check hd (hdpending.trans hpending) (hdreserved.trans hreserved)

theorem State.sameDues_cursor (s : State) (n : Nat) :
    SameDues s (s.setTable { s.table with cursor := n }) := ⟨fun _ => rfl, rfl, rfl⟩

theorem Attached.evict (h : Attached none s) (he : s.evictable i = true) :
    Attached none (s.evict i) := by
  unfold State.evict
  split
  · next c hc =>
    simp only [State.evictable, hc, Bool.and_eq_true, decide_eq_true_eq] at he
    obtain ⟨⟨⟨⟨-, -, -, -, hreserved, hpending⟩, -⟩, -⟩, -⟩ := he
    have hsame := (s.sameDues_freeItems c.items).trans (State.sameDues_abortReads _ i .gone)
    obtain ⟨d, hd, hdues⟩ := hsame.check hc
    obtain ⟨-, hdpending, hdreserved, -⟩ := (d.dues_eq_iff c).1 hdues
    have hfreed := (hsame.attached h).free_check hd (hdpending.trans hpending)
      (hdreserved.trans hreserved)
    exact ((State.sameDues_raise _ .console .eviction).trans (State.sameDues_cursor _ _)).attached hfreed
  · exact h

theorem Attached.allocate (h : Attached none s) (ha : s.allocate = some (i, t)) :
    Attached none t := by
  unfold State.allocate at ha
  split at ha
  · cases ha
    exact h
  · split at ha
    · next hfound =>
      cases ha
      exact h.evict (by simpa using List.find?_some hfound)
    · cases ha

/-! ### Images and retirements -/

theorem Attached.settleImage (h : Attached (some i) s) : Attached none (s.settleImage i) := by
  unfold State.settleImage
  split
  · split
    · exact h.enterConflict _
    · exact h.afterAmounts
  · next hnone => exact h.close fun c hc => absurd (hnone.symm.trans hc) (by simp)

theorem EntryLaw.takeImage {n : Nat} {l : List (Nat × Key)} {c : Check} (h : EntryLaw n l c)
    (scope : Scope) (server owner covers seats : Nat) (items : List Item) (rate : Nat) :
    EntryLaw n l (c.takeImage scope server owner covers seats items rate) :=
  ⟨h.1, h.2, h.3, h.4, h.5⟩

theorem Attached.applyImage (h : Attached none s) (server owner covers seats : Nat)
    (items : List Item) : Attached none (s.applyImage i server owner covers seats items) := by
  unfold State.applyImage
  split
  · next c hc =>
    have hsame := (s.sameDues_freeItems c.items).trans (State.sameDues_discardOlder _ i server)
    have htaken := ((hsame.attached h).open (some i)).mod fun n l c hl =>
      hl.takeImage (s.scopeOf owner) server owner covers seats items s.modes.taxRate
    exact Attached.settleImage (((State.sameDues_abortReads _ i _).trans
      (State.sameDues_raise _ _ _)).attached htaken)
  · exact h

theorem Check.evaluated_closing {c d : Check} (h : c.Evaluated) (hc : c.state.entry ≠ .conflict)
    (hd : d.state = .closing) (hoverpaid : d.overpaid = c.overpaid) (hdue : d.due = c.due)
    (happroved : d.approved = c.approved) : d.Evaluated := by
  refine ⟨?_, fun hedit => ?_⟩
  · have hopen : decide (c.state.entry ≠ .conflict) = true := decide_eq_true hc
    rw [hoverpaid, h.1, hopen, hd, hdue, happroved]
    rfl
  · simp [hd, CheckState.editable] at hedit

/-- An entry with nothing reserved becomes CLOSING. -/
theorem Attached.closing (h : Attached none s) {c d : Check} (hc : s.check i = some c)
    (hreserved : c.reserved = 0) (hkey : d.key = c.key) (hpending : d.pendingUplink = c.pendingUplink)
    (hdreserved : d.reserved = c.reserved) (hd : d.state = .closing) (he : d.Evaluated) :
    Attached none (s.putCheck i (some d)) :=
  h.replace hc (fun _ _ hl => hl.of_state hkey hpending hdreserved (fun _ => hreserved) fun hs => by
    simp [hd, CheckState.entry] at hs) he

theorem Attached.applyRetire (h : Attached none s) (server : Nat)
    (hconflict : ∀ c, s.check i = some c → c.state.entry ≠ .conflict) :
    Attached none (s.applyRetire i server) := by
  have hsame := (s.sameDues_setServer i server).trans (State.sameDues_discardOlder _ i server)
  have hs1 := hsame.attached h
  unfold State.applyRetire
  dsimp only
  refine (State.sameDues_raise _ _ _).attached ?_
  split
  · next d hd =>
    split
    · exact (hs1.open _).enterConflict _
    · next hreserved =>
      have hzero : d.reserved = 0 := Nat.eq_zero_of_not_pos hreserved
      split
      · obtain ⟨c, hc, hdues⟩ := hsame.check_back hd
        obtain ⟨-, -, -, hstate, -⟩ := (c.dues_eq_iff d).1 hdues
        rw [State.modCheck_of_check _ _ _ _ hd]
        exact hs1.closing hd hzero rfl rfl rfl rfl (Check.evaluated_closing
          (hs1.evaluated i d hd (by simp)) (hstate ▸ hconflict c hc) rfl rfl rfl rfl)
      · next hpending => exact hs1.freeEntry hd (Nat.eq_zero_of_not_pos hpending) hzero
  · exact hs1

theorem Check.not_conflict_of_keepsWaiting {c : Check} (h : ¬c.keepsWaiting = true) :
    c.state.entry ≠ .conflict := fun hc => h (by simp [Check.keepsWaiting, hc])

theorem Attached.tryPending (h : Attached none s) : Attached none (s.tryPending i) := by
  have hdropped : Attached none (s.discardImage i) := (s.sameDues_discardImage i).attached h
  have hserver (server : Nat) : Attached none ((s.discardImage i).setServer i server) :=
    (State.sameDues_setServer _ i server).attached hdropped
  have htaken : Attached none (s.takePending i) := (s.sameDues_takePending i).attached h
  unfold State.tryPending
  split
  · exact h
  · next c hc =>
    split
    · exact h
    · split
      · exact hdropped
      · split
        · split
          · exact hdropped
          · exact h
          · exact hserver _
          · exact htaken.applyImage _ _ _ _ _
        · split
          · exact hserver _
          · split
            · exact h
            · next hwaiting =>
              refine htaken.applyRetire _ fun d hd => ?_
              obtain ⟨b, hb, hdues⟩ := (s.sameDues_takePending i).check_back hd
              obtain ⟨-, -, -, hstate, -⟩ := (b.dues_eq_iff d).1 hdues
              rw [hc] at hb
              cases hb
              exact hstate ▸ Check.not_conflict_of_keepsWaiting hwaiting

/-! ### The ends of holds, and acknowledgements -/

theorem Attached.endOfHold (h : Attached none s) : Attached none (s.endOfHold i) := by
  unfold State.endOfHold
  dsimp only
  split
  · exact h.tryPending
  · next c _ =>
    have hgranted := (State.sameDues_grantWaiters (s.tryPending i) i c.waiters).attached h.tryPending
    split
    · exact hgranted.scheduleDeltas
    · exact hgranted

theorem Attached.endHold (h : Attached none s) (p : Port) : Attached none (s.endHold p i) :=
  Attached.endOfHold (((s.sameDues_dropHold i).trans (State.sameDues_abortWrite _ i p _)).attached h)

theorem Attached.expireLease (h : Attached none s) (i : Fin 64) : Attached none (s.expireLease i) := by
  unfold State.expireLease
  split
  · next p _ =>
    exact Attached.endOfHold (((s.sameDues_dropHold i).trans ((State.sameDues_abortWrite _ i p _).trans
      (State.sameDues_raise _ _ _))).attached h)
  · exact h

theorem Attached.releaseAll (h : Attached none s) (p : Port) : Attached none (s.releaseAll p) := by
  have hat (u : State) (i : Fin 64) (hu : Attached none u) :
      Attached none (State.releaseAt p u i) := by
    unfold State.releaseAt
    split
    · exact Attached.endOfHold ((u.sameDues_dropHold i).attached hu)
    · exact hu
  unfold State.releaseAll
  dsimp only
  refine foldl_preserves (State.releaseAt p) (Attached none) hat _ allIdx ?_
  split
  · exact (s.sameDues_leaveList _ _).attached h
  · exact h

theorem State.sameDues_deliver (gone : List UplinkRecord) : SameDues s (s.deliver gone) := by
  unfold State.deliver
  split
  · split
    · exact (s.sameDues_setUplink (by rfl)).trans (State.sameDues_raise _ _ _)
    · exact .refl s
  · exact .refl s

theorem State.sameDues_readyAgain : SameDues s s.readyAgain := by
  unfold State.readyAgain
  split
  · exact s.sameDues_raise _ _
  · exact .refl s

theorem Attached.afterAck (h : Attached none s) (gone : List UplinkRecord) :
    Attached none (s.afterAck gone) := by
  have hfree (u : State) (i : Fin 64) (hu : Attached none u) : Attached none (u.freeIfDone i) := by
    unfold State.freeIfDone
    split
    · next c hc =>
      split
      · next hdone => exact hu.freeEntry hc hdone.2 ((hu.entry i c hc).closing hdone.1)
      · exact hu
    · exact hu
  have hretry (u : State) (i : Fin 64) (hu : Attached none u) :
      Attached none (State.retryNamed gone u i) := by
    unfold State.retryNamed
    split
    · exact hu.tryPending
    · exact hu
  have hretried := foldl_preserves (State.retryNamed gone) (Attached none) hretry _ allIdx
    (foldl_preserves State.freeIfDone (Attached none) hfree s allIdx h)
  exact State.sameDues_readyAgain.attached ((State.sameDues_deliver gone).attached
    hretried.scheduleDeltas)

end

end Sys2Proof.Machine
end

section
/-!
SUPPORT. The Tender Ring's changes, and every rule, under the law of attachment (R85 to R107); then O59.
-/

namespace Sys2Proof.Machine

section
variable {s t : State} {i : Fin 64}

/-! ### Descriptors replaced, finished, posted and reaped -/

theorem Attached.setRing (h : Attached none s) {r : TenderRing}
    (hclaims : ∀ j, claims r.tenders j = claims s.ring.tenders j)
    (hsound : ∀ t ∈ r.tenders, t.Sound) : Attached none (s.setRing r) :=
  ((h.open (some 0)).change (t := s.setRing r) (fun _ _ => rfl) (fun j _ => hclaims j) rfl hsound
    (fun hnone => ⟨(h.free 0 hnone).1, (hclaims 0).trans (h.free 0 hnone).2⟩) fun d hd => by
      have := h.entry 0 d hd
      rwa [← hclaims 0] at this).close fun c hc => h.evaluated 0 c hc (by simp)

/-- A descriptor is replaced by one that claims the same. -/
theorem Attached.setTender (h : Attached none s) {k : Nat} {t t' : Tender}
    (hk : s.ring.tenders[k]? = some t) (hclaim : ∀ j, t'.claimOn j = t.claimOn j) (hsound : t'.Sound)
    {r : TenderRing} (hr : r.tenders = s.ring.tenders.set k t') : Attached none (s.setRing r) := by
  refine h.setRing (fun j => hr ▸ claims_set hk (hclaim j)) fun u hu => ?_
  rw [hr] at hu
  obtain hu | rfl := List.mem_or_eq_of_mem_set hu
  · exact h.tenders u hu
  · exact hsound

/-- What the check of an entry loses with a claim on it. -/
def Check.Lowered (base : Nat) (c d : Check) : Prop :=
  d.key = c.key ∧ d.pendingUplink = c.pendingUplink ∧ d.reserved = c.reserved - base ∧
    d.state = c.state ∧ d.overpaid = c.overpaid

theorem Attached.check_of_claim {but : Option (Fin 64)} (h : Attached but s) {k : Nat} {t : Tender}
    (hk : s.ring.tenders[k]? = some t) (hopen : t.isFinished = false) :
    ∃ c, s.check t.index = some c ∧ t.key = c.key := by
  have hcommitted := Tender.committed_of_open (h.tenders t (List.mem_of_getElem? hk)).2 hopen
  have hclaim : (t.base, t.key) ∈ claims s.ring.tenders t.index :=
    List.mem_filterMap.2 ⟨t, List.mem_of_getElem? hk, Tender.claimOn_eq_some hcommitted rfl⟩
  cases hc : s.check t.index with
  | none => simp [(h.free _ hc).2] at hclaim
  | some c => exact ⟨c, rfl, (h.entry _ c hc).keys _ hclaim⟩

/-- A POSTED or TAKEN descriptor finishes, and its reservation is released. -/
theorem Attached.finish (h : Attached none s) {k : Nat} {t t' : Tender}
    (hk : s.ring.tenders[k]? = some t) (hopen : t.isFinished = false)
    (hfinished : t'.isFinished = true) (hbase : t'.base = t.base) {r : TenderRing}
    (hr : r.tenders = s.ring.tenders.set k t') {f : Check → Check}
    (hf : ∀ c, Check.Lowered t.base c (f c)) :
    Attached (some t.index) ((s.setRing r).modCheck t.index f) := by
  have hsound := h.tenders t (List.mem_of_getElem? hk)
  have hclaim := Tender.claimOn_eq_some (Tender.committed_of_open hsound.2 hopen) rfl
  have hnone (j : Fin 64) : t'.claimOn j = none :=
    Tender.claimOn_of_not (.inl (Tender.not_committed_of_finished hfinished))
  have hring : ((s.setRing r).modCheck t.index f).ring.tenders = s.ring.tenders.set k t' := by
    rw [← hr]
    simp
  have hperm := claims_set_none hk hclaim (hnone t.index)
  obtain ⟨c, hc, hkey⟩ := h.check_of_claim hk hopen
  have hcheck : ((s.setRing r).modCheck t.index f).check t.index = some (f c) := by
    rw [State.check_modCheck, if_pos rfl, State.setRing_check, hc]
    rfl
  refine (h.open _).change (fun j hj => ?_) (fun j hj => ?_) (by simp) (fun u hu => ?_)
    (fun hfree => ?_) fun d hd => ?_
  · rw [State.check_modCheck, if_neg hj, State.setRing_check]
  · rw [hring]
    exact claims_set hk ((hnone j).trans (Tender.claimOn_of_not (.inr (Ne.symm hj))).symm)
  · rw [hring] at hu
    obtain hu | rfl := List.mem_or_eq_of_mem_set hu
    · exact h.tenders u hu
    · exact ⟨hbase ▸ hsound.1, fun _ => hfinished⟩
  · rw [hcheck] at hfree
    cases hfree
  · rw [hcheck] at hd
    cases hd
    obtain ⟨hp, hres, hcl, hkeys, hco⟩ := h.entry t.index c hc
    obtain ⟨hfkey, hfpending, hfreserved, hfstate, hfoverpaid⟩ := hf c
    have hsum := (hperm.map Prod.fst).sum_eq
    rw [List.map_cons, List.sum_cons] at hsum
    rw [hring]
    refine ⟨hfpending.trans hp, ?_, fun hs => ?_, fun a ha => ?_, fun hs => ?_⟩
    · rw [hfreserved]
      simp only at hsum
      omega
    · rw [hfreserved, hcl (hfstate ▸ hs), Nat.zero_sub]
    · exact (hkeys a (hperm.mem_iff.2 (List.mem_cons_of_mem _ ha))).trans hfkey.symm
    · exact hfoverpaid.trans (hco (hfstate ▸ hs))

theorem Check.lowered_unreserve (c : Check) (share base : Nat) :
    Check.Lowered base c (c.unreserve share base) := ⟨rfl, rfl, rfl, rfl, rfl⟩

/-- A POSTED or TAKEN descriptor finishes, its reservation is released and its check evaluated. -/
theorem Attached.finish_evaluated (h : Attached none s) {k : Nat} {t t' : Tender}
    (hk : s.ring.tenders[k]? = some t) (hopen : t.isFinished = false)
    (hfinished : t'.isFinished = true) (hbase : t'.base = t.base) {r : TenderRing}
    (hr : r.tenders = s.ring.tenders.set k t') :
    Attached none ((s.setRing r).modCheck t.index
      fun c => (c.unreserve t.share t.base).afterAmounts) := by
  rw [← State.modCheck_modCheck]
  exact (h.finish hk hopen hfinished hbase hr fun c => c.lowered_unreserve t.share t.base).afterAmounts

theorem claims_push (tenders : List Tender) (t : Tender) {i : Fin 64} (h : t.claimOn i = none) :
    claims (tenders ++ [t]) i = claims tenders i := by
  rw [claims_append, h, Option.toList_none, List.append_nil]

/-- A descriptor that claims nothing joins the ring. -/
theorem Attached.push_finished (h : Attached none s) {t : Tender} (hsound : t.Sound)
    (hfinished : t.isFinished = true) : Attached none (s.pushTender t) := by
  refine h.setRing (fun j => claims_push _ _ (Tender.claimOn_of_not
    (.inl (Tender.not_committed_of_finished hfinished)))) fun u hu => ?_
  obtain hu | hu := List.mem_append.1 hu
  · exact h.tenders u hu
  · exact List.mem_singleton.1 hu ▸ hsound

/-- A descriptor that claims its base of a check joins the ring, and the base is reserved. -/
theorem Attached.push_posted (h : Attached none s) {c : Check} {t : Tender}
    (hc : s.check t.index = some c) (hsound : t.Sound) (hopen : t.isFinished = false)
    (hkey : t.key = c.key) (hstate : c.state ≠ .closing) (share : Nat) :
    Attached none ((s.pushTender t).modCheck t.index
      fun c => (c.reserve share t.base).afterAmounts) := by
  have hclaim := Tender.claimOn_eq_some (Tender.committed_of_open hsound.2 hopen) rfl
  have hring : ((s.pushTender t).modCheck t.index fun c => c.reserve share t.base).ring.tenders =
      s.ring.tenders ++ [t] := by simp [State.pushTender]
  have hcheck : ((s.pushTender t).modCheck t.index fun c => c.reserve share t.base).check t.index =
      some (c.reserve share t.base) := by
    rw [State.check_modCheck, if_pos rfl, State.pushTender, State.setRing_check, hc]
    rfl
  rw [← State.modCheck_modCheck]
  refine Attached.afterAmounts ((h.open (some t.index)).change (fun j hj => ?_) (fun j hj => ?_)
    (by simp [State.pushTender]) (fun u hu => ?_) (fun hfree => ?_) fun d hd => ?_)
  · rw [State.check_modCheck, if_neg hj, State.pushTender, State.setRing_check]
  · rw [hring]
    exact claims_push _ _ (Tender.claimOn_of_not (.inr (Ne.symm hj)))
  · rw [hring] at hu
    obtain hu | hu := List.mem_append.1 hu
    · exact h.tenders u hu
    · exact List.mem_singleton.1 hu ▸ hsound
  · rw [hcheck] at hfree
    cases hfree
  · rw [hcheck] at hd
    cases hd
    obtain ⟨hp, hres, -, hkeys, hco⟩ := h.entry t.index c hc
    rw [hring, claims_append, hclaim]
    refine ⟨hp, ?_, fun hs => absurd hs hstate, fun a ha => ?_, hco⟩
    · rw [List.map_append, List.sum_append, ← hres]
      rfl
    · obtain ha | ha := List.mem_append.1 ha
      · exact hkeys a ha
      · rw [Option.toList_some, List.mem_singleton] at ha
        exact ha ▸ hkey

theorem CheckState.not_closing_of_editable {st : CheckState} (h : st.editable = true) :
    st ≠ .closing := (CheckState.entry_of_editable h).2

/-! ### Results -/

theorem Attached.finishTaken {k : Nat} {t : Tender} (h : Attached none s)
    (ht : s.takenTender = some (k, t)) (e : TenderEnd) {f : Check → Check}
    (hf : ∀ c, Check.Lowered t.base c (f c)) :
    Attached (some t.index) ((s.finishTaken k t e).modCheck t.index f) := by
  obtain ⟨hk, htaken⟩ := State.takenTender_eq_some ht
  exact h.finish (t' := { t with phase := .finished e }) hk (Tender.not_finished_of_taken htaken)
    rfl rfl rfl hf

theorem Attached.timeOutTaken (h : Attached none s) (expired : Bool) :
    Attached none (s.timeOutTaken expired) := by
  unfold State.timeOutTaken
  split
  · exact h
  · next k t ht =>
    obtain ⟨hk, htaken⟩ := State.takenTender_eq_some ht
    have hfinished := h.finish_evaluated (t' := { t with phase := .finished .timedOut }) hk
      (Tender.not_finished_of_taken htaken) rfl rfl (r := { s.ring with
        tenders := s.ring.tenders.set k { t with phase := .finished .timedOut }
        timer := none
        late := pushLate s.ring.late t.lateEntry }) rfl
    have hcounted := ((State.sameDues_countTotals _ fun n => { n with
      timeouts := bumpCount n.timeouts }).trans
        (State.sameDues_raise _ .console .tenderFinished)).attached hfinished
    dsimp only
    split
    · exact (State.sameDues_raise _ _ _).attached hcounted
    · exact hcounted

theorem State.sameDues_countApproval (s : State) (w : ResultWire) (late : Bool) :
    SameDues s (s.countApproval w late) :=
  .of_same (touched := [.offline, .totals]) (by simp [SameBut]) (by simp)

theorem Attached.approveTaken {k : Nat} {t : Tender} (h : Attached none s)
    (ht : s.takenTender = some (k, t)) (w : ResultWire) : Attached none (s.approveTaken k t w) := by
  obtain ⟨hk, htaken⟩ := State.takenTender_eq_some ht
  obtain ⟨c, hc, -⟩ := h.check_of_claim hk (Tender.not_finished_of_taken htaken)
  have hfinished := h.finishTaken ht (.approved
    ⟨w.amount.toNat, w.tip.toNat, some w.card, w.isOffline, t.cancelRequested⟩)
    (f := fun c => ((c.unreserve t.share t.base).approve w.amount.toNat w.tip.toNat).approveShare
      t.share w.amount.toNat w.tip.toNat) fun c => ⟨rfl, rfl, rfl, rfl, rfl⟩
  have happended := hfinished.append (some t.index) t.key (settlementOf w t.serial false false)
    fun j hj => by
      cases hj
      rw [State.check_modCheck, if_pos rfl]
      simp [State.finishTaken, hc]
  exact (State.sameDues_raise _ _ _).attached
    ((State.sameDues_countApproval _ w false).attached happended).afterAmounts

theorem Attached.applyLate (h : Attached none s) (amount tip : Nat) :
    Attached none (s.applyLate i amount tip) := by
  have happroved := (h.open (some i)).mod fun _ _ c hl => EntryLaw.approve hl amount tip
  unfold State.applyLate
  dsimp only
  split
  · split
    · exact happroved.enterConflict _
    · exact happroved.afterAmounts
  · next hnone => exact happroved.close fun c hc => absurd (hnone.symm.trans hc) (by simp)

theorem Attached.dropLate (h : Attached none s) (e : LateEntry) : Attached none (s.dropLate e) :=
  h.setRing (fun _ => rfl) h.tenders

theorem Attached.approveLate (h : Attached none s) (e : LateEntry) (w : ResultWire) :
    Attached none (s.approveLate e w) := by
  have hdropped := h.dropLate e
  unfold State.approveLate
  dsimp only
  split
  · next c hc =>
    have hcheck : (s.dropLate e).check e.index ≠ none := by
      intro hnone
      simp only [State.dropLate, State.setRing_check] at hnone
      simp [State.lateCheck, hnone] at hc
    have happended := hdropped.append (some e.index) e.key (settlementOf w e.serial true false)
      fun j hj => by
        cases hj
        exact hcheck
    exact ((State.sameDues_countApproval _ w true).trans (State.sameDues_raise _ _ _)).attached
      (happended.applyLate _ _)
  · exact ((State.sameDues_countApproval _ w true).trans (State.sameDues_raise _ _ _)).attached
      (hdropped.append none e.key _ fun j hj => nomatch hj)

theorem Attached.declineTaken {k : Nat} {t : Tender} (h : Attached none s)
    (ht : s.takenTender = some (k, t)) : Attached none (s.declineTaken k t) := by
  obtain ⟨hk, htaken⟩ := State.takenTender_eq_some ht
  exact ((State.sameDues_countTotals _ _).trans (State.sameDues_raise _ _ _)).attached
    (h.finish_evaluated (t' := { t with phase := .finished .declined }) hk
      (Tender.not_finished_of_taken htaken) rfl rfl rfl)

end

end Sys2Proof.Machine
end

section
/-!
SUPPORT. Every rule under the law of attachment, and O59.
-/

namespace Sys2Proof.Machine

section
variable {s : State}

/-- Evaluation depends on what the law reads of a check but its key and its count. -/
theorem Check.Evaluated.congr {c d : Check} (h : c.Evaluated) (hstate : d.state = c.state)
    (hreserved : d.reserved = c.reserved) (hoverpaid : d.overpaid = c.overpaid)
    (hdue : d.due = c.due) (happroved : d.approved = c.approved) : d.Evaluated := by
  rw [Check.Evaluated, hreserved, hstate, hoverpaid, hdue, happroved]
  exact h

/-! ### Checks and staging -/

theorem Check.takeHeader_dues (c : Check) (r : StagingRecord) :
    (c.takeHeader r).key = r.key.getD c.key ∧
      (c.takeHeader r).dues = { c with key := r.key.getD c.key }.dues := by
  unfold Check.takeHeader
  dsimp only
  split
  · next h =>
    have hkey : r.key.getD c.key = c.key := congrArg Check.key h
    rw [hkey]
    exact ⟨rfl, rfl⟩
  · exact ⟨rfl, rfl⟩

theorem commitRule_attached (hs : Attached none s) : Attached none (commitRule s).state := by
  unfold commitRule State.commitTo
  dsimp only
  split
  · next i _ _ =>
    split
    · exact hs
    · next c hc =>
      refine State.tested_keeps hs fun h => ?_
      have htest := h (c.state.editable && decide (s.staging.primary.key = some c.key ∨
        (c.reserved = 0 ∧ c.image = none)), .state) (by simp [State.commitTests])
      obtain ⟨-, hkeyed⟩ := Bool.and_eq_true_iff.1 htest
      obtain ⟨-, hdues⟩ := c.takeHeader_dues s.staging.primary
      obtain ⟨hkey, hpending, hreserved, hstate, hoverpaid, hdue, happroved⟩ :=
        (Check.dues_eq_iff _ _).1 hdues
      have hplaced : Attached none (s.putCheck i (some (c.takeHeader s.staging.primary))) := by
        have hl := hs.entry i c hc
        have he := hs.evaluated i c hc (by simp)
        refine hs.putCheck i _ (fun h => nomatch h) fun d hd => ?_
        cases hd
        refine ⟨⟨hpending.trans hl.pending, hreserved.trans hl.reserved,
          fun h => hreserved.trans (hl.closing (hstate ▸ h)), fun a ha => ?_,
          fun h => hoverpaid.trans (hl.conflict (hstate ▸ h))⟩,
          he.congr hstate hreserved hoverpaid hdue happroved⟩
        obtain hsame | ⟨hnone, -⟩ := of_decide_eq_true hkeyed
        · rw [hkey, hsame]
          exact hl.keys a ha
        · rw [hs.claims_nil hc hnone] at ha
          cases ha
      dsimp only [State.accept]
      refine SameDues.attached (SameDues.trans ?_ ((State.sameDues_restartLease _ i).trans
        (State.sameDues_setStaging _ _))) hplaced
      split
      · exact .refl _
      · exact State.sameDues_abortReads _ i _
  · exact hs

theorem newCheck_evaluated (k : Key) (covers seats owner : Nat) :
    (newCheck k covers seats owner).Evaluated := ⟨rfl, fun _ => rfl⟩

theorem commitNewRule_attached (hs : Attached none s) : Attached none (commitNewRule s).state := by
  refine State.tested_keeps hs fun _ => ?_
  split
  · next k i u _ hallocate =>
    have hfree := (State.allocate_kept s hallocate).2
    have hplaced := (hs.allocate hallocate).place hfree (d := newCheck k s.staging.primary.covers
      s.staging.primary.seats (s.modes.terminalId.getD 0)) rfl rfl (newCheck_evaluated _ _ _ _)
    exact ((State.sameDues_grantHold _ i .console).trans
      (State.sameDues_setStaging _ _)).attached hplaced
  · exact hs

theorem State.convertDelta_names (s : State) (i : Fin 64) (c : Check) :
    (s.convertDelta i c).uplink.records.map UplinkRecord.index =
      s.uplink.records.map UplinkRecord.index := by
  simp only [State.convertDelta, State.setUplink_uplink, List.map_map]
  refine List.map_congr_left fun r _ => ?_
  simp only [Function.comp_apply]
  split <;> rfl

/-- The CLOSE record is placed, counted at the entry. -/
theorem Attached.placeClose (hs : Attached none s) {i : Fin 64} {c : Check}
    (hc : s.check i = some c) :
    Attached none (s.placeClose i c).2 ∧
      ∃ n, (s.placeClose i c).2.check i = some { c with pendingUplink := n } := by
  unfold State.placeClose
  split
  · exact ⟨(s.sameDues_setUplink (s.convertDelta_names i c)).attached hs, c.pendingUplink, hc⟩
  · dsimp only
    refine ⟨hs.append _ _ _ fun j hj => ?_, c.pendingUplink + 1, ?_⟩
    · cases hj
      simp [hc]
    · simp [State.appendRecord_check, hc]

theorem checkCloseRule_attached (index : Byte) (key : Half) (hs : Attached none s) :
    Attached none (checkCloseRule index key s).state := by
  refine State.onNamed_keeps hs fun i c hc => State.tested_keeps hs fun h => ?_
  have htest : c.state = .settled ∨ (c.state = .opened ∧ c.due = 0) := of_decide_eq_true
    (h (decide (c.state = .settled ∨ (c.state = .opened ∧ c.due = 0)), .state)
      (by simp [State.closeTests]))
  have he := hs.evaluated i c hc (by simp)
  have hopen : c.state.editable = true ∧ c.state ≠ .tendering := by
    obtain h | ⟨h, -⟩ := htest <;> rw [h] <;> exact ⟨rfl, by simp⟩
  have hzero : c.reserved = 0 := by
    by_contra hne
    have hstate := he.2 hopen.1
    rw [evaluatedState, if_pos (Nat.pos_of_ne_zero hne)] at hstate
    exact hopen.2 hstate
  obtain ⟨hplaced, n, hcheck⟩ := hs.placeClose hc
  refine (State.sameDues_endQuietly _ i).attached ?_
  rw [State.modCheck_of_check _ _ _ _ hcheck]
  exact hplaced.closing hcheck hzero rfl rfl rfl rfl (Check.evaluated_closing he
    (CheckState.entry_of_editable hopen.1).1 rfl rfl rfl rfl)

theorem resolveCloseRule_attached (index : Byte) (key : Half) (hs : Attached none s) :
    Attached none (resolveCloseRule index key s).state := by
  refine State.onNamed_keeps hs fun i c hc => State.tested_keeps hs fun h => ?_
  have hzero : c.reserved = 0 := of_decide_eq_true
    (h (decide (c.reserved = 0), .state) (by simp [State.resolveTests]))
  have happended := hs.append (some i) c.key (.resolve .close c.surplus) fun j hj => by
    cases hj
    simp [hc]
  have hcheck : (s.appendRecord (some i) c.key (.resolve .close c.surplus)).check i =
      some { c with pendingUplink := c.pendingUplink + 1 } := by
    simp [State.appendRecord_check, hc]
  refine (State.sameDues_endQuietly _ i).attached ?_
  rw [State.modCheck_of_check _ _ _ _ hcheck]
  exact happended.closing hcheck hzero rfl rfl rfl rfl (Check.evaluated_markOverpaid rfl)

theorem Check.dropOverpaidPlan_dues (c : Check) : c.dropOverpaidPlan.dues = c.dues := by
  unfold Check.dropOverpaidPlan
  split <;> rfl

theorem resolveKeepRule_attached (index : Byte) (key : Half) (resolution : Byte)
    (hs : Attached none s) : Attached none (resolveKeepRule index key resolution s).state := by
  refine State.tested_keeps hs fun _ => State.onNamed_keeps hs fun i c hc =>
    State.tested_keeps hs fun _ => ?_
  have hkept : Attached none (s.modCheck i fun c => c.dropOverpaidPlan.evaluate) := by
    rw [State.modCheck_of_check _ _ _ _ hc]
    exact hs.replace hc (fun _ _ hl => (hl.congr c.dropOverpaidPlan_dues).evaluate)
      (Check.evaluated_evaluate _)
  have hcheck : (s.modCheck i fun c => c.dropOverpaidPlan.evaluate).check i ≠ none := by
    rw [State.check_modCheck, if_pos rfl, hc]
    simp
  dsimp only [State.accept]
  refine (State.sameDues_restartLease _ i).attached ?_
  split
  · have haborted := State.sameDues_abortReads (s.modCheck i fun c => c.dropOverpaidPlan.evaluate) i
      (.refused .stale)
    refine (haborted.attached hkept).append _ _ _ fun j hj => ?_
    cases hj
    exact fun hnone => hcheck (haborted.check_none.1 hnone)
  · refine hkept.append _ _ _ fun j hj => ?_
    cases hj
    exact hcheck

/-! ### Items and plans -/

theorem Attached.edited (hs : Attached none s) {i : Fin 64} {c d : Check} (hc : s.check i = some c)
    (hkey : d.key = c.key) (hpending : d.pendingUplink = c.pendingUplink)
    (hreserved : d.reserved = c.reserved) (hstate : d.state = c.state)
    (hoverpaid : d.overpaid = c.overpaid) : Attached none (s.putCheck i (some d.afterAmounts)) := by
  have hl (n : Nat) (l : List (Nat × Key)) (h : EntryLaw n l c) : EntryLaw n l d :=
    h.of_state hkey hpending hreserved (fun hs => h.closing (hstate ▸ hs)) fun hs =>
      hoverpaid.trans (h.conflict (hstate ▸ hs))
  exact hs.replace hc (fun n l h => (hl n l h).afterAmounts)
    (Check.evaluated_afterAmounts (hl _ _ (hs.entry i c hc)).conflict)

theorem Attached.addItem (hs : Attached none s) {i : Fin 64} {c : Check} (hc : s.check i = some c)
    (w : ItemWire) : Attached none (s.addItem i c w) := by
  have hdrop : SameDues s s.dropFree := .of_same (touched := [.pool]) (by simp [SameBut]) (by simp)
  have hdropped : s.dropFree.check i = some c := by simpa [State.dropFree] using hc
  exact (State.sameDues_afterEdit _ i).attached ((hdrop.attached hs).edited
    (d := (c.withItem (w.item (s.pool.free.headD 0) c.nextSerial .live .localAdd)
      s.modes.taxRate).bump) hdropped rfl rfl rfl rfl rfl)

theorem Attached.putItems (p : Port) (items : List ItemWire) (hs : Attached none s) :
    Attached none (State.putItems p items s).1 := by
  induction items generalizing s with
  | nil => exact hs
  | cons w rest ih =>
    have hwrite (st : Stream) : Attached none (s.putWriteItem p st w).1 := by
      unfold State.putWriteItem
      split
      · exact (s.sameDues_failStream p _ _).attached hs
      · split
        · exact (s.sameDues_failStream p _ _).attached hs
        · next hc =>
          split
          · exact (s.sameDues_failStream p _ _).attached hs
          · exact (State.sameDues_continueStream _ p _).attached (hs.addItem hc w)
    have himage (st : Stream) : Attached none (s.putImageItem p st w).1 :=
      (SameDues.of_same (s.putImageItem_same p st w) (by simp)).attached hs
    have hitem (st : Stream) : Attached none
        (if st.target = .image then s.putImageItem p st w else s.putWriteItem p st w).1 := by
      split
      · exact himage st
      · exact hwrite st
    unfold State.putItems
    split
    · next st _ =>
      dsimp only
      split
      · exact ih (hitem st)
      · exact hitem st
    · exact hs

/-! ### The ring -/

theorem State.postTests_editable {c : Check} {share base : Nat}
    (h : ∀ t ∈ s.postTests c share base, t.1 = true) : c.state.editable = true :=
  h (c.state.editable, .state) (by simp [State.postTests])

theorem base_of_postFieldsOk {cls : TenderClass} {w : PostWire} (h : postFieldsOk cls w = true) :
    1 ≤ w.base.toNat := by
  unfold postFieldsOk at h
  exact (of_decide_eq_true (Bool.and_eq_true_iff.1 h).1).2.1

theorem postCardRule_attached (index : Byte) (key : Half) (cls : Byte) (w : PostWire)
    (hs : Attached none s) : Attached none (postCardRule index key cls w s).state := by
  refine State.tested_keeps hs fun hfields => State.onNamed_keeps hs fun i c hc =>
    State.tested_keeps hs fun h => ?_
  have hok := hfields (decide (cls = 1) && postFieldsOk .card w, .badField) (by simp)
  have hposted := hs.push_posted (t := s.newTender i c .card w
    ((tipMode? w.tipMode w.fixedTip).getD .none) .posted) hc
    ⟨base_of_postFieldsOk (Bool.and_eq_true_iff.1 hok).2, fun h => nomatch h⟩ rfl rfl
    (CheckState.not_closing_of_editable (State.postTests_editable h)) w.share.toNat
  exact ((State.sameDues_restartLease _ i).trans (State.sameDues_raise _ _ _)).attached hposted

theorem postCashRule_attached (index : Byte) (key : Half) (w : PostWire) (hs : Attached none s) :
    Attached none (postCashRule index key w s).state := by
  refine State.tested_keeps hs fun hfields => State.onNamed_keeps hs fun i c hc =>
    State.tested_keeps hs fun _ => ?_
  have hok := hfields (postFieldsOk .cash w, .badField) (by simp)
  have hpushed := hs.push_finished (t := s.newTender i c .cash w
    ((tipMode? w.tipMode w.fixedTip).getD .none) (.finished (.approved ⟨w.base.toNat,
      ((tipMode? w.tipMode w.fixedTip).getD .none).fixedTip, none, false, false⟩)))
    ⟨base_of_postFieldsOk hok, fun _ => rfl⟩ rfl
  have happroved := ((hpushed.open (some i)).mod (f := fun c =>
    (c.approve w.base.toNat ((tipMode? w.tipMode w.fixedTip).getD .none).fixedTip).approveShare
      w.share.toNat w.base.toNat ((tipMode? w.tipMode w.fixedTip).getD .none).fixedTip)
    fun _ _ _ hl => ⟨hl.1, hl.2, hl.3, hl.4, hl.5⟩).afterAmounts
  rw [State.modCheck_modCheck] at happroved
  dsimp only [State.accept, State.postCash]
  refine ((State.sameDues_countTotals _ _).trans (State.sameDues_restartLease _ i)).attached
    (happroved.append _ _ _ fun j hj => ?_)
  cases hj
  rw [State.check_modCheck, if_pos rfl, State.pushTender, State.setRing_check, hc]
  simp

theorem Tender.claimOn_taken {t t' : Tender} (j : Fin 64) (hindex : t'.index = t.index)
    (hbase : t'.base = t.base) (hkey : t'.key = t.key) (hcommitted : t'.committed = t.committed) :
    t'.claimOn j = t.claimOn j := by
  rw [Tender.claimOn, Tender.claimOn, hindex, hbase, hkey, hcommitted]

/-- An open descriptor goes on, as POSTED, TAKEN or at another stage. -/
theorem Attached.goes_on (hs : Attached none s) {k : Nat} {t t' : Tender}
    (hk : s.ring.tenders[k]? = some t) (hopen : t.isFinished = false)
    (hopen' : t'.isFinished = false) (hindex : t'.index = t.index) (hbase : t'.base = t.base)
    (hkey : t'.key = t.key) (hcls : t'.cls = t.cls) {r : TenderRing}
    (hr : r.tenders = s.ring.tenders.set k t') : Attached none (s.setRing r) := by
  obtain ⟨hone, hcash⟩ := hs.tenders t (List.mem_of_getElem? hk)
  have hcash' : t'.cls = .cash → t'.isFinished = true := fun h => by
    rw [hcash (hcls ▸ h)] at hopen
    cases hopen
  have hcommitted : t'.committed = t.committed :=
    (Tender.committed_of_open hcash' hopen').trans (Tender.committed_of_open hcash hopen).symm
  exact hs.setTender hk (fun j => Tender.claimOn_taken j hindex hbase hkey hcommitted)
    ⟨hbase ▸ hone, hcash'⟩ hr

theorem tenderTakeRule_attached (hs : Attached none s) : Attached none (tenderTakeRule s).state := by
  refine State.tested_keeps hs fun _ => ?_
  split
  · next k t hfirst =>
    obtain ⟨hk, hposted, -⟩ := State.firstPosted_eq_some hfirst
    exact hs.goes_on (t' := { t with phase := .taken .none }) hk
      (Tender.not_finished_of_posted hposted) rfl rfl rfl rfl rfl rfl
  · exact hs.setRing (fun _ => rfl) hs.tenders

theorem progressRule_attached (serial : Half) (stage : Byte) (hs : Attached none s) :
    Attached none (progressRule serial stage s).state := by
  unfold progressRule
  split
  · exact hs
  · next g _ =>
    refine State.tested_keeps hs fun _ => ?_
    split
    · next k t hwith =>
      obtain ⟨hk, htaken⟩ := State.takenTender_eq_some (State.takenWith_eq_some hwith).1
      exact hs.goes_on (t' := { t with phase := .taken g }) hk
        (Tender.not_finished_of_taken htaken) rfl rfl rfl rfl rfl rfl
    · exact hs

theorem tenderCancelRule_attached (serial : Half) (hs : Attached none s) :
    Attached none (tenderCancelRule serial s).state := by
  refine State.tested_keeps hs fun _ => ?_
  split
  · exact hs
  · next k t hwith =>
    have hk := State.tenderWith_eq_some hwith
    split
    · next hposted =>
      exact hs.finish_evaluated (t' := { t with phase := .finished .cancelled }) hk
        (Tender.not_finished_of_posted (t.isPosted_iff.2 hposted)) rfl rfl rfl
    · next g htaken =>
      have hopen : t.isFinished = false := by simp [Tender.isFinished, htaken]
      exact (State.sameDues_raise _ _ _).attached (hs.goes_on
        (t' := { t with cancelRequested := true }) hk hopen hopen rfl rfl rfl rfl rfl)
    · exact hs

theorem tenderReapRule_attached (hs : Attached none s) : Attached none (tenderReapRule s).state := by
  unfold tenderReapRule
  split
  · exact hs
  · next t rest htenders =>
    refine State.tested_keeps hs fun h => ?_
    have hfinished : t.isFinished = true := h (t.isFinished, .empty) (by simp)
    refine hs.setRing (fun j => ?_) fun u hu => hs.tenders u (htenders ▸ List.mem_cons_of_mem t hu)
    rw [htenders, claims, claims, List.filterMap_cons_none]
    exact Tender.claimOn_of_not (.inl (Tender.not_committed_of_finished hfinished))

theorem resultApprovedRule_attached (serial : Half) (outcome : Byte) (w : ResultWire)
    (hs : Attached none s) : Attached none (resultApprovedRule serial outcome w s).state := by
  refine State.tested_keeps hs fun _ => ?_
  split
  · exact hs
  · next g hg =>
    refine State.tested_keeps hs fun _ => ?_
    obtain ⟨k, t, rfl, htaken⟩ | ⟨e, -, rfl⟩ := State.resultTarget_cases hg
    · exact hs.approveTaken htaken w
    · exact hs.approveLate e w

theorem resultDeclinedRule_attached (serial : Half) (w : ResultWire) (hs : Attached none s) :
    Attached none (resultDeclinedRule serial w s).state := by
  refine State.tested_keeps hs fun _ => ?_
  split
  · exact hs
  · next g hg =>
    refine State.tested_keeps hs fun _ => ?_
    obtain ⟨k, t, rfl, htaken⟩ | ⟨e, -, rfl⟩ := State.resultTarget_cases hg
    · exact hs.declineTaken htaken
    · exact hs.dropLate e

/-! ### Images, the queue and the ports -/

theorem imageEndRule_attached (hs : Attached none s) : Attached none (imageEndRule s).state := by
  have hdiscarded : Attached none s.discardAssembly := s.sameDues_discardAssembly.attached hs
  have hplace (a : Assembly) : Attached none (s.placeImage a).state := by
    unfold State.placeImage
    split
    · exact hdiscarded
    · next i u hallocate =>
      have hfree : u.takeAssembly.check i = none := (State.allocate_kept s hallocate).2
      have htaken := (State.sameDues_setFloor u { u.floor with assembly := none }).attached
        (hs.allocate hallocate)
      exact (State.sameDues_raise _ _ _).attached (htaken.place hfree rfl rfl
        (Check.evaluated_evaluate _))
  have htaken : Attached none s.takeAssembly := (s.sameDues_setFloor _).attached hs
  have hend (a : Assembly) (i : Fin 64) (c : Check) : Attached none (s.endImageAt a i c).state := by
    unfold State.endImageAt
    split
    · exact hdiscarded
    · split
      · exact hdiscarded
      · exact (State.sameDues_deferImage _ i _).attached htaken
      · exact ((s.sameDues_discardOlder i _).trans ((State.sameDues_discardAssembly _).trans
          (State.sameDues_setServer _ i _))).attached hs
      · exact htaken.applyImage _ _ _ _ _
  unfold imageEndRule
  split
  · exact hs
  · next a _ =>
    refine State.tested_keeps hs fun _ => (State.sameDues_setChannel _ _ _).attached ?_
    unfold State.endImage
    split
    · exact hplace a
    · split
      · exact hend a _ _
      · exact hplace a

theorem retireRule_attached (key server : Half) (hs : Attached none s) :
    Attached none (retireRule key server s).state := by
  refine State.tested_keeps hs fun _ => ?_
  split
  · exact hs
  · next i _ =>
    split
    · next c hc =>
      unfold State.retireAt
      split
      · exact hs
      · split
        · exact ((s.sameDues_setServer i _).trans (State.sameDues_discardOlder _ i _)).attached hs
        · split
          · exact (s.sameDues_deferImage i _).attached hs
          · next hwaiting =>
            refine hs.applyRetire _ fun d hd => ?_
            rw [hc] at hd
            cases hd
            exact Check.not_conflict_of_keepsWaiting hwaiting
    · exact hs

theorem sendFirst_names (l : List UplinkRecord) :
    (sendFirst l).map UplinkRecord.index = l.map UplinkRecord.index := by
  induction l with
  | nil => rfl
  | cons r rest ih =>
    unfold sendFirst
    split
    · rw [List.map_cons, List.map_cons, ih]
    · rfl

theorem uplinkNextRule_attached (hs : Attached none s) : Attached none (uplinkNextRule s).state := by
  refine State.tested_keeps hs fun _ => ?_
  split
  · exact hs
  · dsimp only [State.accept]
    exact ((s.sameDues_setUplink (u := { s.uplink with records := sendFirst s.uplink.records })
      (sendFirst_names s.uplink.records)).attached hs).scheduleDeltas

theorem uplinkAckRule_attached (seq : Half) (hs : Attached none s) :
    Attached none (uplinkAckRule seq s).state := by
  refine State.tested_keeps hs fun _ => ?_
  split
  · exact hs
  · next gone kept hsplit =>
    dsimp only [State.accept]
    exact (hs.settle hsplit).afterAck gone

theorem markRule_attached (hs : Attached none s) : Attached none (markRule s).state := by
  unfold markRule
  split
  · exact (s.sameDues_setUplink (by rfl)).attached hs
  · exact ((s.sameDues_setUplink (by rfl)).trans (State.sameDues_raise _ _ _)).attached hs

theorem State.sameDues_abortImage (s : State) : SameDues s s.abortImage := by
  unfold State.abortImage
  split
  · split
    · exact s.sameDues_failStream _ _ _
    · exact .refl s
  · exact .refl s

theorem linkDownRule_attached (hs : Attached none s) : Attached none (linkDownRule s).state := by
  unfold linkDownRule
  split
  · exact hs
  · exact ((State.sameDues_abortImage _).trans (State.sameDues_discardAssembly _)).attached hs.loseLink

theorem Attached.resetShare (hs : Attached none s) (p : Port) : Attached none (s.resetShare p) := by
  cases p with
  | console =>
    exact SameDues.attached (s := s) (t := s.resetShare .console) ⟨fun _ => rfl, rfl, rfl⟩ hs
  | tender => exact hs.timeOutTaken false
  | link => exact (s.sameDues_discardAssembly.attached hs).loseLink

theorem portResetRule_attached (p : Port) (hs : Attached none s) :
    Attached none (portResetRule p s).state := by
  have hreleased := (((s.sameDues_closeChannel p).attached hs).resetShare p).releaseAll p
  dsimp only [portResetRule, State.accept]
  exact (SameDues.of_same (touched := [.attn]) (by simp [SameBut]) (by simp)).attached hreleased

theorem State.sameDues_hold (s : State) (p : Port) (index : Byte) (key : Half) :
    SameDues s (holdRule p index key s).state := by
  refine State.onNamed_keeps (.refl s) fun i c _ => ?_
  unfold State.holdCases
  split
  · exact s.sameDues_restartLease i
  · split
    · exact .refl s
    · split
      · exact State.tested_keeps (.refl s) fun _ => s.sameDues_grantHold i p
      · exact State.tested_keeps (.refl s) fun _ => s.sameDues_joinList i p

theorem releaseRule_attached (p : Port) (index : Byte) (key : Half) (hs : Attached none s) :
    Attached none (releaseRule p index key s).state := by
  unfold releaseRule
  split
  · exact hs
  · next i _ =>
    refine State.tested_keeps hs fun _ => ?_
    unfold State.releaseCases
    split
    · exact hs
    · split
      · exact hs.endHold p
      · split
        · exact (s.sameDues_leaveList i p).attached hs
        · exact hs

theorem splitSetRule_attached (index : Byte) (key : Half) (basis count : Byte) (elems : List Tri)
    (hs : Attached none s) : Attached none (splitSetRule index key basis count elems s).state := by
  refine State.onNamed_keeps hs fun i c hc => State.tested_keeps hs fun _ => ?_
  split
  · exact hs
  · exact ((s.sameDues_put i hc (by rfl)).trans (State.sameDues_afterEdit _ i)).attached hs

theorem streamNextRule_attached (p : Port) (hs : Attached none s) :
    Attached none (streamNextRule p s).state := by
  unfold streamNextRule
  split
  · exact hs
  · exact hs
  · exact hs
  · split
    · dsimp only [State.readNext, State.accept]
      split
      · exact ((s.sameDues_continueStream p _).trans
          (State.sameDues_restartIfHolder _ _ _)).attached hs
      · exact (s.sameDues_continueStream p _).attached hs
    · exact hs

theorem streamPutRule_attached (p : Port) (count : Byte) (items : List ItemWire)
    (hs : Attached none s) : Attached none (streamPutRule p count items s).state := by
  refine State.tested_keeps hs fun _ => ?_
  split
  · exact hs
  · exact hs
  · exact hs
  · split
    · exact hs
    · exact hs.putItems p _

theorem State.sameDues_configured (s : State) (pin : Nat) (m : ModeController) :
    SameDues s ((s.setTable { s.table with pinFloor := pin, cursor := pin }).setModes m) :=
  ⟨fun _ => rfl, rfl, rfl⟩

theorem config1Rule_attached (tid pin : Byte) (hs : Attached none s) :
    Attached none (config1Rule tid pin s).state := by
  refine State.tested_keeps hs fun _ => ?_
  have hclosed : SameDues s (if s.modes.step = .ready then s.closeAll else s) := by
    split
    · exact (s.sameDues_closeChannel _).trans ((State.sameDues_closeChannel _ _).trans
        (State.sameDues_closeChannel _ _))
    · exact .refl s
  dsimp only [State.accept]
  exact (hclosed.trans (State.sameDues_configured _ _ _)).attached hs

theorem config4Rule_attached (window wakes : Byte) (hs : Attached none s) :
    Attached none (config4Rule window wakes s).state := by
  refine State.tested_keeps hs fun _ => ?_
  have hset : SameDues s ((s.setUplink { s.uplink with window := window.toNat }).setModes
      { s.modes with wakeEnable := wakeEnables wakes, step := s.modes.step.next }) :=
    ⟨fun _ => rfl, rfl, rfl⟩
  dsimp only [State.accept]
  split
  · exact (hset.trans (State.sameDues_raise _ _ _)).attached hs
  · exact hset.attached hs

/-- Every rule keeps the law of attachment. -/
theorem rule_attached {c : Instr} {r : Served} (h : requestOf c = some r) (hs : Attached none s) :
    Attached none (r.rule s).state := by
  have hsame := rule_same h s
  cases c <;> simp only [requestOf, Option.some.injEq, reduceCtorEq] at h <;> subst h
  case commit => exact commitRule_attached hs
  case commitNew => exact commitNewRule_attached hs
  case checkClose => exact checkCloseRule_attached _ _ hs
  case resolveKeep => exact resolveKeepRule_attached _ _ _ hs
  case resolveClose => exact resolveCloseRule_attached _ _ hs
  case itemAdd =>
    exact State.onNamed_keeps hs fun i c hc => State.tested_keeps hs fun _ => hs.addItem hc _
  case itemVoid =>
    exact State.tested_keeps hs fun _ => State.onNamed_keeps hs fun i c hc =>
      State.tested_keeps hs fun _ => (State.sameDues_afterEdit _ i).attached
        (hs.edited (d := (c.withoutItem _ s.modes.taxRate).bump) hc rfl rfl rfl rfl rfl)
  case splitSet => exact splitSetRule_attached _ _ _ _ _ hs
  case splitClear =>
    exact State.onNamed_keeps hs fun i c hc => State.tested_keeps hs fun _ =>
      ((s.sameDues_put i hc (by rfl)).trans (State.sameDues_afterEdit _ i)).attached hs
  case hold => exact (s.sameDues_hold _ _ _).attached hs
  case renew =>
    exact State.onNamed_keeps hs fun i _ _ =>
      State.tested_keeps hs fun _ => (s.sameDues_restartLease i).attached hs
  case release => exact releaseRule_attached _ _ _ hs
  case streamNext => exact streamNextRule_attached _ hs
  case streamPut => exact streamPutRule_attached _ _ _ hs
  case tenderPostCard => exact postCardRule_attached _ _ _ _ hs
  case tenderPostCash => exact postCashRule_attached _ _ _ hs
  case tenderCancel => exact tenderCancelRule_attached _ hs
  case tenderReap => exact tenderReapRule_attached hs
  case tenderTake => exact tenderTakeRule_attached hs
  case tenderProgress => exact progressRule_attached _ _ hs
  case tenderResultApproved => exact resultApprovedRule_attached _ _ _ hs
  case tenderResultDeclined => exact resultDeclinedRule_attached _ _ hs
  case lateClear => exact hs.setRing (fun _ => rfl) hs.tenders
  case linkStateDown => exact linkDownRule_attached hs
  case imageEnd => exact imageEndRule_attached hs
  case retire => exact retireRule_attached _ _ hs
  case uplinkNext => exact uplinkNextRule_attached hs
  case uplinkAck => exact uplinkAckRule_attached _ hs
  case mark => exact markRule_attached hs
  case portReset x =>
    dsimp only
    exact portResetRule_attached x.port hs
  case config1 => exact config1Rule_attached _ _ hs
  case config4 => exact config4Rule_attached _ _ hs
  all_goals exact (SameDues.of_same hsame (by simp [touchedBy])).attached hs

end

theorem Attached.of_outside {s t : State}
    (h : SameBut [.pending, .ports, .attn, .modes] s t) (hs : Attached none s) : Attached none t :=
  (SameDues.of_same h (by simp)).attached hs

theorem keptByEvents_attached : KeptByEvents (Attached none) where
  ports s v := .of_outside (by simp [SameBut])
  raise s p c := .of_outside (by simp [SameBut])
  lower s p m := .of_outside (by simp [SameBut])
  lamp s hs := (s.sameDues_setUplink (by rfl)).attached hs
  wake s _ := .of_outside (by simp [SameBut])
  begins s _ := .of_outside (by simp [SameBut])
  pending s v := .of_outside (by simp [SameBut])
  advance s dt hs := (s.sameDues_advance dt).attached hs
  line s high := .of_outside (by simp [SameBut, State.setWakeLine])
  awake s _ := .of_outside (by simp [SameBut])
  expire s i _ hs := hs.expireLease i
  timeOut s _ hs := hs.timeOutTaken true
  initial s held _ := by
    obtain ⟨-, -, -, -, -, hattached, -⟩ := lawsHoldAtReset
    have hreset := State.reset.entriesAttached_iff.1 hattached
    exact SameDues.attached (s := State.reset) (t := s.initial held) ⟨fun _ => rfl, rfl, rfl⟩ hreset

/-- Settles O59, by the law of attachment over every rule and event. -/
theorem stepsKeepAttachments : Obligations.StepsKeepAttachments := fun s t hs h =>
  t.entriesAttached_iff.2 (step_keeps keptByEvents_attached (fun _ _ hc _ _ _ => rule_attached hc) h
    (s.entriesAttached_iff.1 hs))

end Sys2Proof.Machine
end

section
/-!
SUPPORT. Targets of EVEN and BY_SEAT plans (R55 to R57): the parts of a division, the lines of disjoint
seats, and tax rounded down part by part.
-/

namespace Sys2Proof.Machine

/-! ### Equal parts -/

theorem evenParts_length (total n : Nat) : (evenParts total n).length = n := by
  cases n with
  | zero => rfl
  | succ m => simp [evenParts]

theorem evenParts_sum (total : Nat) {n : Nat} (hn : 0 < n) : (evenParts total n).sum = total := by
  obtain ⟨m, rfl⟩ : ∃ m, n = m + 1 := ⟨n - 1, by omega⟩
  have hle : m * (total / (m + 1)) ≤ total :=
    (Nat.mul_le_mul_right _ (Nat.le_succ m)).trans (Nat.mul_div_le total (m + 1))
  simp only [evenParts, List.sum_cons, List.sum_replicate, smul_eq_mul]
  exact Nat.sub_add_cancel hle

theorem evenParts_getElem? (total : Nat) {n k : Nat} (hpos : 0 < k) (hk : k < n) :
    (evenParts total n)[k]? = some (total / n) := by
  obtain ⟨m, rfl⟩ : ∃ m, n = m + 1 := ⟨n - 1, by omega⟩
  obtain ⟨j, rfl⟩ : ∃ j, k = j + 1 := ⟨k - 1, by omega⟩
  simp only [evenParts, List.getElem?_cons_succ, List.getElem?_replicate]
  rw [if_pos (by omega)]

/-! ### The lines of seats -/

/-- The line of an item in force, and nothing of one that is not. -/
def Item.liveLine (it : Item) : Nat := if it.status = .live then it.line else 0

theorem liveLines_cons (it : Item) (items : List Item) :
    liveLines (it :: items) = it.liveLine + liveLines items := by
  unfold liveLines Item.liveLine
  by_cases h : it.status = .live <;> simp [h]

theorem seatAmount_cons (it : Item) (items : List Item) (mask : Half) :
    seatAmount (it :: items) mask =
      (if seatIn mask it.seat then it.liveLine else 0) + seatAmount items mask := by
  unfold seatAmount
  cases h : seatIn mask it.seat with
  | false => simp [h]
  | true => simp [h, liveLines_cons]

/-- No seat lies in two of the masks. -/
def Disjoint16 (masks : List Half) : Prop :=
  ∀ n, n < 16 → (masks.filter fun m => m.getLsbD n).length ≤ 1

theorem seat_in_one {masks : List Half} (h : Disjoint16 masks) (seat : Nat) :
    masks.countP (fun m => seatIn m seat) ≤ 1 := by
  by_cases hlt : seat < 16
  · refine le_trans (List.countP_mono_left fun m _ hm => ?_)
      (List.countP_eq_length_filter ▸ h seat hlt)
    exact (Bool.and_eq_true_iff.1 hm).2
  · have hnone : masks.countP (fun m => seatIn m seat) = 0 :=
      List.countP_eq_zero.2 fun m _ => by
        simp [seatIn, BitVec.getLsbD_of_ge m seat (Nat.not_lt.1 hlt)]
    omega

theorem sum_map_ite_const (masks : List Half) (p : Half → Bool) (n : Nat) :
    (masks.map fun m => if p m then n else 0).sum = masks.countP p * n := by
  induction masks with
  | nil => simp
  | cons m rest ih =>
    cases hm : p m with
    | false => simp [hm, ih]
    | true =>
      simp only [List.map_cons, hm, if_true, List.sum_cons, ih, List.countP_cons_of_pos]
      ring

/-- The lines of disjoint seats are among the lines in force. -/
theorem seatAmounts_sum_le {masks : List Half} (h : Disjoint16 masks) (items : List Item) :
    (masks.map (seatAmount items)).sum ≤ liveLines items := by
  induction items with
  | nil =>
    have hnone : seatAmount [] = fun _ => 0 := rfl
    simp [hnone]
  | cons it rest ih =>
    have hone := seat_in_one h it.seat
    have hcons : masks.map (seatAmount (it :: rest)) = masks.map fun m =>
        (if seatIn m it.seat then it.liveLine else 0) + seatAmount rest m :=
      List.map_congr_left fun m _ => seatAmount_cons it rest m
    rw [hcons, List.sum_map_add, sum_map_ite_const, liveLines_cons]
    exact Nat.add_le_add ((Nat.mul_le_mul_right _ hone).trans_eq (Nat.one_mul _)) ih

/-! ### BY_SEAT -/

theorem sum_zipWith_add {a b : List Nat} (h : a.length = b.length) :
    (List.zipWith (· + ·) a b).sum = a.sum + b.sum := by
  induction a generalizing b with
  | nil =>
    obtain rfl := List.length_eq_zero_iff.1 h.symm
    rfl
  | cons x rest ih =>
    cases b with
    | nil => cases h
    | cons y more =>
      simp only [List.zipWith_cons_cons, List.sum_cons, ih (by simpa using h)]
      omega

theorem seatPreTax_length (items : List Item) (masks : List Half) :
    (seatPreTax items masks).length = masks.length := by
  simp [seatPreTax, evenParts_length]

theorem seatPreTax_sum {masks : List Half} (h : Disjoint16 masks) (hne : masks ≠ [])
    (items : List Item) : (seatPreTax items masks).sum = liveLines items := by
  have hlen : (masks.map (seatAmount items)).length =
      (evenParts (liveLines items - (masks.map (seatAmount items)).sum) masks.length).length := by
    rw [List.length_map, evenParts_length]
  rw [seatPreTax, sum_zipWith_add hlen, evenParts_sum _ (List.length_pos_of_ne_nil hne)]
  exact Nat.add_sub_cancel' (seatAmounts_sum_le h items)

/-- Tax rounded down on parts is no more than on their sum. -/
theorem taxed_sum_le (rate : Nat) (l : List Nat) :
    (l.map fun a => a + taxOf rate a).sum ≤ l.sum + taxOf rate l.sum := by
  induction l with
  | nil => simp
  | cons a rest ih =>
    have htax : taxOf rate a + taxOf rate rest.sum ≤ taxOf rate (a + rest.sum) := by
      unfold taxOf
      rw [Nat.add_mul]
      exact Nat.div_add_div_le_add_div
    simp only [List.map_cons, List.sum_cons]
    omega

theorem addToFirst_length (l : List Nat) (n : Nat) : (addToFirst l n).length = l.length := by
  cases l <;> rfl

theorem addToFirst_sum {l : List Nat} (h : l ≠ []) (n : Nat) :
    (addToFirst l n).sum = l.sum + n := by
  obtain ⟨a, rest, rfl⟩ := List.exists_cons_of_ne_nil h
  simp only [addToFirst, List.sum_cons]
  omega

theorem addToFirst_getElem? (l : List Nat) (n : Nat) {k : Nat} (hk : 0 < k) :
    (addToFirst l n)[k]? = l[k]? := by
  obtain ⟨j, rfl⟩ : ∃ j, k = j + 1 := ⟨k - 1, by omega⟩
  cases l <;> rfl

theorem seatTargets_length (rate due : Nat) (items : List Item) (masks : List Half) :
    (seatTargets rate due items masks).length = masks.length := by
  rw [seatTargets, addToFirst_length, List.length_map, seatPreTax_length]

theorem seatTargets_sum {masks : List Half} (h : Disjoint16 masks) (hne : masks ≠ []) (rate : Nat)
    (items : List Item) :
    (seatTargets rate (liveLines items + taxOf rate (liveLines items)) items masks).sum =
      liveLines items + taxOf rate (liveLines items) := by
  have hle := taxed_sum_le rate (seatPreTax items masks)
  rw [seatPreTax_sum h hne] at hle
  have htargets : (seatPreTax items masks).map (fun a => a + taxOf rate a) ≠ [] := by
    rw [← List.length_pos_iff, List.length_map, seatPreTax_length]
    exact List.length_pos_of_ne_nil hne
  rw [seatTargets, addToFirst_sum htargets]
  exact Nat.add_sub_cancel' hle

/-- A share behind the first has its own lines and its part of the common amount, with their tax. -/
theorem seatTargets_getElem? (rate due : Nat) (items : List Item) {masks : List Half} {k : Nat}
    {m : Half} (hpos : 0 < k) (hk : masks[k]? = some m) :
    (seatTargets rate due items masks)[k]? =
      (let part := seatAmount items m +
          (liveLines items - (masks.map (seatAmount items)).sum) / masks.length
       some (part + taxOf rate part)) := by
  have hlt := (List.getElem?_eq_some_iff.1 hk).1
  have hpart : (seatPreTax items masks)[k]? = some (seatAmount items m +
      (liveLines items - (masks.map (seatAmount items)).sum) / masks.length) := by
    rw [seatPreTax, List.getElem?_zipWith, List.getElem?_map, hk, evenParts_getElem? _ hpos hlt]
    rfl
  rw [seatTargets, addToFirst_getElem? _ _ hpos, List.getElem?_map, hpart]
  rfl

/-- Settles O27: the parts add up, and what tax rounded down share by share leaves goes to share 1. -/
theorem targetsSumToDue : Obligations.TargetsSumToDue := by
  unfold Obligations.TargetsSumToDue
  refine ⟨fun due n hn => ⟨evenParts_length due n, evenParts_sum due hn,
    fun k hpos hk => evenParts_getElem? due hpos hk⟩, fun rate items masks hne hdisjoint => ?_⟩
  exact ⟨seatTargets_length rate _ items masks, seatTargets_sum hdisjoint hne rate items,
    fun k m hpos hk => seatTargets_getElem? rate _ items hpos hk⟩

end Sys2Proof.Machine
end

section
/-!
SUPPORT. Edits of a check: ITEM_ADD, ITEM_VOID, SPLIT_SET and SPLIT_CLEAR (R50 to R61), by what ends
each of them: the read streams aborted, the Console Port's lease restarted.
-/

namespace Sys2Proof.Machine

/-! ### Evaluation in the words of the statements -/

theorem Check.afterAmounts_of_live {c : Check} (h : c.state.Live) : c.afterAmounts = c.evaluate := by
  unfold Check.afterAmounts
  obtain h | h | h := h <;> simp only [h]

theorem Check.reevaluated_eq (c : Check) : c.reevaluated = c.afterAmounts := by
  unfold Check.reevaluated
  split
  · next hlive =>
    rw [Check.afterAmounts_of_live hlive]
    rfl
  · next hnot =>
    split
    · next hclosing =>
      have hmark : c.afterAmounts = c.markOverpaid := by simp only [Check.afterAmounts, hclosing]
      rw [hmark]
      rfl
    · next hopen =>
      unfold Check.afterAmounts
      split
      · next hs => exact absurd (.inl hs) hnot
      · next hs => exact absurd (.inr (.inl hs)) hnot
      · next hs => exact absurd (.inr (.inr hs)) hnot
      · next hs => exact absurd hs hopen
      · rfl

/-! ### Refusals -/

/-- The first test that fails is one of the tests. -/
theorem mem_of_firstFailure {tests : List (Bool × ReplyOutcome)} {o : ReplyOutcome}
    (h : firstFailure tests = some o) : o ∈ tests.map Prod.snd := by
  induction tests with
  | nil => cases h
  | cons t rest ih =>
    obtain ⟨passed, refusal⟩ := t
    cases passed with
    | false =>
      cases h
      exact List.mem_cons_self
    | true => exact List.mem_cons_of_mem _ (ih h)

/-! ### The end of an edit -/

section
variable {s : State} {i : Fin 64}

theorem State.restartLease_check {d : Check} {p : Port} (hd : s.check i = some d)
    (hp : d.holder = some p) :
    (s.restartLease i).check i = some { d with hold := s.freshHold p } := by
  rw [State.restartLease_of_holder hd hp, State.check_putCheck, if_pos rfl]

theorem State.afterEdit_check {d : Check} {p : Port} (hd : s.check i = some d)
    (hp : d.holder = some p) :
    (s.afterEdit i).check i = some { d with hold := s.freshHold p } := by
  have habort : (s.abortReads i (.refused .stale)).check i = some d := by
    simpa [State.check] using hd
  have hmodes : (s.abortReads i (.refused .stale)).modes = s.modes := by simp
  rw [State.afterEdit, State.restartLease_check habort hp, State.freshHold, hmodes]

theorem State.onlyEntry_restartLease (s : State) (i : Fin 64) : OnlyEntry s (s.restartLease i) i :=
  s.onlyEntry_modCheck i _

theorem State.onlyEntry_afterEdit (s : State) (i : Fin 64) : OnlyEntry s (s.afterEdit i) i :=
  (State.onlyEntry_of_table (by simp)).trans (State.onlyEntry_restartLease _ i)

theorem ReadsAborted.congr {u w u' w' : State} {r : AbortReason} (h : ReadsAborted u w i r)
    (hstreams : u'.streams = u.streams) (hattn : u'.attn = u.attn)
    (hwstreams : w'.streams = w.streams) (hwattn : w'.attn = w.attn) :
    ReadsAborted u' w' i r := by
  rw [ReadsAborted, hstreams, hattn, hwstreams, hwattn]
  exact h

theorem State.readsAborted_afterEdit (s : State) (i : Fin 64) :
    ReadsAborted s (s.afterEdit i) i (.refused .stale) :=
  (s.readsAborted_abortReads i (.refused .stale)).congr rfl rfl (by simp [State.afterEdit])
    (by simp [State.afterEdit])

/-- An edited check, placed with what ends every edit. -/
theorem State.edited_placed {u : State} (d : Check) (htable : s.table = u.table)
    (hstreams : s.streams = u.streams) (hattn : s.attn = u.attn) (hmodes : s.modes = u.modes)
    (hp : d.holder = some .console) :
    ((s.putCheck i (some d)).afterEdit i).check i = some { d with hold := u.freshHold .console } ∧
      OnlyEntry u ((s.putCheck i (some d)).afterEdit i) i ∧
      ReadsAborted u ((s.putCheck i (some d)).afterEdit i) i (.refused .stale) := by
  have hput : (s.putCheck i (some d)).check i = some d := by
    rw [State.check_putCheck, if_pos rfl]
  have hfresh : (s.putCheck i (some d)).freshHold .console = u.freshHold .console := by
    rw [State.freshHold, State.freshHold, State.putCheck, State.setTable_modes, hmodes]
  refine ⟨?_, ?_, ?_⟩
  · rw [State.afterEdit_check hput hp, hfresh]
  · exact (State.onlyEntry_of_table htable).trans ((s.onlyEntry_putCheck i _).trans
      (State.onlyEntry_afterEdit _ i))
  · exact (State.readsAborted_afterEdit _ i).congr (by simp [hstreams]) (by simp [hattn]) rfl rfl

end

/-! ### ITEM_ADD -/

theorem canAdd_iff (u : State) (c : Check) (item : ItemWire) :
    CanAdd u c item ↔ firstFailure (u.itemTests c item) = none := by
  rw [firstFailure_eq_none_iff]
  have hunder := noUnderrun_iff (c.withItem (item.item 0 c.nextSerial .live .localAdd)
    u.modes.taxRate)
  simp only [State.itemTests, List.forall_mem_cons, decide_eq_true_eq, ← c.not_splitFixed_iff,
    ← c.state.live_iff, ← inRange_iff, ← hunder]
  constructor
  · rintro ⟨hhold, hscope, hlive, hrange, hlen, hserial, hamount, hfixed, hplan, hpool⟩
    exact ⟨hhold, hscope, hlive, hrange, ⟨hlen, hserial⟩, hamount, hfixed, hplan, by simpa using hpool,
      fun _ h => nomatch h⟩
  · rintro ⟨hhold, hscope, hlive, hrange, ⟨hlen, hserial⟩, hamount, hfixed, hplan, hpool, -⟩
    exact ⟨hhold, hscope, hlive, hrange, hlen, hserial, hamount, hfixed, hplan, by simpa using hpool⟩

/-- ITEM_ADD's tests are refused as the statement lists them. -/
theorem itemAddRule_refused {u : State} {index : Byte} {key : Half} {i : Fin 64} {c : Check}
    {item : ItemWire} {o : ReplyOutcome} (hn : u.Names index key i c)
    (h : firstFailure (u.itemTests c item) = some o) :
    itemAddRule index key item u = u.refuse o :=
  (State.onNamed_of_names hn).trans (State.tested_of_firstFailure _ h)

/-- An edited check as the statements write it. -/
theorem edited_eq (u : State) {c : Check} (items : List Item) (hlive : c.state.Live) :
    { ({ c with items := items } : Check).recompute u.modes.taxRate |>.bump.afterAmounts with
      hold := u.freshHold .console } = edited u c items := by
  rw [Check.afterAmounts_of_live (c := (({ c with items := items } : Check).recompute
    u.modes.taxRate).bump) hlive]
  rfl

/-- An added item as the statements write it. -/
theorem added_eq (u : State) {c : Check} (it : Item) (hlive : c.state.Live) :
    { (c.withItem it u.modes.taxRate).bump.afterAmounts with hold := u.freshHold .console } =
      { edited u c (c.items ++ [it]) with nextSerial := c.nextSerial + 1 } := by
  rw [Check.afterAmounts_of_live (c := (c.withItem it u.modes.taxRate).bump) hlive]
  rfl

theorem Check.holder_afterAmounts (c : Check) : c.afterAmounts.holder = c.holder :=
  congrArg (fun z => z.2.1) (Check.core_afterAmounts c)

theorem State.itemAdded_addItem {u : State} {i : Fin 64} {c : Check} {item : ItemWire}
    (h : CanAdd u c item) :
    ItemAdded u (u.addItem i c item) i c item := by
  obtain ⟨hhold, -, hlive, -⟩ := h
  obtain ⟨hcheck, honly, haborted⟩ := State.edited_placed (s := u.dropFree) (u := u) (i := i)
    (c.withItem (item.item (u.pool.free.headD 0) c.nextSerial .live .localAdd)
      u.modes.taxRate).bump.afterAmounts (by simp) (by simp) (by simp) (by simp)
    ((Check.holder_afterAmounts _).trans hhold)
  refine ⟨hcheck.trans (congrArg some (added_eq u _ hlive)), honly, ?_, haborted, ?_⟩
  · simp [State.addItem, State.afterEdit, State.dropFree]
  · apply State.ext_fields <;> simp [State.addItem, State.afterEdit]

/-- Settles O24, by the tests of R50 and the edit that ends with them. -/
theorem itemAddAppendsItem : Obligations.ItemAddAppendsItem := by
  unfold Obligations.ItemAddAppendsItem
  intro x index key item s u i c he hs hn
  have hrefused (o : ReplyOutcome) (h : firstFailure (u.itemTests c item) = some o) :
      exec (.itemAdd x index key item) s = .next (u.replied .itemAdd x o []) :=
    exec_of_served rfl he hs (itemAddRule_refused hn h)
  refine ⟨fun hcan => ?added, fun o h => hrefused o ((addTests_iff u c item o).1 h),
    fun hnot => ?refused⟩
  case added =>
    have hadded := State.itemAdded_addItem (i := i) hcan
    have hcheck := hadded.1
    refine ⟨_, _, exec_of_served rfl he hs ?_, hcheck, hadded⟩
    refine (State.onNamed_of_names hn).trans ((State.tested_of_all _ _ _
      ((firstFailure_eq_none_iff _).1 ((canAdd_iff u c item).1 hcan))).trans ?_)
    simp only [State.accept, State.itemBody, hcheck]
  case refused =>
    obtain ⟨o, ho⟩ := Option.ne_none_iff_exists'.1 fun h => hnot ((canAdd_iff u c item).2 h)
    refine ⟨o, fun hok => ?_, (addTests_iff u c item o).2 ho, hrefused o ho⟩
    have hmem := mem_of_firstFailure ho
    simp [State.itemTests, hok] at hmem

/-! ### ITEM_VOID -/

/-- ITEM_VOID's tests behind its serial, as the statement lists them. -/
theorem voidTests_iff (u : State) (c : Check) (serial : Nat) (o : ReplyOutcome) :
    FailsFirst [(c.holder = some .console, .notHolder), (c.scope = .owned, .notOwner),
      (c.state = .opened, .state), (∃ it ∈ c.items, it.serial = serial, .noMatch),
      (∃ it ∈ c.items, it.serial = serial ∧ it.status = .live, .badField),
      (∀ p ∈ c.plan, p.basis ≠ .fixed, .splitFixed),
      (c.approved ≤ (c.withoutItem serial u.modes.taxRate).due, .overTender),
      (NoUnderrun (c.withoutItem serial u.modes.taxRate).plan, .shareUnderrun)] o ↔
      firstFailure (u.voidTests c serial) = some o := by
  refine failsFirst_cons decide_eq_true_iff.symm fun _ => failsFirst_cons decide_eq_true_iff.symm
    fun _ => failsFirst_cons decide_eq_true_iff.symm fun _ => failsFirst_cons (by simp) fun _ =>
    failsFirst_cons (by simp) fun _ => failsFirst_cons c.not_splitFixed_iff fun _ =>
    failsFirst_cons decide_eq_true_iff.symm fun _ => failsFirst_cons (noUnderrun_iff _) fun _ =>
    failsFirst_nil o

/-- Settles O25, by the tests of R53 and the edit that ends with them. -/
theorem itemVoidMarksItem : Obligations.ItemVoidMarksItem := by
  unfold Obligations.ItemVoidMarksItem
  intro x index key serial s u i c he hs hn d
  refine ⟨fun o h => ?refused, fun hserial hhold hscope hopen hitem hplan hdue hshares => ?voided⟩
  case refused =>
    refine exec_of_served rfl he hs ?_
    obtain ⟨hzero, rfl⟩ | ⟨hserial, h⟩ := h
    · exact State.tested_of_firstFailure _ (by simp [firstFailure, not_not.1 hzero])
    · refine (State.tested_of_all _ _ _ (by simpa using hserial)).trans
        ((State.onNamed_of_names hn).trans (State.tested_of_firstFailure _ ?_))
      exact (voidTests_iff u c serial.toNat o).1 h
  case voided =>
    obtain ⟨it, hmem, hits, hlive⟩ := hitem
    have hnone : firstFailure (u.voidTests c serial.toNat) = none := by
      rw [firstFailure_eq_none_iff]
      have hunder := (noUnderrun_iff (c.withoutItem serial.toNat u.modes.taxRate)).1 hshares
      have hfixed := c.not_splitFixed_iff.1 hplan
      simp only [State.voidTests, List.forall_mem_cons, hunder, hfixed, hhold, hscope, hopen,
        decide_true, true_and]
      refine ⟨?_, ?_, decide_eq_true hdue, fun _ h => nomatch h⟩
      · exact List.any_eq_true.2 ⟨it, hmem, decide_eq_true hits⟩
      · exact List.any_eq_true.2 ⟨it, hmem, decide_eq_true ⟨hits, hlive⟩⟩
    obtain ⟨hcheck, honly, haborted⟩ := State.edited_placed (s := u) (i := i)
      (c.withoutItem serial.toNat u.modes.taxRate).bump.afterAmounts rfl rfl rfl rfl
      ((Check.holder_afterAmounts _).trans hhold)
    rw [Check.withoutItem, edited_eq u _ (.inl hopen)] at hcheck
    refine ⟨_, exec_of_served rfl he hs ?_, hcheck, honly, haborted, ?_⟩
    · refine (State.tested_of_all _ _ _ (by simpa using hserial)).trans
        ((State.onNamed_of_names hn).trans ((State.tested_of_all _ _ _
          ((firstFailure_eq_none_iff _).1 hnone)).trans ?_))
      simp only [State.accept, State.itemBody, Check.withoutItem, hcheck, be1_toNat]
      rfl
    · apply State.ext_fields <;> simp [State.afterEdit]

end Sys2Proof.Machine
end

section
/-!
SUPPORT. SPLIT_SET and SPLIT_CLEAR (R56 to R61): which bytes give a plan, and the plan with its targets.
-/

namespace Sys2Proof.Machine

/-! ### Plans from a request's bytes -/

/-- What SPLIT_SET asks of its basis, its count and its elements. -/
def PlanGiven (basis count : Byte) (elems : List Tri) (due : Nat) : Prop :=
  2 ≤ count.toNat ∧ count.toNat ≤ 8 ∧
    (basis = 1 ∨
      (basis = 2 ∧ elems.length = count.toNat ∧
        (∀ m ∈ elems.map (fun e => e.setWidth 16), m.getLsbD 0 = false) ∧
        ∀ n, n < 16 → ((elems.map (fun e => e.setWidth 16)).filter (fun m => m.getLsbD n)).length
          ≤ 1) ∨
      (basis = 3 ∧ elems.length = count.toNat ∧ (∀ e ∈ elems, e.toNat ≤ 12499998) ∧
        (elems.map BitVec.toNat).sum = due))

theorem masksOk_iff (masks : List Half) :
    masksOk masks = true ↔ (∀ m ∈ masks, m.getLsbD 0 = false) ∧
      ∀ n, n < 16 → (masks.filter fun m => m.getLsbD n).length ≤ 1 := by
  simp [masksOk]

theorem newShares_masks (count : Nat) (elems : List Tri) :
    (newShares .bySeat count elems).map Share.mask = elems.map fun e => e.setWidth 16 := by
  simp [newShares, Function.comp_def]

theorem newShares_targets (count : Nat) (elems : List Tri) :
    (newShares .fixed count elems).map Share.target = elems.map BitVec.toNat := by
  simp [newShares, Function.comp_def]

theorem newPlan_even (count : Byte) (elems : List Tri) (due : Nat) :
    newPlan 1 count elems due = if 2 ≤ count.toNat ∧ count.toNat ≤ 8 then
      some ⟨.even, newShares .even count.toNat elems⟩ else none := by
  by_cases h : 2 ≤ count.toNat ∧ count.toNat ≤ 8 <;> simp [newPlan, basis?, newShares, h]

theorem newPlan_bySeat (count : Byte) (elems : List Tri) (due : Nat) :
    newPlan 2 count elems due = if 2 ≤ count.toNat ∧ count.toNat ≤ 8 ∧ elems.length = count.toNat ∧
      masksOk (elems.map fun e => e.setWidth 16) = true then
      some ⟨.bySeat, newShares .bySeat count.toNat elems⟩ else none := by
  have hlen : (newShares .bySeat count.toNat elems).length = elems.length := by simp [newShares]
  simp [newPlan, basis?, newShares_masks, hlen, and_assoc]

theorem newPlan_fixed (count : Byte) (elems : List Tri) (due : Nat) :
    newPlan 3 count elems due = if 2 ≤ count.toNat ∧ count.toNat ≤ 8 ∧ elems.length = count.toNat ∧
      (∀ e ∈ elems, e.toNat ≤ 12499998) ∧ (elems.map BitVec.toNat).sum = due then
      some ⟨.fixed, newShares .fixed count.toNat elems⟩ else none := by
  have hlen : (newShares .fixed count.toNat elems).length = elems.length := by simp [newShares]
  have htargets : (newShares .fixed count.toNat elems).all
      (fun sh => decide (sh.target ≤ Config.maxDue)) =
        decide (∀ e ∈ elems, e.toNat ≤ 12499998) := by
    rw [Bool.eq_iff_iff, decide_eq_true_iff]
    simp only [newShares, Config.maxDue, List.all_map, List.all_eq_true, Function.comp_apply]
    exact forall₂_congr fun _ _ => decide_eq_true_iff
  simp [newPlan, basis?, newShares_targets, hlen, htargets, and_assoc]

theorem newPlan_of_no_basis {basis : Byte} (h1 : basis ≠ 1) (h2 : basis ≠ 2) (h3 : basis ≠ 3)
    (count : Byte) (elems : List Tri) (due : Nat) : newPlan basis count elems due = none := by
  have hbasis : basis? basis = none := by rw [basis?, if_neg h1, if_neg h2, if_neg h3]
  simp only [newPlan, hbasis]

theorem newPlan_eq_none {basis count : Byte} {elems : List Tri} {due : Nat}
    (h : ¬PlanGiven basis count elems due) : newPlan basis count elems due = none := by
  by_cases h1 : basis = 1
  · subst h1
    rw [newPlan_even, if_neg fun hc => h ⟨hc.1, hc.2, .inl rfl⟩]
  by_cases h2 : basis = 2
  · subst h2
    rw [newPlan_bySeat, if_neg]
    rintro ⟨hlow, hhigh, hlen, hmasks⟩
    exact h ⟨hlow, hhigh, .inr (.inl ⟨rfl, hlen, (masksOk_iff _).1 hmasks⟩)⟩
  by_cases h3 : basis = 3
  · subst h3
    rw [newPlan_fixed, if_neg]
    rintro ⟨hlow, hhigh, hgiven⟩
    exact h ⟨hlow, hhigh, .inr (.inr ⟨rfl, hgiven⟩)⟩
  exact newPlan_of_no_basis h1 h2 h3 _ _ _

/-! ### Targets of a new plan -/

theorem retarget_even (rate due : Nat) (items : List Item) {n : Nat} (hn : 0 < n)
    (elems : List Tri) :
    SplitPlan.retarget ⟨.even, newShares .even n elems⟩ rate due items =
      ⟨.even, ⟨due - (n - 1) * (due / n), 0, 0, 0, 0⟩ ::
        List.replicate (n - 1) ⟨due / n, 0, 0, 0, 0⟩⟩ := by
  obtain ⟨m, rfl⟩ : ∃ m, n = m + 1 := ⟨n - 1, by omega⟩
  simp [SplitPlan.retarget, SplitPlan.setTargets, SplitPlan.targets, newShares, evenParts,
    List.replicate_succ]

theorem retarget_bySeat (rate due : Nat) (items : List Item) (n : Nat) (elems : List Tri) :
    SplitPlan.retarget ⟨.bySeat, newShares .bySeat n elems⟩ rate due items =
      ⟨.bySeat, List.zipWith (fun t m => ⟨t, m, 0, 0, 0⟩)
        (seatTargets rate due items (elems.map fun e => e.setWidth 16))
        (elems.map fun e => e.setWidth 16)⟩ := by
  simp only [SplitPlan.retarget, SplitPlan.setTargets, SplitPlan.targets, newShares_masks]
  rw [List.zipWith_comm]
  simp only [newShares, List.zipWith_map_right]

theorem retarget_fixed (rate due : Nat) (items : List Item) (n : Nat) (elems : List Tri) :
    SplitPlan.retarget ⟨.fixed, newShares .fixed n elems⟩ rate due items =
      ⟨.fixed, elems.map fun e => ⟨e.toNat, 0, 0, 0, 0⟩⟩ := by
  simp [SplitPlan.retarget, SplitPlan.setTargets, SplitPlan.targets, newShares,
    List.zipWith_map_left, List.zipWith_map_right, List.zipWith_self]

/-! ### The rules -/

section
variable {u : State} {index : Byte} {key : Half} {i : Fin 64} {c : Check}

/-- The first failure among tests with one more behind them. -/
theorem failsFirst_snoc (ps : List (Prop × ReplyOutcome)) (p : Prop) (r o : ReplyOutcome) :
    FailsFirst (ps ++ [(p, r)]) o ↔ FailsFirst ps o ∨ ((∀ t ∈ ps, t.1) ∧ ¬p ∧ o = r) := by
  induction ps with
  | nil => simp [FailsFirst]
  | cons t rest ih =>
    simp only [List.cons_append, FailsFirst, ih, List.forall_mem_cons]
    tauto

/-- What the statement calls editable, as the meanings test it. -/
theorem splitSetTests_iff (c : Check) (o : ReplyOutcome) :
    FailsFirst [(c.holder = some .console, .notHolder), (c.scope = .owned, .notOwner),
      (c.state.Live ∧ c.reserved = 0 ∧ c.approved = 0, .state)] o ↔
      firstFailure (splitSetTests c) = some o :=
  failsFirst_cons decide_eq_true_iff.symm fun _ => failsFirst_cons decide_eq_true_iff.symm fun _ =>
    failsFirst_cons (by rw [c.state.live_iff]; simp) fun _ => failsFirst_nil o

theorem splitClearTests_iff (c : Check) (o : ReplyOutcome) :
    FailsFirst [(c.holder = some .console, .notHolder), (c.scope = .owned, .notOwner),
      (c.state.Live ∧ c.reserved = 0, .state), (c.plan.isSome = true, .noMatch)] o ↔
      firstFailure (splitClearTests c) = some o :=
  failsFirst_cons decide_eq_true_iff.symm fun _ => failsFirst_cons decide_eq_true_iff.symm fun _ =>
    failsFirst_cons (by rw [c.state.live_iff]; simp) fun _ => failsFirst_cons .rfl fun _ =>
      failsFirst_nil o

theorem splitSetRule_refused {basis count : Byte} {elems : List Tri} {o : ReplyOutcome}
    (hn : u.Names index key i c)
    (h : FailsFirst [(c.holder = some .console, .notHolder), (c.scope = .owned, .notOwner),
      (c.state.Live ∧ c.reserved = 0 ∧ c.approved = 0, .state),
      (PlanGiven basis count elems c.due, .badField)] o) :
    splitSetRule index key basis count elems u = u.refuse o := by
  refine (State.onNamed_of_names hn).trans ?_
  obtain h | ⟨hpass, hnot, rfl⟩ := (failsFirst_snoc [_, _, _] _ _ o).1 h
  · exact State.tested_of_firstFailure _ ((splitSetTests_iff c o).1 h)
  · have hnone : firstFailure (splitSetTests c) = none := by
      rw [firstFailure_eq_none_iff]
      simp only [List.forall_mem_cons] at hpass
      obtain ⟨hhold, hscope, ⟨hlive, hreserved, happroved⟩, -⟩ := hpass
      simp [splitSetTests, hhold, hscope, hreserved, happroved, (c.state.live_iff).1 hlive]
    rw [State.tested_of_all _ _ _ ((firstFailure_eq_none_iff _).1 hnone), newPlan_eq_none hnot]

theorem State.split_placed (hhold : c.holder = some .console) (plan : Option SplitPlan)
    (w : State) (hw : w = (u.putCheck i (some { c with plan := plan }.bump)).afterEdit i) :
    (w.check i = some { c with
        plan := plan, revision := (c.revision + 1) % 65536, hold := u.freshHold .console } ∧
      OnlyEntry u w i ∧ ReadsAborted u w i (.refused .stale) ∧
      w = { u with table := w.table, streams := w.streams, attn := w.attn }) := by
  subst hw
  obtain ⟨hcheck, honly, haborted⟩ := State.edited_placed (s := u) (i := i)
    ({ c with plan := plan } : Check).bump rfl rfl rfl rfl hhold
  refine ⟨hcheck, honly, haborted, ?_⟩
  apply State.ext_fields <;> simp [State.afterEdit]

theorem splitSetRule_places {basis count : Byte} {elems : List Tri} {p0 p : SplitPlan}
    (hn : u.Names index key i c) (hhold : c.holder = some .console) (hscope : c.scope = .owned)
    (hlive : c.state.Live) (hreserved : c.reserved = 0) (happroved : c.approved = 0)
    (hplan : newPlan basis count elems c.due = some p0)
    (hp : p0.retarget u.modes.taxRate c.due c.items = p) (hlen : p.shares.length = count.toNat) :
    splitSetRule index key basis count elems u =
      ((u.putCheck i (some { c with plan := some p }.bump)).afterEdit i).accept
        ([count] ++ p.shares.flatMap fun sh => be3 sh.target) := by
  refine (State.onNamed_of_names hn).trans ((State.tested_of_all _ _ _ ?_).trans ?_)
  · simp [splitSetTests, hhold, hscope, hreserved, happroved, (c.state.live_iff).1 hlive]
  · simp only [hplan, hp]
    rw [SplitPlan.targetsWire, hlen, be1_toNat]

end

/-- Settles O26, basis by basis. -/
theorem splitPlansPlacedAndCleared : Obligations.SplitPlansPlacedAndCleared := by
  unfold Obligations.SplitPlansPlacedAndCleared
  intro x index key s u i c he hn editable placed sets
  refine ⟨fun basis count elems hs => ?refused, fun hedit happroved count hlow hhigh => ?set,
    fun hs => ⟨fun o h => ?clearRefused, fun hedit hplan => ?cleared⟩⟩
  case refused =>
    intro masks o h
    exact exec_of_served rfl he hs (splitSetRule_refused hn h)
  case set =>
    obtain ⟨hhold, hscope, hlive, hreserved⟩ := hedit
    have hset {basis : Byte} {elems : List Tri} {p0 p : SplitPlan}
        (hs : u.Serves .splitSet x (count.toNat * splitBytes basis))
        (hplan : newPlan basis count elems c.due = some p0)
        (hp : p0.retarget u.modes.taxRate c.due c.items = p)
        (hlen : p.shares.length = count.toNat) : sets basis count elems p :=
      ⟨_, exec_of_served rfl he hs (splitSetRule_places hn hhold hscope hlive hreserved happroved
        hplan hp hlen), State.split_placed hhold _ _ rfl⟩
    refine ⟨fun hs => ?_, fun elems hs hlen => ?_,
      fun elems hs hlen hrange hsum => ?_⟩
    · intro q
      refine hset hs ((newPlan_even _ _ _).trans (if_pos ⟨hlow, hhigh⟩))
        (retarget_even _ _ _ (by omega) _) ?_
      simp
      omega
    · intro masks hzero hone
      refine hset hs ((newPlan_bySeat _ _ _).trans
        (if_pos ⟨hlow, hhigh, hlen, (masksOk_iff _).2 ⟨hzero, hone⟩⟩)) (retarget_bySeat _ _ _ _ _) ?_
      simp [seatTargets_length, masks, hlen]
    · refine hset hs ((newPlan_fixed _ _ _).trans (if_pos ⟨hlow, hhigh, hlen, hrange, hsum⟩))
        (retarget_fixed _ _ _ _ _) ?_
      simp [hlen]
  case clearRefused =>
    exact exec_of_served rfl he hs ((State.onNamed_of_names hn).trans
      (State.tested_of_firstFailure _ ((splitClearTests_iff c o).1 h)))
  case cleared =>
    obtain ⟨hhold, hscope, hlive, hreserved⟩ := hedit
    refine ⟨_, exec_of_served rfl he hs ((State.onNamed_of_names hn).trans
      (State.tested_of_all _ _ _ ?_)), State.split_placed hhold none _ rfl⟩
    simp [splitClearTests, hhold, hscope, hreserved, hplan, (c.state.live_iff).1 hlive]

end Sys2Proof.Machine
end

section
/-!
SUPPORT. Allocation (R15 to R18), COMMIT and COMMIT_NEW (R32 to R39).
-/

namespace Sys2Proof.Machine

/-! ### Tests that all pass -/

theorem not_failsFirst_of_all {ps : List (Prop × ReplyOutcome)} (h : ∀ t ∈ ps, t.1)
    (o : ReplyOutcome) : ¬FailsFirst ps o := by
  induction ps with
  | nil => exact id
  | cons t rest ih =>
    obtain ⟨ht, hrest⟩ := List.forall_mem_cons.1 h
    rintro (⟨hnot, -⟩ | ⟨-, hfails⟩)
    · exact hnot ht
    · exact ih hrest hfails

/-- Tests that refuse as a list of the statements does pass where all of that list hold. -/
theorem firstFailure_eq_none_of {ps : List (Prop × ReplyOutcome)}
    {bs : List (Bool × ReplyOutcome)} (h : ∀ o, FailsFirst ps o ↔ firstFailure bs = some o)
    (hall : ∀ t ∈ ps, t.1) : firstFailure bs = none := by
  by_contra hne
  obtain ⟨o, ho⟩ := Option.ne_none_iff_exists'.1 hne
  exact not_failsFirst_of_all hall o ((h o).2 ho)

/-! ### Eviction -/

theorem State.evictable_iff (u : State) (i : Fin 64) : u.evictable i = true ↔
    ∃ c, u.check i = some c ∧ u.table.pinFloor ≤ i.val ∧ c.scope = .foreign ∧ c.state = .opened ∧
      c.approved = 0 ∧ c.reserved = 0 ∧ c.pendingUplink = 0 ∧ c.hold = none ∧ c.waiters = [] ∧
      c.image = none := by
  unfold State.evictable
  cases u.check i with
  | none => simp
  | some c =>
    simp only [Bool.and_eq_true, decide_eq_true_eq, Option.isNone_iff_eq_none,
      List.isEmpty_iff, Option.some.injEq, exists_eq_left']
    tauto

/-- What eviction leaves of a state. -/
theorem State.evict_effect {u : State} {i : Fin 64} {c : Check} (hc : u.check i = some c) :
    (u.evict i).check i = none ∧ (∀ j, j ≠ i → (u.evict i).check j = u.check j) ∧
      (u.evict i).table.cursor = (if i.val = 63 then u.table.pinFloor else i.val + 1) ∧
      (u.evict i).table.pinFloor = u.table.pinFloor ∧
      (u.evict i).pool.free = u.pool.free ++ c.items.map Item.record ∧
      (∀ p, (u.evict i).streams.get p = (u.streams.get p).abortedOn .itemsRead i .gone) ∧
      (∀ p, (u.evict i).attn.flags.get p = withFlag (withFlag (u.attn.flags.get p)
        ((u.streams.get p).streamOn .itemsRead i).isSome .streamEnd p)
        (decide (p = .console)) .eviction p) ∧
      (u.evict i).attn.enables = u.attn.enables := by
  refine ⟨u.evict_check i, fun j hj => ?_, ?_, ?_, ?_, fun p => ?_, fun p => ?_, ?_⟩
  all_goals simp only [State.evict, hc]
  · change (((u.freeItems c.items).abortReads i .gone).putCheck i none).check j = u.check j
    rw [State.check_putCheck, if_neg hj]
    simp [State.check, State.freeItems]
  · simp [State.putCheck, State.freeItems]
  · simp [State.putCheck, State.freeItems]
  · simp [State.freeItems]
  · simp [State.abortReads_streams_get, State.freeItems]
  · cases p <;> simp [State.abortReads_flags_get, State.freeItems]
  · simp [State.freeItems]

/-! ### The scan -/

/-- The first of some entries in ascending order. -/
theorem find?_filter_allIdx {p q : Fin 64 → Bool} {i : Fin 64} (hp : p i = true) (hq : q i = true)
    (hfirst : ∀ j, p j = true → j < i → q j = false) : (allIdx.filter p).find? q = some i := by
  rw [List.find?_filter]
  refine find?_allIdx_of_first (by simp [hp, hq]) fun j hj => ?_
  cases hpj : p j with
  | false => rfl
  | true => simpa using hfirst j hpj hj

theorem find?_filter_allIdx_none {p q : Fin 64 → Bool} (h : ∀ j, p j = true → q j = false) :
    (allIdx.filter p).find? q = none :=
  List.find?_eq_none.2 fun j hj => by simpa using h j (List.mem_filter.1 hj).2

/-- The victim of the scan: the first evictable entry from the cursor on, or from the pin floor. -/
theorem scanOrder_find? {cursor pinFloor : Nat} {q : Fin 64 → Bool} {i : Fin 64} (hq : q i = true)
    (hpin : pinFloor ≤ i.val)
    (hahead : cursor ≤ i.val → ∀ j : Fin 64, cursor ≤ j.val → j < i → q j = false)
    (hbehind : i.val < cursor → ∀ j : Fin 64,
      cursor ≤ j.val ∨ (pinFloor ≤ j.val ∧ j < i) → q j = false) :
    (scanOrder cursor pinFloor).find? q = some i := by
  rw [scanOrder, List.find?_append]
  by_cases hi : cursor ≤ i.val
  · rw [find?_filter_allIdx (decide_eq_true hi) hq fun j hj hlt =>
      hahead hi j (of_decide_eq_true hj) hlt]
    rfl
  · have hlt := Nat.lt_of_not_le hi
    rw [find?_filter_allIdx_none fun j hj => hbehind hlt j (.inl (of_decide_eq_true hj)),
      Option.none_or]
    exact find?_filter_allIdx (decide_eq_true ⟨hpin, hlt⟩) hq fun j hj hji =>
      hbehind hlt j (.inr ⟨(of_decide_eq_true hj).1, hji⟩)

theorem scanOrder_find?_none (cursor pinFloor : Nat) {q : Fin 64 → Bool} (h : ∀ j, q j = false) :
    (scanOrder cursor pinFloor).find? q = none :=
  List.find?_eq_none.2 fun j _ => by simp [h j]

theorem State.allocate_of_free {u : State} {i : Fin 64} (hi : u.check i = none)
    (hfirst : ∀ j, j < i → u.check j ≠ none) : u.allocate = some (i, u) := by
  have hfind : allIdx.find? (fun i => (u.check i).isNone) = some i :=
    find?_allIdx_of_first (by simp [hi]) fun j hj =>
      Option.isNone_eq_false_iff.2 (Option.ne_none_iff_isSome.1 (hfirst j hj))
  simp only [State.allocate, hfind]

theorem State.allocate_of_full {u : State} (hfull : ∀ i, u.check i ≠ none) :
    u.allocate = ((scanOrder u.table.cursor u.table.pinFloor).find? fun i => u.evictable i).map
      fun i => (i, u.evict i) := by
  have hfind : allIdx.find? (fun i => (u.check i).isNone) = none :=
    find?_allIdx_of_none fun j =>
      Option.isNone_eq_false_iff.2 (Option.ne_none_iff_isSome.1 (hfull j))
  simp only [State.allocate, hfind]
  cases (scanOrder u.table.cursor u.table.pinFloor).find? fun i => u.evictable i <;> rfl

/-- Settles O17, along the scan from the cursor. -/
theorem allocationEvictsFromCursor : Obligations.AllocationEvictsFromCursor := by
  unfold Obligations.AllocationEvictsFromCursor
  refine ⟨State.evictable_iff, fun u => ⟨fun i hi hfirst => State.allocate_of_free hi hfirst,
    fun hfull hnone => ?full, fun i c hfull hc hevict _ hahead hbehind => ?evicts⟩⟩
  case full =>
    have hno (j : Fin 64) : u.evictable j = false := by
      by_contra hj
      rw [Bool.not_eq_false] at hj
      obtain ⟨_, _, hpin, _⟩ := (u.evictable_iff j).1 hj
      simp [hnone j hpin] at hj
    rw [State.allocate_of_full hfull, scanOrder_find?_none _ _ hno]
    rfl
  case evicts =>
    obtain ⟨_, _, hpin, _⟩ := (u.evictable_iff i).1 hevict
    obtain ⟨hfree, hothers, hcursor, hpinFloor, hpool, hstreams, hflags, henables⟩ :=
      State.evict_effect hc
    refine ⟨u.evict i, ?_, hfree, hothers, hcursor, hpinFloor, hpool, hstreams, hflags, henables, ?_⟩
    · rw [State.allocate_of_full hfull, scanOrder_find? hevict hpin hahead hbehind]
      rfl
    · apply State.ext_fields <;> simp

/-! ### COMMIT -/

/-- Two headers that differ are those of two revisions. -/
theorem bumpRevision_ne (n : Nat) : (n + 1) % 65536 ≠ n := by omega

/-- The header a COMMIT writes, with the bump where a field differs. -/
theorem Check.takeHeader_eq (c : Check) {r : StagingRecord} {k : Key} (hk : r.key = some k) :
    c.takeHeader r = { c with
      key := k, covers := r.covers, seats := r.seats
      revision := if k = c.key ∧ r.covers = c.covers ∧ r.seats = c.seats then c.revision
        else (c.revision + 1) % 65536 } := by
  have hsame : ({ c with key := k, covers := r.covers, seats := r.seats } : Check) = c ↔
      k = c.key ∧ r.covers = c.covers ∧ r.seats = c.seats := by
    constructor
    · intro h
      exact ⟨congrArg Check.key h, congrArg Check.covers h, congrArg Check.seats h⟩
    · rintro ⟨hkey, hcovers, hseats⟩
      rw [hkey, hcovers, hseats]
  unfold Check.takeHeader
  simp only [hk, Option.getD_some, hsame]
  split
  · next h =>
    obtain ⟨hkey, hcovers, hseats⟩ := h
    rw [hkey, hcovers, hseats]
  · rfl

/-- COMMIT's tests, as the statement lists them. -/
theorem commitTests_iff (u : State) (r : StagingRecord) (i : Fin 64) (c : Check)
    (o : ReplyOutcome) :
    FailsFirst [(r.origKey = some c.key ∧ c.revision = r.captured, .stale),
      (c.holder = some .console, .notHolder), (c.scope = .owned, .notOwner),
      (c.state.Live ∧ (r.key = some c.key ∨ (c.reserved = 0 ∧ c.image = none)), .state),
      (∀ j, j ≠ i → ∀ d ∈ u.check j, r.key ≠ some d.key, .duplicateKey),
      (r.key.isSome = true ∧ 1 ≤ r.covers ∧ r.covers ≤ 99 ∧ 1 ≤ r.seats ∧ r.seats ≤ 15 ∧
        (∀ it ∈ c.items, it.status = .live → it.seat ≤ r.seats), .badField)] o ↔
      firstFailure (u.commitTests r i c) = some o := by
  refine failsFirst_cons decide_eq_true_iff.symm fun _ => failsFirst_cons decide_eq_true_iff.symm
    fun _ => failsFirst_cons decide_eq_true_iff.symm fun _ => failsFirst_cons ?_ fun _ =>
    failsFirst_cons ?_ fun _ => failsFirst_cons ?_ fun _ => failsFirst_nil o
  · rw [c.state.live_iff]
    simp
  · rw [u.keyUnused_iff]
    simp [Option.mem_def]
  · simp [StagingRecord.rangesOk, Check.liveItems, and_assoc, imp_iff_not_or]

theorem commitTests_pass {u : State} {r : StagingRecord} {i : Fin 64} {c : Check} {k : Key}
    (horig : r.origKey = some c.key) (hcaptured : c.revision = r.captured)
    (hhold : c.holder = some .console) (hscope : c.scope = .owned) (hlive : c.state.Live)
    (hk : r.key = some k) (hfree : k ≠ c.key → c.reserved = 0 ∧ c.image = none)
    (hunused : ∀ j, j ≠ i → ∀ d ∈ u.check j, d.key ≠ k) (hcovers : 1 ≤ r.covers)
    (hcovers' : r.covers ≤ 99) (hseats : 1 ≤ r.seats) (hseats' : r.seats ≤ 15)
    (hitems : ∀ it ∈ c.items, it.status = .live → it.seat ≤ r.seats) :
    firstFailure (u.commitTests r i c) = none := by
  have hkey : r.key = some c.key ∨ (c.reserved = 0 ∧ c.image = none) := by
    by_cases hsame : k = c.key
    · exact .inl (hsame ▸ hk)
    · exact .inr (hfree hsame)
  have hunused' : ∀ j, j ≠ i → ∀ d ∈ u.check j, r.key ≠ some d.key := fun j hj d hd heq =>
    hunused j hj d hd (Option.some.inj (heq.symm.trans hk))
  have hsome : r.key.isSome = true := by rw [hk]; rfl
  refine firstFailure_eq_none_of (commitTests_iff u r i c) ?_
  simp only [List.forall_mem_cons]
  exact ⟨⟨horig, hcaptured⟩, hhold, hscope, ⟨hlive, hkey⟩, hunused',
    ⟨hsome, hcovers, hcovers', hseats, hseats', hitems⟩, fun _ h => nomatch h⟩

/-- What COMMIT leaves behind. -/
def State.committedState (u : State) (r : StagingRecord) (i : Fin 64) (c1 : Check) (bumped : Bool) :
    State :=
  ((if bumped then (u.putCheck i (some c1)).abortReads i (.refused .stale)
    else u.putCheck i (some c1)).restartLease i).setPrimary (r.committed c1)

theorem State.commitTo_of_pass {u : State} {r : StagingRecord} {i : Fin 64} {c : Check}
    (hc : u.check i = some c) (h : firstFailure (u.commitTests r i c) = none) :
    u.commitTo r i = (u.committedState r i (c.takeHeader r)
      (decide ((c.takeHeader r).revision ≠ c.revision))).accept
        (commitBody i (some (c.takeHeader r).key) (c.takeHeader r).revision) := by
  simp only [State.commitTo, hc]
  rw [State.tested_of_all _ _ _ ((firstFailure_eq_none_iff _).1 h)]
  by_cases hrev : (c.takeHeader r).revision = c.revision <;> simp [State.committedState, hrev]

theorem State.committedState_effect {u : State} {r : StagingRecord} {i : Fin 64} {c1 : Check}
    (bumped : Bool) (hhold : c1.holder = some .console) :
    let w := u.committedState r i c1 bumped
    (bumped = false → w.streams = u.streams ∧ w.attn = u.attn) ∧
      (bumped = true → ReadsAborted u w i (.refused .stale)) ∧
      w.check i = some { c1 with hold := u.freshHold .console } ∧ OnlyEntry u w i ∧
      w.staging = { u.staging with primary := r.committed c1 } ∧
      w = { u with
        table := w.table, staging := w.staging, streams := w.streams, attn := w.attn } := by
  have hput : (u.putCheck i (some c1)).check i = some c1 := by
    rw [State.check_putCheck, if_pos rfl]
  have honly := u.onlyEntry_putCheck i (some c1)
  cases bumped with
  | false =>
    refine ⟨fun _ => ?_, fun h => (nomatch h), ?_, ?_, ?_, ?_⟩
    · simp [State.committedState, State.setPrimary]
    · exact State.restartLease_check hput hhold
    · exact honly.trans (State.onlyEntry_restartLease _ i)
    · simp [State.committedState, State.setPrimary]
    · apply State.ext_fields <;> simp [State.committedState, State.setPrimary]
  | true =>
    obtain ⟨hcheck, honly', haborted⟩ := State.edited_placed (s := u) (i := i) c1 rfl rfl rfl rfl hhold
    refine ⟨fun h => (nomatch h), fun _ => haborted, hcheck, honly', ?_, ?_⟩
    · simp [State.committedState, State.setPrimary]
    · apply State.ext_fields <;> simp [State.committedState, State.setPrimary]

theorem commitRule_of_target {u : State} {i : Fin 64} (hvalid : u.staging.primary.valid = true)
    (ht : u.staging.primary.target = some i) : commitRule u = u.commitTo u.staging.primary i := by
  simp only [commitRule, hvalid, ht]

theorem commitRule_of_none {u : State}
    (h : u.staging.primary.valid = false ∨ u.staging.primary.target = none) :
    commitRule u = u.refuse .noStage := by
  cases hvalid : u.staging.primary.valid with
  | false => simp only [commitRule, hvalid]
  | true =>
    have ht := h.resolve_left (by simp [hvalid])
    simp only [commitRule, hvalid, ht]

/-- Settles O22, by the tests of R32 and the header that follows them. -/
theorem commitWritesHeader : Obligations.CommitWritesHeader := by
  unfold Obligations.CommitWritesHeader
  intro x s u he hs r refuses
  refine ⟨fun h => exec_of_served rfl he hs (commitRule_of_none h), fun i hvalid ht =>
    ⟨fun hfree => ?free, fun c hc => ⟨fun o h => ?refused, ?commits⟩⟩⟩
  case free =>
    refine exec_of_served rfl he hs ((commitRule_of_target hvalid ht).trans ?_)
    simp only [State.commitTo, hfree]
    rfl
  case refused =>
    refine exec_of_served rfl he hs ((commitRule_of_target hvalid ht).trans ?_)
    simp only [State.commitTo, hc]
    exact State.tested_of_firstFailure _ ((commitTests_iff u r i c o).1 h)
  case commits =>
    intro k horig hcaptured hhold hscope hlive hk hfree hunused hc1 hc2 hs1 hs2 hitems same
    have hpass := commitTests_pass horig hcaptured hhold hscope hlive hk hfree hunused hc1 hc2 hs1
      hs2 hitems
    have hheader := c.takeHeader_eq hk
    have hrule := (commitRule_of_target hvalid ht).trans (State.commitTo_of_pass hc hpass)
    obtain ⟨hsame, hdiffers, hcheck, honly, hstaging, hframe⟩ :=
      State.committedState_effect (u := u) (r := r) (i := i) (c1 := c.takeHeader r)
        (decide ((c.takeHeader r).revision ≠ c.revision)) (by rw [hheader]; exact hhold)
    refine ⟨_, (c.takeHeader r).revision, fun h => ?_, fun h => ?_, ?_, ?_, honly, ?_, hframe⟩
    · have hrev : (c.takeHeader r).revision = c.revision := by rw [hheader]; exact if_pos h
      exact ⟨hrev, hsame (by simp [hrev])⟩
    · have hrev : (c.takeHeader r).revision = (c.revision + 1) % 65536 := by
        rw [hheader]
        exact if_neg h
      exact ⟨hrev, hdiffers (by rw [hrev]; simpa using bumpRevision_ne c.revision)⟩
    · refine exec_of_served rfl he hs (hrule.trans ?_)
      rw [hheader]
      rfl
    · rw [hcheck, hheader]
    · rw [hstaging, hheader, StagingRecord.committed, hscope]

/-! ### COMMIT_NEW -/

theorem commitNewTests_iff (u : State) (r : StagingRecord) (o : ReplyOutcome) :
    FailsFirst [(r.valid = true, .noStage),
      (∀ j, ∀ d ∈ u.check j, r.key ≠ some d.key, .duplicateKey),
      (r.key.isSome = true ∧ 1 ≤ r.covers ∧ r.covers ≤ 99 ∧ 1 ≤ r.seats ∧ r.seats ≤ 15, .badField),
      (u.holds.count.console < 4, .holdLimit)] o ↔ firstFailure (u.commitNewTests r) = some o := by
  refine failsFirst_cons .rfl fun _ => failsFirst_cons ?_ fun _ => failsFirst_cons ?_ fun _ =>
    failsFirst_cons decide_eq_true_iff.symm fun _ => failsFirst_nil o
  · rw [u.keyUnused_iff]
    simp [Option.mem_def]
  · simp [StagingRecord.rangesOk]

theorem commitNewRule_of_full {u : State} {k : Key}
    (hpass : firstFailure (u.commitNewTests u.staging.primary) = none)
    (hk : u.staging.primary.key = some k) (hnone : u.allocate = none) :
    commitNewRule u = u.refuse .tableFull := by
  refine (State.tested_of_all _ _ _ ((firstFailure_eq_none_iff _).1 hpass)).trans ?_
  simp only [hk, hnone]

/-- The new check, placed in the entry that allocation gave. -/
theorem commitNewRule_of_place {u v : State} {k : Key} {i : Fin 64}
    (hpass : firstFailure (u.commitNewTests u.staging.primary) = none)
    (hk : u.staging.primary.key = some k) (ha : u.allocate = some (i, v)) :
    commitNewRule u = (((v.putCheck i (some (newCheck k u.staging.primary.covers
      u.staging.primary.seats (u.modes.terminalId.getD 0)))).grantHold .console i).setPrimary
        (u.staging.primary.placed i)).accept (commitBody i (some k) 1) := by
  refine (State.tested_of_all _ _ _ ((firstFailure_eq_none_iff _).1 hpass)).trans ?_
  simp only [hk, ha]

theorem State.grantHold_check {s : State} {p : Port} {i : Fin 64} {c : Check}
    (hc : s.check i = some c) :
    (s.grantHold p i).check i = some { c with hold := s.freshHold p } := by
  rw [State.grantHold, State.setCount, State.setHolds_check, State.check_modCheck, if_pos rfl, hc]
  rfl

theorem State.onlyEntry_grantHold (s : State) (p : Port) (i : Fin 64) :
    OnlyEntry s (s.grantHold p i) i :=
  (s.onlyEntry_modCheck i _).trans (State.onlyEntry_of_table rfl)

theorem State.grantHold_holds (s : State) (p : Port) (i : Fin 64) :
    (s.grantHold p i).holds =
      { s.holds with count := s.holds.count.set p (s.holds.count.get p + 1) } := by
  simp [State.grantHold, State.setCount]

/-- Settles O23, by the tests of R38 and the entry that allocation gives. -/
theorem commitNewPlacesCheck : Obligations.CommitNewPlacesCheck := by
  unfold Obligations.CommitNewPlacesCheck
  intro x s u he hs r
  refine ⟨fun o h => exec_of_served rfl he hs (State.tested_of_firstFailure _
    ((commitNewTests_iff u r o).1 h)), ?_⟩
  intro k hvalid hk hunused hc1 hc2 hs1 hs2 hroom
  have hpass : firstFailure (u.commitNewTests r) = none := by
    refine firstFailure_eq_none_of (commitNewTests_iff u r) ?_
    have hsome : r.key.isSome = true := by rw [hk]; rfl
    simp only [List.forall_mem_cons]
    exact ⟨hvalid, fun j d hd heq => hunused j d hd (Option.some.inj (heq.symm.trans hk)),
      ⟨hsome, hc1, hc2, hs1, hs2⟩, hroom, fun _ h => nomatch h⟩
  refine ⟨fun hnone => exec_of_served rfl he hs (commitNewRule_of_full hpass hk hnone),
    fun i v hallocate => ?_⟩
  obtain ⟨-, -, -, -, hstaging, -, hholds, -, -, -, -, -, -, hmodes⟩ := u.allocate_same hallocate
  have hput : (v.putCheck i (some (newCheck k r.covers r.seats (u.modes.terminalId.getD 0)))).check
      i = _ := (State.check_putCheck v i i _).trans (if_pos rfl)
  refine ⟨_, exec_of_served rfl he hs (commitNewRule_of_place hpass hk hallocate), ?_, ?_, ?_, ?_, ?_⟩
  · refine (State.grantHold_check hput).trans ?_
    simp [newCheck, hmodes (by simp), State.putCheck]
  · exact (v.onlyEntry_putCheck i _).trans (State.onlyEntry_grantHold _ _ i)
  · simp [State.setPrimary, State.grantHold_holds, hholds (by simp), PerPort.get]
  · simp [State.setPrimary, hstaging (by simp), StagingRecord.placed, r, hk]
  · apply State.ext_fields <;> simp [State.setPrimary]

end Sys2Proof.Machine
end

section
/-!
SUPPORT. HOLD, RELEASE and LEASE_EXPIRY (R66 to R75), and the pass of a hold to a waiter (R76).
-/

namespace Sys2Proof.Machine

section
variable {u : State} {i : Fin 64} {c : Check} {p : Port}

/-! ### HOLD -/

theorem State.holdBody_of_check (hc : u.check i = some c) : u.holdBody i =
    be1 i.val ++ be2 c.key.wire.toNat ++ be1 c.state.entry.code ++ be2 c.revision := by
  simp only [State.holdBody, hc]
  rfl

theorem Check.hold_eq_none (h : c.holder = none) : c.hold = none := Option.map_eq_none_iff.1 h

theorem Check.hold_ne_none {q : Port} (h : c.holder = some q) : c.hold ≠ none := by
  rintro hnone
  simp [Check.holder, hnone] at h

theorem State.joinList_check (hc : u.check i = some c) :
    (u.joinList p i).check i = some { c with waiters := c.waiters ++ [p] } := by
  rw [State.joinList, State.setWait, State.setHolds_check, State.check_modCheck, if_pos rfl, hc]
  rfl

theorem State.onlyEntry_joinList (u : State) (p : Port) (i : Fin 64) :
    OnlyEntry u (u.joinList p i) i :=
  (u.onlyEntry_modCheck i _).trans (State.onlyEntry_of_table rfl)

theorem State.holdCases_of_holder (h : c.holder = some p) :
    u.holdCases p i c = (u.restartLease i).accept (u.holdBody i) := if_pos h

theorem State.holdCases_of_waiter (h : c.holder ≠ some p) (hw : p ∈ c.waiters) :
    u.holdCases p i c = u.refuse .queued := by
  rw [State.holdCases, if_neg h, if_pos hw]

theorem State.holdCases_of_free (h : c.holder = none) (hw : p ∉ c.waiters) :
    u.holdCases p i c = u.tested [(decide (u.holds.count.get p < Config.holdsPerPort), .holdLimit)]
      ((u.grantHold p i).accept (u.holdBody i)) := by
  rw [State.holdCases, if_neg (by simp [h]), if_neg hw, if_pos (Check.hold_eq_none h)]

theorem State.holdCases_of_other {q : Port} (h : c.holder = some q) (hq : q ≠ p)
    (hw : p ∉ c.waiters) :
    u.holdCases p i c = u.tested
      [(decide (u.holds.waits.get p = none), .waitBusy),
       (decide (u.holds.count.get p < Config.holdsPerPort), .holdLimit)]
      ⟨.queued, [], u.joinList p i⟩ := by
  rw [State.holdCases, if_neg (by simpa [h] using hq), if_neg hw, if_neg (Check.hold_ne_none h)]

end

/-- Settles O28, by who holds the entry and who waits for it. -/
theorem holdDecidedByHolder : Obligations.HoldDecidedByHolder := by
  unfold Obligations.HoldDecidedByHolder
  intro x index key s u i c he hs hn body count
  obtain ⟨-, -, hc, -⟩ := id hn
  have hanswer {o : ReplyOutcome} {b : List Byte} {w : State}
      (h : u.holdCases x.port i c = ⟨o, b, w⟩) :
      exec (.hold x index key) s = .next (w.replied .hold x o b) :=
    exec_of_served rfl he hs ((State.onNamed_of_names hn).trans h)
  have hbody : u.holdBody i = body := State.holdBody_of_check hc
  have hleft (h : count < 4) : decide (u.holds.count.get x.port < Config.holdsPerPort) = true :=
    decide_eq_true h
  have hnone (h : 4 ≤ count) : decide (u.holds.count.get x.port < Config.holdsPerPort) = false :=
    decide_eq_false (Nat.not_lt.2 h)
  refine ⟨fun hhold => ?holder, fun hhold hwait => hanswer (State.holdCases_of_waiter hhold hwait),
    fun hfree hwait hfull => ?limit, fun hfree hwait hroom => ?granted,
    fun q hq hne hwait => ⟨fun hbusy => ?waitBusy, fun hidle hfull => ?waitLimit,
      fun hidle hroom => ?queued⟩⟩
  case holder =>
    exact ⟨_, hanswer ((State.holdCases_of_holder hhold).trans (by rw [hbody]; rfl)),
      State.restartLease_check hc hhold, State.onlyEntry_restartLease u i, by
        apply State.ext_fields <;> simp⟩
  case limit =>
    exact hanswer ((State.holdCases_of_free hfree hwait).trans
      (State.tested_of_firstFailure _ (by simp [firstFailure, hnone hfull])))
  case granted =>
    refine ⟨_, hanswer ((State.holdCases_of_free hfree hwait).trans ((State.tested_of_all _ _ _
      (by simp [hleft hroom])).trans (by rw [hbody]; rfl))),
      State.grantHold_check hc, State.onlyEntry_grantHold u _ i, State.grantHold_holds u _ i, ?_⟩
    apply State.ext_fields <;> simp
  case waitBusy =>
    exact hanswer ((State.holdCases_of_other hq hne hwait).trans
      (State.tested_of_firstFailure _ (by simp [firstFailure, hbusy])))
  case waitLimit =>
    exact hanswer ((State.holdCases_of_other hq hne hwait).trans
      (State.tested_of_firstFailure _ (by simp [firstFailure, hidle, hnone hfull])))
  case queued =>
    refine ⟨_, hanswer ((State.holdCases_of_other hq hne hwait).trans (State.tested_of_all _ _ _
      (by simp [hidle, hleft hroom]))),
      State.joinList_check hc, State.onlyEntry_joinList u _ i, ?_, ?_⟩
    · simp [State.joinList, State.setWait]
    · apply State.ext_fields <;> simp [State.joinList, State.setWait]

/-! ### The end of a hold -/

section
variable {u : State} {i : Fin 64} {c : Check} {p : Port}

theorem State.dropHold_of_holder (hc : u.check i = some c) (hp : c.holder = some p) :
    u.dropHold i = (u.putCheck i (some { c with hold := none })).setCount p
      (u.holds.count.get p - 1) := by
  have hholder : u.holderOf i = some p := (State.holderOf_of_check hc).trans hp
  simp only [State.dropHold, hholder, State.modCheck_of_check _ _ _ _ hc]

/-- The channels after the write stream of a port on an entry is aborted. -/
theorem State.abortWrite_streams (u : State) (p : Port) (i : Fin 64) (r : AbortReason) :
    (u.abortWrite p i r).streams =
      u.streams.set p ((u.streams.get p).abortedOn .itemsWrite i r) := by
  refine PerPort.ext_get fun q => ?_
  rw [State.abortWrite, State.abortStream_streams_get, PerPort.get_set]

theorem State.abortWrite_attn (u : State) (p : Port) (i : Fin 64) (r : AbortReason) :
    (u.abortWrite p i r).attn = { u.attn with
      flags := u.attn.flags.set p (withFlag (u.attn.flags.get p)
        ((u.streams.get p).streamOn .itemsWrite i).isSome .streamEnd p) } := by
  have hflags : (u.abortWrite p i r).attn.flags = u.attn.flags.set p (withFlag
      (u.attn.flags.get p) ((u.streams.get p).streamOn .itemsWrite i).isSome .streamEnd p) :=
    PerPort.ext_get fun q => by rw [State.abortWrite, State.abortStream_flags_get, PerPort.get_set]
  have henables : (u.abortWrite p i r).attn.enables = u.attn.enables :=
    u.abortStream_enables p _ i r
  change (u.abortWrite p i r).attn = ⟨_, u.attn.enables⟩
  rw [← hflags, ← henables]

/-- A hold ends, its write stream is aborted, and LEASE_LOST is set where its lease ran out. -/
theorem State.holdDropped (hc : u.check i = some c) (hp : c.holder = some p) (lost : Bool) :
    HoldDropped u (if lost
      then ((u.dropHold i).abortWrite p i (.refused .notHolder)).raise p .leaseLost
      else (u.dropHold i).abortWrite p i (.refused .notHolder)) p i c lost := by
  have hdrop := State.dropHold_of_holder hc hp
  have hattn : ((u.dropHold i).abortWrite p i (.refused .notHolder)).attn = { u.attn with
      flags := u.attn.flags.set p (withFlag (u.attn.flags.get p)
        ((u.streams.get p).streamOn .itemsWrite i).isSome .streamEnd p) } := by
    rw [State.abortWrite_attn]
    simp
  have htable : ((u.dropHold i).abortWrite p i (.refused .notHolder)).table =
      (u.putCheck i (some { c with hold := none })).table := by
    rw [hdrop]
    simp [State.setCount]
  have hcheck (j : Fin 64) : ((u.dropHold i).abortWrite p i (.refused .notHolder)).check j =
      (u.putCheck i (some { c with hold := none })).check j := by
    rw [State.check, htable, State.check]
  have honly : OnlyEntry u ((u.dropHold i).abortWrite p i (.refused .notHolder)) i :=
    (u.onlyEntry_putCheck i _).trans (State.onlyEntry_of_table htable)
  cases lost with
  | false =>
    refine ⟨?_, honly, ?_, ?_, hattn, ?_⟩
    · exact (hcheck i).trans ((State.check_putCheck _ _ _ _).trans (if_pos rfl))
    · simp [hdrop, State.setCount]
    · simp [State.abortWrite_streams]
    · apply State.ext_fields <;> simp
  | true =>
    refine ⟨?_, honly.trans (State.onlyEntry_of_table (by simp)), ?_, ?_, ?_, ?_⟩
    · exact (hcheck i).trans ((State.check_putCheck _ _ _ _).trans (if_pos rfl))
    · simp [hdrop, State.setCount]
    · simp [State.abortWrite_streams]
    · simp only [if_true, State.raise_attn, hattn]
      simp [withFlag]
    · apply State.ext_fields <;> simp

theorem State.endHold_eq (u : State) (p : Port) (i : Fin 64) :
    u.endHold p i = ((u.dropHold i).abortWrite p i (.refused .notHolder)).endOfHold i := rfl

theorem State.expireLease_of_holder (h : u.holderOf i = some p) :
    u.expireLease i = (((u.dropHold i).abortWrite p i (.refused .notHolder)).raise p
      .leaseLost).endOfHold i := by
  simp only [State.expireLease, h]

/-! ### RELEASE -/

theorem State.releaseKeyOk_iff (u : State) (i : Fin 64) (key : Half) :
    u.releaseKeyOk i key = true ↔
      (Key.ofWire key).table = 0 ∨ ∃ c, u.check i = some c ∧ c.key = Key.ofWire key := by
  have hnamed : keyNamed key = false ↔ (Key.ofWire key).table = 0 := by simp [keyNamed]
  rw [State.releaseKeyOk, Bool.or_eq_true, Bool.not_eq_true', hnamed, decide_eq_true_iff,
    Option.map_eq_some_iff]

theorem releaseRule_of_index {index : Byte} {key : Half} (h : index.toNat = i.val)
    (hkey : (Key.ofWire key).table = 0 ∨ ∃ c, u.check i = some c ∧ c.key = Key.ofWire key) :
    releaseRule p index key u = u.releaseCases p i := by
  simp only [releaseRule, idx?_of_eq h]
  exact State.tested_of_all _ _ _ (by simp [(u.releaseKeyOk_iff i key).2 hkey])

theorem State.releaseCases_of_check (hc : u.check i = some c) : u.releaseCases p i =
    if c.holder = some p then (u.endHold p i).accept []
    else if p ∈ c.waiters then (u.leaveList p i).accept []
    else u.refuse .notHolder := by
  simp only [State.releaseCases, hc]

theorem State.leaveList_check (hc : u.check i = some c) :
    (u.leaveList p i).check i = some { c with waiters := c.waiters.filter fun q => q ≠ p } := by
  rw [State.leaveList, State.setWait, State.setHolds_check, State.check_modCheck, if_pos rfl, hc]
  rfl

theorem State.onlyEntry_leaveList (u : State) (p : Port) (i : Fin 64) :
    OnlyEntry u (u.leaveList p i) i :=
  (u.onlyEntry_modCheck i _).trans (State.onlyEntry_of_table rfl)

/-! ### LEASE_EXPIRY -/

theorem exec_leaseExpiry (i : Fin 64) (elapsed : Nat) (s : State) :
    exec (.leaseExpiry i elapsed) s = .next
      (if (s.advance elapsed).timebaseRuns && (s.advance elapsed).leaseDue i then
        ((s.advance elapsed).expireLease i).afterExpiry.relamp else s.advance elapsed) := rfl

theorem State.leaseDue_iff (u : State) (i : Fin 64) :
    u.leaseDue i = true ↔ ∃ c, u.check i = some c ∧ ∃ h, c.hold = some h ∧ h.lease = 0 := by
  unfold State.leaseDue
  cases u.check i with
  | none => simp
  | some c => cases hh : c.hold <;> simp [hh]

theorem State.timebaseRuns_iff (u : State) :
    u.timebaseRuns = true ↔ u.modes.resetHeld = false ∧ u.modes.mode ≠ .sleep := by
  simp [State.timebaseRuns]

theorem State.advance_modes_of (s : State) (dt : Nat) :
    (s.advance dt).modes.resetHeld = s.modes.resetHeld ∧
      (s.advance dt).modes.mode = s.modes.mode := by
  unfold State.advance
  (repeat' split) <;> exact ⟨rfl, rfl⟩

theorem State.afterExpiry_relamp (z : State) : z.afterExpiry.relamp = z.woken z.modes.mode := by
  unfold State.afterExpiry State.woken
  split <;> rfl

end

/-- Settles O30, request and expiry along who holds the entry and who waits for it. -/
theorem holdsEndByReleaseOrExpiry : Obligations.HoldsEndByReleaseOrExpiry := by
  unfold Obligations.HoldsEndByReleaseOrExpiry
  refine ⟨fun x index key s u he hs => ?release, fun i elapsed s => ?expiry⟩
  case release =>
    intro k
    refine ⟨fun hout => ?badField, fun i hindex => ⟨fun htable hother => ?noMatch,
      fun htable hfree => ?free, fun c hc hkey => ?check⟩⟩
    case badField =>
      refine exec_of_served rfl he hs ?_
      simp only [releaseRule, idx?_of_le hout]
      rfl
    case noMatch =>
      refine exec_of_served rfl he hs ?_
      simp only [releaseRule, idx?_of_eq hindex]
      have hbad : u.releaseKeyOk i key = false := by
        rw [Bool.eq_false_iff, Ne, State.releaseKeyOk_iff]
        rintro (h | ⟨c, hc, hkey⟩)
        · exact htable h
        · exact hother c hc hkey
      exact State.tested_of_firstFailure _ (by simp [firstFailure, hbad])
    case free =>
      refine exec_of_served rfl he hs ((releaseRule_of_index hindex (.inl htable)).trans ?_)
      simp only [State.releaseCases, hfree]
      rfl
    case check =>
      have hrule : releaseRule x.port index key u = _ :=
        (releaseRule_of_index hindex (hkey.imp id fun h => ⟨c, hc, h⟩)).trans
          (State.releaseCases_of_check hc)
      refine ⟨fun hp => ?_, fun hp hw => ?_, fun hp hw => ?_⟩
      · rw [if_pos hp] at hrule
        exact ⟨_, exec_of_served rfl he hs hrule, State.holdDropped hc hp false⟩
      · rw [if_neg hp, if_pos hw] at hrule
        refine ⟨_, exec_of_served rfl he hs hrule, State.leaveList_check hc,
          State.onlyEntry_leaveList u _ i, ?_, ?_⟩
        · simp [State.leaveList, State.setWait]
        · apply State.ext_fields <;> simp
      · rw [if_neg hp, if_neg hw] at hrule
        exact exec_of_served rfl he hs hrule
  case expiry =>
    intro u
    obtain ⟨hheld, hmode⟩ := s.advance_modes_of elapsed
    refine ⟨fun p c hreleased hawake hc hhold => ?_, fun h => ?_⟩
    · have hruns : u.timebaseRuns = true := u.timebaseRuns_iff.2 ⟨hheld ▸ hreleased, hmode ▸ hawake⟩
      have hdue : u.leaseDue i = true := (u.leaseDue_iff i).2 ⟨c, hc, _, hhold, rfl⟩
      have hp : c.holder = some p := by rw [Check.holder, hhold]; rfl
      refine ⟨_, ?_, State.holdDropped hc hp true⟩
      rw [exec_leaseExpiry, hruns, hdue, Bool.and_self, if_pos rfl, State.afterExpiry_relamp,
        State.expireLease_of_holder ((State.holderOf_of_check hc).trans hp)]
      have hmodes : ((((u.dropHold i).abortWrite p i (.refused .notHolder)).raise p
          .leaseLost).endOfHold i).modes = u.modes := by simp
      rw [hmodes, hmode]
      rfl
    · rw [exec_leaseExpiry, if_neg]
      rintro hboth
      obtain ⟨hruns, hdue⟩ := Bool.and_eq_true_iff.1 hboth
      obtain ⟨hreleased, hawake⟩ := u.timebaseRuns_iff.1 hruns
      obtain ⟨c, hc, g, hg, hzero⟩ := (u.leaseDue_iff i).1 hdue
      obtain h | h | h := h
      · rw [hheld, h] at hreleased
        cases hreleased
      · exact hawake (hmode.trans h)
      · exact h c hc g hg hzero

section
/-! ### The pass to a waiter -/

variable {i : Fin 64}

/-- Waiters that are passed over leave their waits with WAIT_ENDED. -/
theorem State.foldl_endWait_holds (l : List Port) (s : State) :
    (l.foldl State.endWait s).holds.count = s.holds.count ∧
      ∀ p, (l.foldl State.endWait s).holds.waits.get p =
        if p ∈ l then none else s.holds.waits.get p := by
  induction l generalizing s with
  | nil => simp
  | cons q rest ih =>
    obtain ⟨hcount, hwaits⟩ := ih (s.endWait q)
    refine ⟨hcount.trans (by simp [State.endWait, State.setWait]), fun p => ?_⟩
    rw [List.foldl_cons, hwaits]
    by_cases hp : p ∈ rest
    · simp [hp]
    · by_cases hq : p = q
      · simp [hq, State.endWait, State.setWait]
      · simp [hq, State.endWait, State.setWait]

theorem State.foldl_endWait_attn (l : List Port) (s : State) :
    (l.foldl State.endWait s).attn.enables = s.attn.enables ∧
      ∀ p, (l.foldl State.endWait s).attn.flags.get p =
        withFlag (s.attn.flags.get p) (l.contains p) .waitEnded p := by
  induction l generalizing s with
  | nil => simp
  | cons q rest ih =>
    obtain ⟨henables, hflags⟩ := ih (s.endWait q)
    refine ⟨henables.trans (by simp [State.endWait, State.setWait]), fun p => ?_⟩
    rw [List.foldl_cons, hflags]
    by_cases hq : p = q
    · subst hq
      cases hp : rest.contains p <;>
        simp [State.endWait, State.setWait, withFlag, BitVec.or_assoc]
    · simp [State.endWait, State.setWait, hq]

theorem State.foldl_endWait_table (l : List Port) (s : State) :
    (l.foldl State.endWait s).table = s.table :=
  foldl_keeps State.endWait State.table (fun u p => by simp) s l

/-- The waiters that hold 4 checks are passed over. -/
theorem State.grantWaiters_append (pre rest : List Port) (s : State)
    (h : ∀ p ∈ pre, 4 ≤ s.holds.count.get p) :
    State.grantWaiters i (pre ++ rest) s =
      State.grantWaiters i rest (pre.foldl State.endWait s) := by
  induction pre generalizing s with
  | nil => rfl
  | cons p more ih =>
    obtain ⟨hp, hmore⟩ := List.forall_mem_cons.1 h
    have hfull : ¬s.holds.count.get p < Config.holdsPerPort := Nat.not_lt.2 hp
    rw [List.cons_append, State.grantWaiters, if_neg hfull, List.foldl_cons]
    exact ih _ fun q hq => by simpa [State.endWait, State.setWait] using hmore q hq

/-- The end-of-hold actions once the pending image has been tried. -/
theorem State.endOfHold_of_check {v : State} {c : Check} (hc : (v.tryPending i).check i = some c) :
    v.endOfHold i = if (State.grantWaiters i c.waiters (v.tryPending i)).holderOf i = none
      then (State.grantWaiters i c.waiters (v.tryPending i)).scheduleDeltas
      else State.grantWaiters i c.waiters (v.tryPending i) := by
  simp only [State.endOfHold, hc]

/-- What passing over every waiter leaves. -/
theorem State.grantWaiters_of_full {t : State} {c : Check} (hc : t.check i = some c)
    (hfull : ∀ p ∈ c.waiters, 4 ≤ t.holds.count.get p) :
    let z := State.grantWaiters i c.waiters t
    z.check i = some { c with waiters := [] } ∧ OnlyEntry t z i ∧
      z.holds.count = t.holds.count ∧
      (∀ p, z.holds.waits.get p = if p ∈ c.waiters then none else t.holds.waits.get p) ∧
      (∀ p, z.attn.flags.get p = withFlag (t.attn.flags.get p) (c.waiters.contains p) .waitEnded p) ∧
      z.attn.enables = t.attn.enables := by
  intro z
  have hz : z = (c.waiters.foldl State.endWait t).modCheck i fun c => { c with waiters := [] } := by
    have happend := State.grantWaiters_append (i := i) c.waiters [] t hfull
    rwa [List.append_nil] at happend
  obtain ⟨hcount, hwaits⟩ := State.foldl_endWait_holds c.waiters t
  obtain ⟨henables, hflags⟩ := State.foldl_endWait_attn c.waiters t
  have htable := State.foldl_endWait_table c.waiters t
  have hpassed : (c.waiters.foldl State.endWait t).check i = some c := by
    rw [State.check, htable]
    exact hc
  rw [hz]
  refine ⟨?_, (State.onlyEntry_of_table htable).trans (State.onlyEntry_modCheck _ i _), ?_,
    fun p => ?_, fun p => ?_, ?_⟩
  · rw [State.check_modCheck, if_pos rfl, hpassed]
    rfl
  · simp [hcount]
  · simp [hwaits]
  · simp [hflags]
  · simp [henables]

/-- What the grant to the first waiter with room leaves. -/
theorem State.grantWaiters_of_room {t : State} {c : Check} {pre post : List Port} {q : Port}
    (hc : t.check i = some c) (hpre : ∀ p ∈ pre, 4 ≤ t.holds.count.get p)
    (hroom : t.holds.count.get q < 4) :
    let z := State.grantWaiters i (pre ++ q :: post) t
    z.check i = some { c with hold := t.freshHold q, waiters := post } ∧ OnlyEntry t z i ∧
      z.holds.count = t.holds.count.set q (t.holds.count.get q + 1) ∧
      (∀ p, z.holds.waits.get p = if p = q ∨ p ∈ pre then none else t.holds.waits.get p) ∧
      (∀ p, z.attn.flags.get p = withFlag (withFlag (t.attn.flags.get p)
        (pre.contains p) .waitEnded p) (decide (p = q)) .holdGranted p) ∧
      z.attn.enables = t.attn.enables := by
  intro z
  obtain ⟨hcount, hwaits⟩ := State.foldl_endWait_holds pre t
  obtain ⟨henables, hflags⟩ := State.foldl_endWait_attn pre t
  have htable := State.foldl_endWait_table pre t
  have hmodes : (pre.foldl State.endWait t).modes = t.modes :=
    foldl_keeps State.endWait State.modes (fun u p => by simp) t pre
  have hleft : (pre.foldl State.endWait t).holds.count.get q < Config.holdsPerPort := by
    rw [hcount]
    exact hroom
  have hz : z = ((((pre.foldl State.endWait t).grantHold q i).modCheck i
      fun c => { c with waiters := post }).setWait q none).raise q .holdGranted := by
    rw [show z = State.grantWaiters i (pre ++ q :: post) t from rfl,
      State.grantWaiters_append pre (q :: post) t hpre, State.grantWaiters, if_pos hleft]
  have hpassed : (pre.foldl State.endWait t).check i = some c := by
    rw [State.check, htable]
    exact hc
  rw [hz]
  refine ⟨?_, (State.onlyEntry_of_table htable).trans ((State.onlyEntry_grantHold _ q i).trans
    ((State.onlyEntry_modCheck _ i _).trans (State.onlyEntry_of_table rfl))), ?_,
    fun p => ?_, fun p => ?_, ?_⟩
  · rw [State.check_raise, State.setWait, State.setHolds_check, State.check_modCheck, if_pos rfl,
      State.grantHold_check hpassed, State.freshHold, hmodes]
    rfl
  · simp [State.setWait, State.grantHold_holds, hcount]
  · simp only [State.raise_frame, State.setWait, State.setHolds_holds, PerPort.get_set,
      State.modCheck_frame, State.grantHold_holds, hwaits]
    by_cases hp : p = q <;> simp [hp]
  · by_cases hp : p = q
    · subst hp
      simp [State.setWait, hflags]
    · simp [State.setWait, hflags, hp]
  · simp [State.setWait, henables]

end

/-- Settles O31, by the waiters that are passed over and the one that has room. -/
theorem endOfHoldPassesToWaiter : Obligations.EndOfHoldPassesToWaiter := by
  unfold Obligations.EndOfHoldPassesToWaiter
  intro v i t
  refine ⟨fun hnone => ?free, fun c hc hfree => ⟨fun hfull => ?full, ?room⟩⟩
  case free => simp only [State.endOfHold, show (v.tryPending i).check i = none from hnone, t]
  case full =>
    obtain ⟨hcheck, hrest⟩ := State.grantWaiters_of_full hc hfull
    have hholder : (State.grantWaiters i c.waiters t).holderOf i = none := by
      rw [State.holderOf_of_check hcheck, Check.holder, hfree]
      rfl
    obtain ⟨honly, hcount, hwaits, hflags, henables⟩ := hrest
    refine ⟨State.grantWaiters i c.waiters t, ?_, hcheck, honly, hcount, hwaits, hflags, henables, ?_⟩
    · rw [State.endOfHold_of_check hc, if_pos hholder]
    · apply State.ext_fields <;> simp
  case room =>
    intro pre q post hwaiters hpre hroom z
    obtain ⟨hcheck, hrest⟩ := State.grantWaiters_of_room (post := post) hc hpre hroom
    have hholder : (State.grantWaiters i (pre ++ q :: post) t).holderOf i ≠ none := by
      rw [State.holderOf_of_check hcheck]
      simp [Check.holder]
    have hz : z = State.grantWaiters i (pre ++ q :: post) t := by
      rw [← hwaiters] at hholder ⊢
      exact (State.endOfHold_of_check hc).trans (if_neg hholder)
    rw [hz]
    obtain ⟨honly, hcount, hwaits, hflags, henables⟩ := hrest
    refine ⟨hcheck, honly, hcount, hwaits, hflags, henables, ?_⟩
    apply State.ext_fields <;> simp

end Sys2Proof.Machine
end

section
/-!
SUPPORT. What tenders move on a check, entry into CONFLICT (R137), and the ends of POSTED and TAKEN
descriptors: TENDER_CANCEL, TENDER_REAP, TENDER_STATUS and the tender timer (R95 to R101).
-/

namespace Sys2Proof.Machine

/-! ### Amounts -/

theorem onShare_eq (plan : Option SplitPlan) (k : Nat) (f : Share → Share) :
    onShare plan k f = plan.map fun p => p.modShare k f := by
  cases plan with
  | none => rfl
  | some p => cases k <;> rfl

theorem Check.unreserve_eq (c : Check) (share base : Nat) :
    c.unreserve share base = { c with
      reserved := c.reserved - base
      plan := onShare c.plan share fun sh => { sh with reserved := sh.reserved - base } } := by
  rw [onShare_eq]
  rfl

theorem Check.reserve_eq (c : Check) (share base : Nat) :
    c.reserve share base = { c with
      reserved := c.reserved + base
      plan := onShare c.plan share fun sh => { sh with reserved := sh.reserved + base } } := by
  rw [onShare_eq]
  rfl

theorem Check.approveShare_eq (c : Check) (share amount tip : Nat) :
    (c.approve amount tip).approveShare share amount tip = { c with
      approved := addApproved c.approved amount
      tips := min 4294967295 (c.tips + tip)
      plan := onShare c.plan share fun sh => { sh with
        approved := addApproved sh.approved amount
        tips := min 4294967295 (sh.tips + tip) } } := by
  rw [onShare_eq]
  rfl

/-! ### Entry into CONFLICT -/

/-- The bases of some descriptors on one share. -/
def basesOn (l : List Tender) (share : Nat) : Nat :=
  ((l.filter fun t => decide (t.share = share)).map Tender.base).sum

theorem basesOn_cons (t : Tender) (l : List Tender) (share : Nat) :
    basesOn (t :: l) share = (if t.share = share then t.base else 0) + basesOn l share := by
  unfold basesOn
  by_cases h : t.share = share <;> simp [h]

/-- A plan with the bases of some descriptors released share by share. -/
def SplitPlan.released (p : SplitPlan) (l : List Tender) : SplitPlan :=
  { p with shares := p.shares.mapIdx fun k sh =>
      { sh with reserved := sh.reserved - basesOn l (k + 1) } }

theorem SplitPlan.released_nil (p : SplitPlan) : p.released [] = p := by
  have hshares : (p.released []).shares = p.shares := by
    refine List.ext_getElem? fun k => ?_
    simp only [SplitPlan.released, List.getElem?_mapIdx]
    cases p.shares[k]? <;> rfl
  exact congrArg (SplitPlan.mk p.basis) hshares

theorem SplitPlan.released_cons (p : SplitPlan) (t : Tender) (l : List Tender) :
    (p.modShare t.share fun sh => { sh with reserved := sh.reserved - t.base }).released l =
      p.released (t :: l) := by
  have hshares : ((p.modShare t.share fun sh =>
      { sh with reserved := sh.reserved - t.base }).released l).shares =
        (p.released (t :: l)).shares := by
    refine List.ext_getElem? fun k => ?_
    simp only [SplitPlan.released, List.getElem?_mapIdx, basesOn_cons]
    cases hshare : t.share with
    | zero => simp [SplitPlan.modShare]
    | succ j =>
      simp only [SplitPlan.modShare, List.getElem?_modify]
      cases p.shares[k]? with
      | none => simp
      | some sh =>
        by_cases hjk : j = k
        · simp [hjk, Nat.sub_sub]
        · simp [hjk]
  cases hshare : t.share with
  | zero =>
    rw [hshare] at hshares
    exact congrArg (SplitPlan.mk p.basis) hshares
  | succ j =>
    rw [hshare] at hshares
    exact congrArg (SplitPlan.mk p.basis) hshares

/-- The reservations of some descriptors are released from a check. -/
theorem foldl_unreserve_eq (l : List Tender) (c : Check) :
    l.foldl (fun c t => c.unreserve t.share t.base) c = { c with
      reserved := c.reserved - (l.map Tender.base).sum
      plan := c.plan.map fun p => p.released l } := by
  induction l generalizing c with
  | nil => simp [SplitPlan.released_nil]
  | cons t rest ih =>
    rw [List.foldl_cons, ih, Check.unreserve_eq, onShare_eq]
    simp [Nat.sub_sub, Function.comp_def, SplitPlan.released_cons]

theorem State.onlyEntry_raise (s : State) (p : Port) (cause : Cause) (i : Fin 64) :
    OnlyEntry s (s.raise p cause) i := State.onlyEntry_of_table rfl

theorem State.onlyEntry_cancelPosted (s : State) (i : Fin 64) :
    OnlyEntry s (s.cancelPosted i) i := by
  unfold State.cancelPosted
  exact (State.onlyEntry_of_table (s := s) (t := s.setRing _) rfl).trans
    (State.onlyEntry_modCheck _ i _)

/-- Settles O40, by the descriptors that are POSTED on the entry. -/
theorem conflictCancelsPosted : Obligations.ConflictCancelsPosted := by
  unfold Obligations.ConflictCancelsPosted
  intro u i kind c hc hit bases w
  have hbases (share : Nat) : basesOn (u.ring.tenders.filter hit) share = bases share := by
    simp [basesOn, bases, List.filter_filter, Bool.and_comm]
  have hcheck (j : Fin 64) : w.check j = if j = i then
      some ((u.ring.tenders.filter hit).foldl (fun c t => c.unreserve t.share t.base)
        { c with state := .conflict kind, overpaid := false }) else u.check j := by
    simp only [w, State.enterConflict, State.cancelPosted, State.check_raise, State.check_modCheck,
      State.setRing_check, State.modCheck_frame]
    by_cases hj : j = i
    · simp only [hj, if_true, hc, Option.map_some]
      rfl
    · simp [hj]
  refine ⟨?check, ?only, ?ring, ?attn, ?frame⟩
  case check =>
    rw [hcheck, if_pos rfl, foldl_unreserve_eq]
    simp only [SplitPlan.released, hbases]
  case only =>
    exact (u.onlyEntry_modCheck i _).trans ((State.onlyEntry_cancelPosted _ i).trans
      (State.onlyEntry_raise _ _ _ i))
  case ring =>
    simp only [w, State.enterConflict, State.raise_frame, State.cancelPosted_ring,
      State.modCheck_frame]
    rfl
  case attn =>
    simp only [w, State.enterConflict, State.raise_attn]
    simp [PerPort.set, PerPort.get, State.cancelPosted]
  case frame => apply State.ext_fields <;> simp [w]

end Sys2Proof.Machine
end

section
/-!
SUPPORT. TENDER_CANCEL, TENDER_REAP, TENDER_STATUS and the tender timer (R95 to R101).
-/

namespace Sys2Proof.Machine

section
variable {u : State}

/-! ### The descriptor with a serial -/

theorem State.tenderWith_of_first {pre post : List Tender} {t : Tender} {n : Nat}
    (hring : u.ring.tenders = pre ++ t :: post) (hpre : ∀ d ∈ pre, d.serial ≠ n)
    (ht : t.serial = n) : u.tenderWith n = some (pre.length, t) := by
  have hfind : u.ring.tenders.findIdx? (fun t => decide (t.serial = n)) = some pre.length := by
    rw [hring]
    exact findIdx?_of_first (fun d hd => decide_eq_false (hpre d hd)) (decide_eq_true ht)
  rw [State.tenderWith, hfind, hring]
  simp

theorem State.tenderWith_of_none {n : Nat} (h : ∀ t ∈ u.ring.tenders, t.serial ≠ n) :
    u.tenderWith n = none := by
  rw [State.tenderWith, List.findIdx?_eq_none_iff.2 fun t ht => decide_eq_false (h t ht)]

theorem State.lateWith_of_first {pre post : List LateEntry} {e : LateEntry} {n : Nat}
    (hlate : u.ring.late = pre ++ e :: post) (hpre : ∀ d ∈ pre, d.serial ≠ n)
    (he : e.serial = n) : u.lateWith n = some e := by
  rw [State.lateWith, hlate, List.find?_append,
    List.find?_eq_none.2 fun d hd => by simpa using hpre d hd, List.find?_cons_of_pos (by simp [he])]
  rfl

theorem State.lateWith_isSome (u : State) (n : Nat) :
    (u.lateWith n).isSome = u.ring.late.any fun e => decide (e.serial = n) := by
  rw [State.lateWith, Bool.eq_iff_iff, List.find?_isSome]
  simp

/-- A descriptor replaced at its place in the ring. -/
theorem State.setTender_of_place {pre post : List Tender} {t : Tender} (t' : Tender)
    (hring : u.ring.tenders = pre ++ t :: post) :
    u.setTender pre.length t' =
      u.setRing { u.ring with tenders := pre ++ t' :: post } := by
  rw [State.setTender, hring, set_at_length]

/-! ### TENDER_CANCEL -/

theorem tenderCancelRule_of_some {serial : Half} {k : Nat} {t : Tender} (h0 : serial ≠ 0)
    (h : u.tenderWith serial.toNat = some (k, t)) :
    (t.phase = .posted → tenderCancelRule serial u =
      (u.cancelTender k t).accept (be1 ((u.cancelTender k t).entryState t.index).code)) ∧
    (∀ g, t.phase = .taken g → tenderCancelRule serial u =
      ((u.setTender k { t with cancelRequested := true }).raise .tender .cancelRequest).accept []) ∧
    ∀ e, t.phase = .finished e → tenderCancelRule serial u = u.refuse .state := by
  refine ⟨fun hp => ?_, fun g hp => ?_, fun e hp => ?_⟩ <;>
  · refine (State.tested_of_all _ _ _ (by simpa using h0)).trans ?_
    simp only [h, hp]

theorem State.entryState_of_check {i : Fin 64} {c : Check} (hc : u.check i = some c) :
    u.entryState i = c.state.entry := by
  simp only [State.entryState, hc]

/-- A reservation is released and the check evaluated. -/
theorem Check.released_eq (c : Check) (share base : Nat) :
    (c.unreserve share base).afterAmounts = Check.reevaluated { c with
      reserved := c.reserved - base
      plan := onShare c.plan share fun sh => { sh with reserved := sh.reserved - base } } := by
  rw [Check.reevaluated_eq, Check.unreserve_eq]

end

/-- Settles O42, request by request, along the descriptor that carries the serial. -/
theorem tenderCancelReapStatus : Obligations.TenderCancelReapStatus := by
  unfold Obligations.TenderCancelReapStatus
  intro x s u he
  refine ⟨fun hs => ?zero, fun serial hs h0 => ⟨fun hnone => ?unknown,
    fun pre t post hring hserial hpre => ?cancel⟩, fun hs => ⟨fun t rest hring =>
      ⟨fun hfinished => ?reap, fun hopen => ?unreaped⟩, fun hempty => ?empty⟩, fun serial hs => ?status⟩
  case zero => exact exec_of_served rfl he hs (State.tested_of_firstFailure _ rfl)
  case unknown =>
    refine exec_of_served rfl he hs ((State.tested_of_all _ _ _ (by simpa using h0)).trans ?_)
    simp only [State.tenderWith_of_none hnone]
    rfl
  case cancel =>
    obtain ⟨hposted, htaken, hfinished⟩ :=
      tenderCancelRule_of_some h0 (State.tenderWith_of_first hring hpre hserial)
    refine ⟨fun c hp hc => ?posted, fun g hp => ?taken, fun e hp => ?finished⟩
    case posted =>
      intro d
      have hcancel : u.cancelTender pre.length t =
          (u.setRing { u.ring with
            tenders := pre ++ { t with phase := .finished .cancelled } :: post }).putCheck t.index
              (some d) := by
        rw [State.cancelTender, State.setTender_of_place _ hring,
          State.modCheck_of_check _ _ _ c (by simpa using hc), Check.released_eq]
      have hcheck : (u.cancelTender pre.length t).check t.index = some d := by
        rw [hcancel, State.check_putCheck, if_pos rfl]
      refine ⟨_, exec_of_served rfl he hs ((hposted hp).trans ?_), hcheck, ?_, ?_, ?_⟩
      · rw [State.entryState_of_check hcheck]
        rfl
      · rw [hcancel]
        exact (State.onlyEntry_of_table rfl).trans (State.onlyEntry_putCheck _ _ _)
      · rw [hcancel]
        simp
      · rw [hcancel]
        apply State.ext_fields <;> simp
    case taken =>
      refine exec_of_served rfl he hs ((htaken g hp).trans ?_)
      rw [State.setTender_of_place _ hring]
      rfl
    case finished => exact exec_of_served rfl he hs (hfinished e hp)
  case reap =>
    refine exec_of_served rfl he hs ?_
    simp only [tenderReapRule, hring]
    exact State.tested_of_all _ _ _ (by simp [hfinished])
  case unreaped =>
    refine exec_of_served rfl he hs ?_
    simp only [tenderReapRule, hring]
    exact State.tested_of_firstFailure _ (by simp [firstFailure, hopen])
  case empty =>
    refine exec_of_served rfl he hs ?_
    simp only [tenderReapRule, hempty]
    rfl
  case status =>
    intro late
    refine ⟨fun hzero => ?_, fun h0 => ⟨fun pre t post hring hserial hpre => ?_, fun hnone =>
      ⟨fun pre e post hlate hserial hpre => ?_, fun hlate => ?_⟩⟩⟩
    · subst hzero
      exact exec_of_served rfl he hs (State.tested_of_firstFailure _ rfl)
    all_goals
      refine exec_of_served rfl he hs ((State.tested_of_all _ _ _ (by simpa using h0)).trans ?_)
    · simp only [State.tenderWith_of_first hring hpre hserial, State.lateWith_isSome]
      rfl
    · simp only [State.tenderWith_of_none hnone, State.lateWith_of_first hlate hpre hserial]
      rfl
    · have hwith : u.lateWith serial.toNat = none := by
        rw [← Option.not_isSome_iff_eq_none, State.lateWith_isSome, Bool.not_eq_true]
        exact hlate
      simp only [State.tenderWith_of_none hnone, hwith]
      rfl

/-! ### The tender timer -/

/-- A table that is another's but for one check. -/
theorem State.placed_of_table {u w : State} {i : Fin 64} {o : Option Check}
    (h : w.table = (u.putCheck i o).table) : w.check i = o ∧ OnlyEntry u w i := by
  refine ⟨?_, (u.onlyEntry_putCheck i o).trans (State.onlyEntry_of_table h)⟩
  rw [State.check, h]
  exact (State.check_putCheck u i i o).trans (if_pos rfl)

/-- The TAKEN tender times out as the statements say it. -/
theorem State.timedOut_timeOutTaken {u : State} {pre post : List Tender} {t : Tender} {g : Stage}
    {c : Check} (hring : u.ring.tenders = pre ++ t :: post) (hpre : ∀ d ∈ pre, d.isTaken = false)
    (ht : t.phase = .taken g) (hc : u.check t.index = some c) (expired : Bool) :
    TimedOut u (u.timeOutTaken expired) pre post t c expired := by
  have hfirst := State.takenTender_of_first hring hpre (Tender.isTaken_of_phase ht)
  have hout : u.timeOutTaken expired =
      let s1 := u.setRing { u.ring with
        tenders := pre ++ { t with phase := .finished .timedOut } :: post
        timer := none
        late := pushLate u.ring.late t.lateEntry }
      let s2 := s1.putCheck t.index (some (Check.reevaluated { c with
        reserved := c.reserved - t.base
        plan := onShare c.plan t.share (fun sh => { sh with reserved := sh.reserved - t.base }) }))
      let s3 := (s2.countTotals (fun n => { n with timeouts := bumpCount n.timeouts })).raise
        .console .tenderFinished
      if expired then s3.raise .tender .tenderExpired else s3 := by
    simp only [State.timeOutTaken, hfirst]
    rw [hring, set_at_length, State.modCheck_of_check _ _ _ c (by simpa using hc),
      Check.released_eq]
  have htable : (u.timeOutTaken expired).table = (u.putCheck t.index (some (Check.reevaluated
      { c with
        reserved := c.reserved - t.base
        plan := onShare c.plan t.share (fun sh => { sh with reserved := sh.reserved - t.base })
      }))).table := by
    rw [hout]
    cases expired <;> simp <;> rfl
  obtain ⟨hcheck, honly⟩ := State.placed_of_table htable
  refine ⟨?ring, hcheck, honly, ?totals, ?attn, ?frame⟩
  all_goals rw [hout]
  case ring => cases expired <;> simp <;> rfl
  case totals => cases expired <;> simp <;> rfl
  case attn => cases expired <;> simp <;> rfl
  case frame => cases expired <;> (apply State.ext_fields <;> simp)

theorem exec_tenderTimeout (elapsed : Nat) (s : State) :
    exec (.tenderTimeout elapsed) s = .next
      (if (s.advance elapsed).timebaseRuns && timerDue (s.advance elapsed).ring.timer then
        ((s.advance elapsed).timeOutTaken true).afterExpiry.relamp else s.advance elapsed) := rfl

/-- Settles O43, by the timer that has run out and the descriptor that is TAKEN. -/
theorem tenderTimeoutEntersLateWindow : Obligations.TenderTimeoutEntersLateWindow := by
  unfold Obligations.TenderTimeoutEntersLateWindow
  intro s elapsed u
  obtain ⟨hheld, hmode⟩ := s.advance_modes_of elapsed
  refine ⟨fun h => ?_, fun pre t post g c hreleased hawake htimer hring hpre ht hc => ?_⟩
  · rw [exec_tenderTimeout, if_neg]
    rintro hboth
    obtain ⟨hruns, hdue⟩ := Bool.and_eq_true_iff.1 hboth
    obtain ⟨hreleased, hawake⟩ := u.timebaseRuns_iff.1 hruns
    obtain h | h | h := h
    · rw [hheld, h] at hreleased
      cases hreleased
    · exact hawake (hmode.trans h)
    · exact h (of_decide_eq_true hdue)
  · have hruns : u.timebaseRuns = true := u.timebaseRuns_iff.2 ⟨hheld ▸ hreleased, hmode ▸ hawake⟩
    have hdue : timerDue u.ring.timer = true := decide_eq_true htimer
    refine ⟨u.timeOutTaken true, ?_, State.timedOut_timeOutTaken hring hpre ht hc true⟩
    have hmodes : (u.timeOutTaken true).modes = u.modes := by simp
    rw [exec_tenderTimeout, hruns, hdue, Bool.and_self, if_pos rfl, State.afterExpiry_relamp, hmodes,
      hmode]

end Sys2Proof.Machine
end

section
/-!
SUPPORT. TENDER_POST of both classes (R85 to R88, R115).
-/

namespace Sys2Proof.Machine

theorem tipMode?_of_postInRange {w : PostWire} {m : TipMode} (h : PostInRange w m) :
    tipMode? w.tipMode w.fixedTip = some m := ((postInRange_iff w m).1 h).2

/-- A check that is placed twice is the one placed last. -/
theorem State.putCheck_putCheck (s : State) (i : Fin 64) (a b : Option Check) :
    (s.putCheck i a).putCheck i b = s.putCheck i b := by
  simp [State.putCheck, State.setTable]

/-! ### Tests -/

section
variable {u : State} {index : Byte} {key : Half} {i : Fin 64} {c : Check} {post : PostWire}

theorem firstFailure_postTests {o : ReplyOutcome} {fields : Prop}
    (h : FailsFirst (postTests u c post.share.toNat post.base.toNat fields) o) :
    (¬fields ∧ o = .badField) ∨
      (fields ∧ firstFailure (u.postTests c post.share.toNat post.base.toNat) = some o) := by
  by_cases hf : fields
  · exact .inr ⟨hf, (postTests_iff u c _ _ o fields hf).1 h⟩
  · obtain h | ⟨hyes, -⟩ := h
    · exact .inl h
    · exact absurd hyes hf

theorem postCardRule_refused {cls : Byte} {o : ReplyOutcome} (hn : u.Names index key i c)
    (h : FailsFirst (postTests u c post.share.toNat post.base.toNat
      (cls = 1 ∧ ∃ m, PostInRange post m)) o) :
    postCardRule index key cls post u = u.refuse o := by
  obtain ⟨hnot, rfl⟩ | ⟨⟨hcls, hfields⟩, htests⟩ := firstFailure_postTests h
  · refine State.tested_of_firstFailure _ ?_
    have hbad : (decide (cls = 1) && postFieldsOk .card post) = false := by
      rw [Bool.eq_false_iff, Ne, Bool.and_eq_true, decide_eq_true_iff, ← exists_postInRange_iff]
      exact hnot
    rw [hbad]
    rfl
  · exact (State.tested_of_all _ _ _ (by simp [hcls, (exists_postInRange_iff post).1 hfields])).trans
      ((State.onNamed_of_names hn).trans (State.tested_of_firstFailure _ htests))

theorem postCashRule_refused {o : ReplyOutcome} (hn : u.Names index key i c)
    (h : FailsFirst (postTests u c post.share.toNat post.base.toNat
      (∃ m, PostInRange post m ∧ m ≠ .prompt)) o) :
    postCashRule index key post u = u.refuse o := by
  obtain ⟨hnot, rfl⟩ | ⟨hfields, htests⟩ := firstFailure_postTests h
  · refine State.tested_of_firstFailure _ ?_
    have hbad : postFieldsOk .cash post = false := by
      rw [Bool.eq_false_iff, Ne, ← exists_postInRange_cash_iff]
      exact hnot
    rw [hbad]
    rfl
  · exact (State.tested_of_all _ _ _ (by simp [(exists_postInRange_cash_iff post).1 hfields])).trans
      ((State.onNamed_of_names hn).trans (State.tested_of_firstFailure _ htests))

/-- What a chargeable check says of the tests on share and amount. -/
theorem MayCharge.fits {share base : Nat} (h : MayCharge c share base) :
    ((c.plan = none → share = 0) ∧ (∀ p ∈ c.plan, 1 ≤ share ∧ share ≤ p.shares.length)) ∧
      (c.approved + c.reserved + base ≤ c.due ∧
        (∀ p ∈ c.plan, ∀ sh, p.shares[share - 1]? = some sh →
          sh.approved + sh.reserved + base ≤ sh.target)) := by
  obtain ⟨-, -, hdue, hplan⟩ := h
  cases hp : c.plan with
  | none =>
    rw [hp] at hplan
    exact ⟨⟨fun _ => hplan, fun _ h => (nomatch h)⟩, hdue, fun _ h => (nomatch h)⟩
  | some p =>
    rw [hp] at hplan
    obtain ⟨sh, hpos, hsh, htarget⟩ := hplan
    have hlt := (List.getElem?_eq_some_iff.1 hsh).1
    refine ⟨⟨fun h => (nomatch h), fun q hq => ?_⟩, hdue, fun q hq sh' hsh' => ?_⟩
    · cases hq
      exact ⟨hpos, by omega⟩
    · cases hq
      rw [hsh] at hsh'
      cases hsh'
      exact htarget

/-- A chargeable check is refused only for the ring and the queue. -/
theorem MayCharge.refused {share base : Nat} (h : MayCharge c share base) {fields : Prop}
    (hf : fields) :
    (16 ≤ u.ring.tenders.length → FailsFirst (postTests u c share base fields) .ringFull) ∧
      (u.ring.tenders.length < 16 → 48 < u.commitments + 1 →
        FailsFirst (postTests u c share base fields) .uplinkFull) := by
  obtain ⟨hfits, howes⟩ := h.fits
  obtain ⟨hhold, hlive, -⟩ := h
  refine ⟨fun hfull => ?_, fun hroom hfull => ?_⟩
  · exact .inr ⟨hf, .inr ⟨hhold, .inr ⟨hlive, .inr ⟨hfits, .inr ⟨howes,
      .inl ⟨Nat.not_lt.2 hfull, rfl⟩⟩⟩⟩⟩⟩
  · exact .inr ⟨hf, .inr ⟨hhold, .inr ⟨hlive, .inr ⟨hfits, .inr ⟨howes, .inr ⟨hroom,
      .inl ⟨Nat.not_le.2 hfull, rfl⟩⟩⟩⟩⟩⟩⟩

theorem MayCharge.pass {share base : Nat} (h : MayCharge c share base)
    (hring : u.ring.tenders.length < 16) (hroom : u.commitments + 1 ≤ 48) :
    ∀ t ∈ u.postTests c share base, t.1 = true := by
  obtain ⟨hfits, howes⟩ := h.fits
  obtain ⟨hhold, hlive, -⟩ := h
  refine (firstFailure_eq_none_iff _).1 (firstFailure_eq_none_of
    (fun o => postTests_iff u c share base o True trivial) ?_)
  simp only [postTests, List.forall_mem_cons]
  exact ⟨trivial, hhold, hlive, hfits, howes, hring, hroom, fun _ h => nomatch h⟩

theorem MayCharge.live {share base : Nat} (h : MayCharge c share base) : c.state.Live := h.2.1

/-! ### CARD -/

/-- The check after a CARD tender is posted. -/
def Check.charged (u : State) (c : Check) (share base : Nat) : Check :=
  { c with
    reserved := c.reserved + base, state := .tendering, overpaid := false
    plan := onShare c.plan share (fun sh => { sh with reserved := sh.reserved + base })
    hold := u.freshHold .console }

theorem Check.reserve_afterAmounts {share base : Nat} (h : MayCharge c share base) (hb : 1 ≤ base) :
    { (c.reserve share base).afterAmounts with hold := u.freshHold .console } =
      c.charged u share base := by
  obtain ⟨-, hlive, hdue, -⟩ := h
  have hover : decide (c.due < c.approved) = false := decide_eq_false (by omega)
  have hstate : evaluatedState (c.reserved + base) c.due c.approved = .tendering :=
    if_pos (by omega)
  rw [Check.reserve_eq, Check.afterAmounts_of_live (c := { c with
    reserved := c.reserved + base
    plan := onShare c.plan share fun sh => { sh with reserved := sh.reserved + base } }) hlive]
  simp only [Check.evaluate, hstate, hover]
  rfl

theorem State.postCard_eq (hc : u.check i = some c) (w : PostWire) (m : TipMode)
    (h : MayCharge c w.share.toNat w.base.toNat) (hb : 1 ≤ w.base.toNat) :
    u.postCard i c w m = ((u.pushTender (u.newTender i c .card w m .posted)).putCheck i
      (some (c.charged u w.share.toNat w.base.toNat))).raise .tender .tenderPosted := by
  have hpushed : (u.pushTender (u.newTender i c .card w m .posted)).check i = some c := by
    simpa [State.pushTender] using hc
  have hplaced : ((u.pushTender (u.newTender i c .card w m .posted)).putCheck i
      (some (c.reserve w.share.toNat w.base.toNat).afterAmounts)).check i = _ :=
    (State.check_putCheck _ i i _).trans (if_pos rfl)
  have hhold : (c.reserve w.share.toNat w.base.toNat).afterAmounts.holder = some .console :=
    (Check.holder_afterAmounts _).trans h.1
  rw [State.postCard, State.modCheck_of_check _ _ _ c hpushed,
    State.restartLease_of_holder hplaced hhold, State.putCheck_putCheck,
    ← Check.reserve_afterAmounts (u := u) h hb]
  rfl

/-! ### CASH -/

/-- The check after a CASH tender is posted. -/
def Check.paid (u : State) (c : Check) (share base tip : Nat) : Check :=
  { c with
    approved := addApproved c.approved base, tips := min 4294967295 (c.tips + tip)
    state := stateOf c.reserved c.due (addApproved c.approved base)
    overpaid := decide (c.due < addApproved c.approved base)
    plan := onShare c.plan share (fun sh => { sh with
      approved := addApproved sh.approved base, tips := min 4294967295 (sh.tips + tip) })
    pendingUplink := c.pendingUplink + 1, hold := u.freshHold .console }

theorem Check.approve_afterAmounts (hlive : c.state.Live) (share base tip : Nat) :
    { ((c.approve base tip).approveShare share base tip).afterAmounts with
      pendingUplink := c.pendingUplink + 1, hold := u.freshHold .console } =
      c.paid u share base tip := by
  rw [Check.approveShare_eq, Check.afterAmounts_of_live (c := { c with
    approved := addApproved c.approved base
    tips := min 4294967295 (c.tips + tip)
    plan := onShare c.plan share fun sh => { sh with
      approved := addApproved sh.approved base
      tips := min 4294967295 (sh.tips + tip) } }) hlive]
  rfl

@[simp] theorem State.countTotals_table (s : State) (f : Totals → Totals) :
    (s.countTotals f).table = s.table := rfl

@[simp] theorem State.countTotals_totals (s : State) (f : Totals → Totals) :
    (s.countTotals f).totals = { s.totals with live := f s.totals.live } := rfl

theorem State.postBody_of_check {t : State} {d : Check} (hd : t.check i = some d) (seq : Nat) :
    u.postBody t i seq = be2 u.ring.nextSerial ++
      be1 ((u.ring.retireIdx + u.ring.tenders.length) % 16) ++ be1 d.state.entry.code ++ be2 seq := by
  simp only [State.postBody, State.entryState_of_check hd]
  rfl

theorem State.postCash_effect (hc : u.check i = some c) (w : PostWire) (m : TipMode)
    (hhold : c.holder = some .console) (hlive : c.state.Live) :
    (u.postCash i c w m).check i = some (c.paid u w.share.toNat w.base.toNat m.fixedTip) ∧
      OnlyEntry u (u.postCash i c w m) i := by
  have hpushed (t : Tender) : (u.pushTender t).check i = some c := by
    simpa [State.pushTender] using hc
  have hheld : ((c.approve w.base.toNat m.fixedTip).approveShare w.share.toNat w.base.toNat
      m.fixedTip).afterAmounts.holder = some .console := (Check.holder_afterAmounts _).trans hhold
  have hpending : ((c.approve w.base.toNat m.fixedTip).approveShare w.share.toNat w.base.toNat
      m.fixedTip).afterAmounts.pendingUplink = c.pendingUplink := by
    unfold Check.afterAmounts
    split <;> rfl
  refine ⟨?check, ?only⟩
  all_goals unfold State.postCash; dsimp only
  case check =>
    rw [State.restartLease_check (p := .console) (d := { ((c.approve w.base.toNat
        m.fixedTip).approveShare w.share.toNat w.base.toNat m.fixedTip).afterAmounts with
          pendingUplink := c.pendingUplink + 1 }) ?_ hheld]
    · rw [← Check.approve_afterAmounts (u := u) hlive]
      simp [State.pushTender]
    · simp only [State.countTotals, State.setTotals_check, State.appendRecord_check, if_true,
        State.check_modCheck, hpushed, Option.map_some, hpending]
  case only =>
    exact (State.onlyEntry_of_table (s := u) (t := u.pushTender (u.newTender i c .cash w m
        (.finished (.approved ⟨w.base.toNat, m.fixedTip, none, false, false⟩)))) rfl).trans
      ((State.onlyEntry_modCheck _ i _).trans ((State.onlyEntry_appendRecord _ i _ _).trans
        ((State.onlyEntry_of_table (State.countTotals_table _ _)).trans
          (State.onlyEntry_restartLease _ i))))

end

/-- Settles O36, class by class. -/
theorem tenderPostReservesOrSettles : Obligations.TenderPostReservesOrSettles := by
  unfold Obligations.TenderPostReservesOrSettles
  refine ⟨fun x index key post s u i c he hs hn => ⟨fun cls o h => exec_of_served rfl he hs
    (postCardRule_refused hn h), fun o h => exec_of_served rfl he hs (postCashRule_refused hn h)⟩, ?_⟩
  intro x index key post s u i c m he hs hn hrange hcharge base share slot posted
  obtain ⟨-, -, hc, -⟩ := id hn
  have hmode := tipMode?_of_postInRange hrange
  have hb : 1 ≤ post.base.toNat := hrange.2.1
  have hcard : (1 : Byte) = 1 ∧ ∃ m, PostInRange post m := ⟨rfl, m, hrange⟩
  have hcash (hm : m ≠ .prompt) : ∃ m, PostInRange post m ∧ m ≠ .prompt := ⟨m, hrange, hm⟩
  obtain ⟨hringFull, huplinkFull⟩ := hcharge.refused (u := u) hcard
  refine ⟨fun h => exec_of_served rfl he hs (postCardRule_refused hn (hringFull h)),
    fun h h' => exec_of_served rfl he hs (postCardRule_refused hn (huplinkFull h h')),
    fun hring hroom => ?card, fun hm => ?prompt,
    fun hm h => exec_of_served rfl he hs (postCashRule_refused hn
      ((hcharge.refused (hcash hm)).1 h)),
    fun hm h h' => exec_of_served rfl he hs (postCashRule_refused hn
      ((hcharge.refused (hcash hm)).2 h h')), fun hm hring hroom => ?cash⟩
  case card =>
    have hposted := State.postCard_eq hc post m hcharge hb
    obtain ⟨hcheck, honly⟩ := State.placed_of_table (u := u) (w := u.postCard i c post m) (i := i)
      (o := some (c.charged u share base)) (by rw [hposted]; rfl)
    refine ⟨_, exec_of_served rfl he hs ((State.tested_of_all _ _ _ ?tests).trans
      ((State.onNamed_of_names hn).trans ((State.tested_of_all _ _ _
        (hcharge.pass hring hroom)).trans ?answer))), ?ring, hcheck, honly, ?attn, ?frame⟩
    case tests => simp [(exists_postInRange_iff post).1 ⟨m, hrange⟩]
    case answer =>
      rw [hmode, Option.getD_some]
      dsimp only [State.accept]
      rw [State.postBody_of_check hcheck]
      rfl
    case ring => rw [hposted]; rfl
    case attn => rw [hposted]; rfl
    case frame => rw [hposted]; rfl
  case prompt =>
    subst hm
    refine exec_of_served rfl he hs (postCashRule_refused hn (.inl ⟨?_, rfl⟩))
    rintro ⟨m', hrange', hm'⟩
    have := (tipMode?_of_postInRange hrange').symm.trans hmode
    exact hm' (Option.some.inj this)
  case cash =>
    obtain ⟨hhold, hlive, -⟩ := id hcharge
    obtain ⟨hcheck, honly⟩ := State.postCash_effect hc post m hhold hlive
    refine ⟨_, exec_of_served rfl he hs ((State.tested_of_all _ _ _ ?tests).trans
      ((State.onNamed_of_names hn).trans ((State.tested_of_all _ _ _
        (hcharge.pass hring hroom)).trans ?answer))), ?ring, hcheck, honly, ?uplink, ?totals,
        ?attn, ?frame⟩
    case tests => simp [(exists_postInRange_cash_iff post).1 (hcash hm)]
    case answer =>
      rw [hmode, Option.getD_some]
      dsimp only [State.accept]
      rw [State.postBody_of_check hcheck]
      rfl
    case ring => simp [State.postCash, State.pushTender]; rfl
    case uplink => simp [State.postCash, State.pushTender, State.appendRecord_uplink]; rfl
    case totals => simp [State.postCash, State.pushTender]; rfl
    case attn => simp [State.postCash, State.pushTender, State.appendRecord_attn]
    case frame => apply State.ext_fields <;> simp [State.postCash, State.pushTender]

end Sys2Proof.Machine
end

section
/-!
SUPPORT. TENDER_RESULT for the TAKEN descriptor and for the Late Window, and LATE_CLEAR (R92 to R94,
R102 to R106, R110, R112).
-/

namespace Sys2Proof.Machine

/-! ### The tests of a result -/

theorem resultInRange_iff (serial : Half) (r : ResultWire) :
    ResultInRange serial r ↔ serial ≠ 0 ∧ r.fieldsOk = true := by
  simp only [ResultInRange, ResultWire.fieldsOk, flagOk, refCharOk, Bool.and_eq_true,
    decide_eq_true_eq, List.all_eq_true, and_assoc]
  exact and_congr_right fun _ => and_congr_right fun _ => and_congr_right fun _ => and_comm

theorem resultAmounts_iff (r : ResultWire) (base : Nat) (m : TipMode) :
    ResultAmounts r base m ↔ r.approvedOk base m = true := by
  cases m with
  | none | fixed t =>
    simp [ResultAmounts, ResultWire.approvedOk, TipMode.admits, and_assoc]
  | prompt =>
    simp only [ResultAmounts, ResultWire.approvedOk, TipMode.admits, Bool.and_eq_true,
      decide_eq_true_iff, and_assoc]
    rfl

/-- A rule with one test. -/
theorem State.tested_one (u : State) {b : Bool} (o : ReplyOutcome) (a : Ans) :
    (b = true → u.tested [(b, o)] a = a) ∧ (¬b = true → u.tested [(b, o)] a = u.refuse o) := by
  refine ⟨fun h => State.tested_of_all _ _ _ (by simpa using h),
    fun h => State.tested_of_firstFailure _ (by simp [firstFailure, h])⟩

section
variable {u : State} {serial : Half} {r : ResultWire}

theorem offlineAdmits_iff :
    OfflineAdmits u r ↔ (!r.isOffline || u.offlineAdmits r.amount.toNat) = true := by
  rw [Bool.or_eq_true, Bool.not_eq_true', ResultWire.isOffline, decide_eq_false_iff_not,
    State.offlineAdmits, decide_eq_true_iff, OfflineAdmits, imp_iff_not_or]

/-- A serial that neither a TAKEN descriptor nor a Late Window entry carries. -/
theorem State.resultTarget_of_unknown (h : ¬((∃ t ∈ u.ring.tenders, t.isTaken = true ∧
    t.serial = serial.toNat) ∨ ∃ e ∈ u.ring.late, e.serial = serial.toNat)) :
    u.resultTarget serial.toNat = none := by
  obtain ⟨htaken, hlate⟩ := not_or.1 h
  have hwith : u.takenWith serial.toNat = none :=
    State.takenWith_of_no_serial fun t ht h1 h2 => htaken ⟨t, ht, h1, h2⟩
  have hfind : u.ring.late.find? (fun e => decide (e.serial = serial.toNat)) = none :=
    List.find?_eq_none.2 fun e he h => hlate ⟨e, he, of_decide_eq_true h⟩
  simp only [State.resultTarget, hwith, hfind, Option.map_none]

theorem State.resultTarget_of_taken {pre post : List Tender} {t : Tender} {g : Stage}
    (hring : u.ring.tenders = pre ++ t :: post) (hpre : ∀ d ∈ pre, d.isTaken = false)
    (ht : t.phase = .taken g) (hn : t.serial = serial.toNat) :
    u.resultTarget serial.toNat = some (.taken pre.length t) := by
  have hwith : u.takenWith serial.toNat = some (pre.length, t) := by
    rw [State.takenWith, State.takenTender_of_first hring hpre (Tender.isTaken_of_phase ht)]
    simp [Option.filter, hn]
  simp only [State.resultTarget, hwith]

theorem State.resultTarget_of_late {pre post : List LateEntry} {e : LateEntry}
    (htaken : ∀ t ∈ u.ring.tenders, t.isTaken = true → t.serial ≠ serial.toNat)
    (hlate : u.ring.late = pre ++ e :: post) (hpre : ∀ d ∈ pre, d.serial ≠ serial.toNat)
    (hn : e.serial = serial.toNat) :
    u.resultTarget serial.toNat = some (.late e) := by
  have hfind : u.ring.late.find? (fun e => decide (e.serial = serial.toNat)) = some e :=
    State.lateWith_of_first hlate hpre hn
  simp only [State.resultTarget, State.takenWith_of_no_serial htaken, hfind, Option.map_some]

theorem resultApprovedRule_refused {outcome : Byte} {o : ReplyOutcome}
    (h : FailsFirst [(ResultInRange serial r ∧ outcome = 1, .badField),
      ((∃ t ∈ u.ring.tenders, t.isTaken = true ∧ t.serial = serial.toNat) ∨
        ∃ e ∈ u.ring.late, e.serial = serial.toNat, .unknownTender)] o) :
    resultApprovedRule serial outcome r u = u.refuse o := by
  have hfields : (decide (serial ≠ 0 ∧ outcome = 1) && r.fieldsOk) = true ↔
      ResultInRange serial r ∧ outcome = 1 := by
    rw [resultInRange_iff, Bool.and_eq_true, decide_eq_true_iff]
    tauto
  obtain ⟨hnot, rfl⟩ | ⟨hok, ⟨hnot, rfl⟩ | ⟨-, hno⟩⟩ := h
  · exact (u.tested_one _ _).2 (mt hfields.1 hnot)
  · refine ((u.tested_one _ _).1 (hfields.2 hok)).trans ?_
    simp only [State.resultTarget_of_unknown hnot]
  · exact hno.elim

theorem resultDeclinedRule_refused {o : ReplyOutcome}
    (h : FailsFirst [(ResultInRange serial r, .badField),
      ((∃ t ∈ u.ring.tenders, t.isTaken = true ∧ t.serial = serial.toNat) ∨
        ∃ e ∈ u.ring.late, e.serial = serial.toNat, .unknownTender)] o) :
    resultDeclinedRule serial r u = u.refuse o := by
  have hfields : (decide (serial ≠ 0) && r.fieldsOk) = true ↔ ResultInRange serial r := by
    rw [resultInRange_iff, Bool.and_eq_true, decide_eq_true_iff]
  obtain ⟨hnot, rfl⟩ | ⟨hok, ⟨hnot, rfl⟩ | ⟨-, hno⟩⟩ := h
  · exact (u.tested_one _ _).2 (mt hfields.1 hnot)
  · refine ((u.tested_one _ _).1 (hfields.2 hok)).trans ?_
    simp only [State.resultTarget_of_unknown hnot]
  · exact hno.elim

/-- What an APPROVED result answers once its serial is known. -/
theorem resultApprovedRule_of_target {g : ResultTarget} (hr : ResultInRange serial r)
    (hg : u.resultTarget serial.toNat = some g) :
    (¬ResultAmounts r g.base g.tipMode → resultApprovedRule serial 1 r u = u.refuse .badField) ∧
    (ResultAmounts r g.base g.tipMode → ¬OfflineAdmits u r →
      resultApprovedRule serial 1 r u = u.refuse .limit) ∧
    (ResultAmounts r g.base g.tipMode → OfflineAdmits u r → resultApprovedRule serial 1 r u =
      (u.approveTarget g r).accept (be2 serial.toNat ++ be2 u.uplink.nextSeq)) := by
  obtain ⟨h0, hfields⟩ := (resultInRange_iff serial r).1 hr
  have hrule : resultApprovedRule serial 1 r u = u.tested
      [(r.approvedOk g.base g.tipMode, .badField),
        (!r.isOffline || u.offlineAdmits r.amount.toNat, .limit)]
      ((u.approveTarget g r).accept (be2 serial.toNat ++ be2 u.uplink.nextSeq)) := by
    refine ((u.tested_one _ _).1 ?_).trans ?_
    · rw [hfields, Bool.and_true, decide_eq_true_iff]
      exact ⟨h0, rfl⟩
    · simp only [hg]
  rw [hrule, resultAmounts_iff, offlineAdmits_iff]
  refine ⟨fun h => State.tested_of_firstFailure _ (by simp [firstFailure, h]),
    fun h h' => State.tested_of_firstFailure _ ?_, fun h h' => State.tested_of_all _ _ _ ?_⟩
  · rw [Bool.not_eq_true] at h'
    simp [firstFailure, h, h']
  · simp only [List.forall_mem_cons]
    exact ⟨h, h', fun _ h => nomatch h⟩

/-- What a DECLINED result answers once its serial is known. -/
theorem resultDeclinedRule_of_target {g : ResultTarget} (hr : ResultInRange serial r)
    (hg : u.resultTarget serial.toNat = some g) :
    (¬(r.amount.toNat = 0 ∧ r.tip.toNat = 0) →
      resultDeclinedRule serial r u = u.refuse .badField) ∧
    (r.amount.toNat = 0 ∧ r.tip.toNat = 0 → resultDeclinedRule serial r u =
      (u.declineTarget g).accept (be2 serial.toNat ++ be2 0)) := by
  obtain ⟨h0, hfields⟩ := (resultInRange_iff serial r).1 hr
  have hrule : resultDeclinedRule serial r u = u.tested [(r.declinedOk, .badField)]
      ((u.declineTarget g).accept (be2 serial.toNat ++ be2 0)) := by
    refine ((u.tested_one _ _).1 ?_).trans ?_
    · rw [hfields, Bool.and_true, decide_eq_true_iff]
      exact h0
    · simp only [hg]
  rw [hrule, ← decide_eq_true_iff (p := r.amount.toNat = 0 ∧ r.tip.toNat = 0)]
  exact (u.tested_one _ _).symm

end

/-! ### What an approval does -/

section
variable {u : State} {r : ResultWire}

@[simp] theorem State.countApproval_check (s : State) (w : ResultWire) (late : Bool) (j : Fin 64) :
    (s.countApproval w late).check j = s.check j := by simp [State.check]

theorem State.countApproval_totals (s : State) (w : ResultWire) (late : Bool) :
    (s.countApproval w late).totals = { s.totals with
      live := s.totals.live.approval .card w.amount.toNat w.tip.toNat w.isOffline late } := by
  unfold State.countApproval State.exposeOffline
  split <;> rfl

/-- A state whose uplink, totals and offline figures are those after the record and the count. -/
theorem approvalRecorded_of {v w : State} {serial : Nat} {index : Option (Fin 64)} {key : Key}
    {late orphan : Bool} (hv : v.uplink = u.uplink ∧ v.totals = u.totals ∧ v.offline = u.offline)
    (huplink : w.uplink =
      (v.appendRecord index key (settlementOf r serial late orphan)).uplink)
    (htotals : w.totals = (v.countApproval r late).totals)
    (hoffline : w.offline = (v.countApproval r late).offline) :
    ApprovalRecorded u w r serial index key late orphan := by
  obtain ⟨hvuplink, hvtotals, hvoffline⟩ := hv
  refine ⟨?_, ?_, ?_⟩
  · rw [huplink, State.appendRecord_uplink, hvuplink]
    rfl
  · rw [htotals, State.countApproval_totals, hvtotals]
    cases late <;> rfl
  · rw [hoffline, State.countApproval_offline, hvoffline, ResultWire.isOffline]

/-- The amounts of the TAKEN descriptor's check after its approval. -/
theorem State.approveTaken_check {k : Nat} {t : Tender} {c : Check}
    (hc : u.check t.index = some c) :
    (u.approveTaken k t r).check t.index = some (Check.reevaluated { c with
      reserved := c.reserved - t.base
      approved := addApproved c.approved r.amount.toNat
      tips := min 4294967295 (c.tips + r.tip.toNat)
      plan := onShare (onShare c.plan t.share fun sh => { sh with reserved := sh.reserved - t.base })
        t.share fun sh => { sh with
          approved := addApproved sh.approved r.amount.toNat
          tips := min 4294967295 (sh.tips + r.tip.toNat) }
      pendingUplink := c.pendingUplink + 1 }) := by
  rw [Check.reevaluated_eq, State.approveTaken]
  simp only [State.check_raise, State.check_modCheck, State.countApproval_check,
    State.appendRecord_check, State.finishTaken, State.setRing_check, hc, if_true, Option.map_some,
    Check.approveShare_eq, Check.unreserve_eq]

theorem State.onlyEntry_countApproval (s : State) (w : ResultWire) (late : Bool) (i : Fin 64) :
    OnlyEntry s (s.countApproval w late) i := State.onlyEntry_of_table (by simp)

theorem State.onlyEntry_countTotals (s : State) (f : Totals → Totals) (i : Fin 64) :
    OnlyEntry s (s.countTotals f) i := State.onlyEntry_of_table rfl

theorem State.onlyEntry_setRing (s : State) (b : TenderRing) (i : Fin 64) :
    OnlyEntry s (s.setRing b) i := State.onlyEntry_of_table rfl

theorem State.onlyEntry_approveTaken (k : Nat) (t : Tender) :
    OnlyEntry u (u.approveTaken k t r) t.index := by
  unfold State.approveTaken
  dsimp only
  exact (State.onlyEntry_setRing _ _ _).trans ((State.onlyEntry_modCheck _ _ _).trans
    ((State.onlyEntry_appendRecord _ _ _ _).trans ((State.onlyEntry_countApproval _ _ _ _).trans
      ((State.onlyEntry_modCheck _ _ _).trans (State.onlyEntry_raise _ _ _ _)))))

end

/-- Settles O39, outcome by outcome. -/
theorem resultFinishesTakenTender : Obligations.ResultFinishesTakenTender := by
  unfold Obligations.ResultFinishesTakenTender
  refine ⟨fun x serial outcome r s u he hs => ⟨fun o h => exec_of_served rfl he hs
    (resultApprovedRule_refused h), fun o h => exec_of_served rfl he hs
    (resultDeclinedRule_refused h)⟩, ?_⟩
  intro x serial r s u pre post t g c he hs hr hring hpre ht hn hc finished released
  have htarget := State.resultTarget_of_taken hring hpre ht hn
  obtain ⟨hbad, hlimit, happrove⟩ := resultApprovedRule_of_target hr htarget
  obtain ⟨hnonzero, hdecline⟩ := resultDeclinedRule_of_target hr htarget
  refine ⟨fun h => exec_of_served rfl he hs (hbad h), fun h => exec_of_served rfl he hs (hnonzero h),
    fun h h' => exec_of_served rfl he hs (hlimit h h'), fun h h' => ?approved,
    fun h h' => ?declined⟩
  case approved =>
    refine ⟨_, exec_of_served rfl he hs (happrove h h'), ?ring, State.approveTaken_check hc,
      State.onlyEntry_approveTaken _ t, ?recorded, ?attn, ?frame⟩
    case ring =>
      simp [State.approveTarget, State.approveTaken, State.finishTaken, hring, finished]
      exact ⟨rfl, rfl⟩
    case recorded =>
      exact approvalRecorded_of (v := (u.finishTaken pre.length t (.approved ⟨r.amount.toNat,
        r.tip.toNat, some r.card, r.isOffline, t.cancelRequested⟩)))
        ⟨rfl, rfl, rfl⟩ (by simp [State.approveTarget, State.approveTaken, State.appendRecord_uplink])
        (by simp [State.approveTarget, State.approveTaken, State.countApproval_totals])
        (by simp [State.approveTarget, State.approveTaken, State.countApproval_offline])
    case attn =>
      simp [State.approveTarget, State.approveTaken, State.finishTaken,
        State.raise_attn, State.appendRecord_attn, PerPort.set, PerPort.get]
    case frame => apply State.ext_fields <;>
      simp [State.approveTarget, State.approveTaken, State.finishTaken]
  case declined =>
    have hput : u.declineTaken pre.length t = (((u.finishTaken pre.length t .declined).putCheck
        t.index (some released.reevaluated)).countTotals fun n =>
          { n with declines := bumpCount n.declines }).raise .console .tenderFinished := by
      rw [State.declineTaken, State.modCheck_of_check _ _ _ c (by simpa [State.finishTaken] using hc),
        Check.released_eq]
    obtain ⟨hcheck, honly⟩ := State.placed_of_table (u := u) (w := u.declineTaken pre.length t)
      (i := t.index) (o := some released.reevaluated) (by rw [hput]; rfl)
    refine ⟨_, exec_of_served rfl he hs (hdecline ⟨h, h'⟩), ?ring, hcheck, honly, ?totals, ?attn,
      ?frame⟩
    all_goals rw [State.declineTarget, hput]
    case ring => simp [State.finishTaken, hring, finished]
    case totals => rfl
    case attn => rfl
    case frame => rfl

end Sys2Proof.Machine
end

section
/-!
SUPPORT. Late results (R102 to R106).
-/

namespace Sys2Proof.Machine

section
variable {u : State} {e : LateEntry} {r : ResultWire}

theorem State.dropLate_eq {pre post : List LateEntry} (hlate : u.ring.late = pre ++ e :: post)
    (hpre : ∀ d ∈ pre, d.serial ≠ e.serial) :
    u.dropLate e = u.setRing { u.ring with late := pre ++ post } := by
  have hnot : e ∉ pre := fun h => hpre e h rfl
  rw [State.dropLate, hlate, List.erase_append_right _ hnot, List.erase_cons_head]

/-- The check of a late approval takes its amounts and its record. -/
def State.lateApproved (u : State) (e : LateEntry) (r : ResultWire) : State :=
  ((u.dropLate e).appendRecord (some e.index) e.key
    (settlementOf r e.serial true false)).modCheck e.index
      (fun c => c.approve r.amount.toNat r.tip.toNat)

theorem State.lateApproved_check {c : Check} (hc : u.check e.index = some c) :
    (u.lateApproved e r).check e.index = some { c with
      approved := addApproved c.approved r.amount.toNat
      tips := min 4294967295 (c.tips + r.tip.toNat)
      pendingUplink := c.pendingUplink + 1 } := by
  simp only [State.lateApproved, State.check_modCheck, State.appendRecord_check, State.dropLate,
    State.setRing_check, hc, if_true, Option.map_some]
  rfl

theorem State.onlyEntry_lateApproved (u : State) (e : LateEntry) (r : ResultWire) :
    OnlyEntry u (u.lateApproved e r) e.index :=
  (State.onlyEntry_setRing _ _ _).trans
    ((State.onlyEntry_appendRecord _ _ _ _).trans (State.onlyEntry_modCheck _ _ _))

/-- The entry of a check into CONFLICT, its posted tenders' shares released. -/
theorem State.enterConflict_of_check {s : State} {i : Fin 64} {c : Check} (k : ConflictKind)
    (hc : s.check i = some c) :
    s.enterConflict i k = (((s.putCheck i (some { c with
      state := .conflict k, overpaid := false })).setRing { s.ring with
        tenders := s.ring.tenders.map fun t =>
          if t.postedOn i then { t with phase := .finished .cancelledByFloor } else t }).putCheck i
      (some ((s.ring.tenders.filter fun t => t.postedOn i).foldl
        (fun c t => c.unreserve t.share t.base)
        { c with state := .conflict k, overpaid := false }))).raise .console .conflict := by
  rw [State.enterConflict, State.cancelPosted, State.modCheck_of_check _ _ _ c hc,
    State.modCheck_of_check _ _ _ { c with state := .conflict k, overpaid := false } (by simp)]
  rfl

/-- The count of an approval reads and writes nothing that the entry into CONFLICT does. -/
theorem State.enterConflict_countApproval {s : State} {i : Fin 64} {c : Check}
    (hc : s.check i = some c) (k : ConflictKind) (w : ResultWire) (late : Bool) :
    (s.enterConflict i k).countApproval w late = (s.countApproval w late).enterConflict i k := by
  rw [State.enterConflict_of_check k hc,
    State.enterConflict_of_check k ((State.countApproval_check s w late i).trans hc)]
  unfold State.countApproval State.exposeOffline
  split <;> rfl

/-- What a late approval does beside its check. -/
theorem State.lateApproved_rest {y : State}
    (hy : y = { u.lateApproved e r with table := y.table }) :
    let v := y.countApproval r true
    v.ring = (u.dropLate e).ring ∧
    v.attn = { u.attn with flags := { u.attn.flags with
      link := withFlag u.attn.flags.link (decide (u.floor.link = .up)) .uplinkReady .link } } ∧
    ApprovalRecorded u v r e.serial (some e.index) e.key true false ∧
    v = { u with
      table := v.table, ring := v.ring, uplink := v.uplink, totals := v.totals
      offline := v.offline, attn := v.attn } := by
  intro v
  have hv : v = State.countApproval { u.lateApproved e r with table := y.table } r true := by
    rw [← hy]
  rw [hv]
  refine ⟨by simp [State.lateApproved], ?_, ?_, ?_⟩
  · simp [State.lateApproved, State.dropLate, State.appendRecord_attn]
    rfl
  · exact approvalRecorded_of (v := u.dropLate e) ⟨rfl, rfl, rfl⟩ (by simp [State.lateApproved])
      (by simp [State.countApproval_totals, State.lateApproved])
      (by simp [State.countApproval_offline, State.lateApproved])
  · apply State.ext_fields <;> simp [State.lateApproved, State.dropLate]

/-- A late approval on a check that is there. -/
theorem State.approveLate_of_check {c : Check} (hc : u.check e.index = some c) (hk : c.key = e.key) :
    u.approveLate e r =
      (if (c.approve r.amount.toNat r.tip.toNat).lateConflict then
        ((u.lateApproved e r).countApproval r true).enterConflict e.index .dueBelowPaid
      else ((u.lateApproved e r).modCheck e.index Check.afterAmounts).countApproval r true).raise
        .console .lateApproval := by
  have hlate : u.lateCheck e = some c := by
    rw [State.lateCheck, hc]
    exact Option.filter_eq_some_iff.2 ⟨rfl, decide_eq_true hk⟩
  have happlied : (((u.dropLate e).appendRecord (some e.index) e.key
      (settlementOf r e.serial true false)).applyLate e.index r.amount.toNat r.tip.toNat) =
      if (c.approve r.amount.toNat r.tip.toNat).lateConflict then
        (u.lateApproved e r).enterConflict e.index .dueBelowPaid
      else (u.lateApproved e r).modCheck e.index Check.afterAmounts := by
    have hd := State.lateApproved_check (r := r) hc
    unfold State.lateApproved at hd ⊢
    simp only [State.applyLate, hd]
    rfl
  simp only [State.approveLate, hlate, happlied]
  split
  · rw [State.enterConflict_countApproval (State.lateApproved_check hc)]
  · rfl

theorem State.approveLate_of_orphan (h : ∀ c ∈ u.check e.index, c.key ≠ e.key) :
    u.approveLate e r = (((u.dropLate e).appendRecord none e.key
      (settlementOf r e.serial true true)).countApproval r true).raise .console .lateApproval := by
  have hlate : u.lateCheck e = none :=
    Option.filter_eq_none_iff.2 fun c hc => by simpa using h c hc
  simp only [State.approveLate, hlate]

end

/-- Settles O41, by the check that the entry copied and the conflict of R104. -/
theorem lateResultsRecorded : Obligations.LateResultsRecorded := by
  unfold Obligations.LateResultsRecorded
  refine ⟨?_, fun x s u he hs => exec_of_served rfl he hs rfl⟩
  intro x serial r s u pre post e he hs hr htaken hlate hpre hn dropped attended answers
  have htarget := State.resultTarget_of_late htaken hlate hpre hn
  obtain ⟨hbad, hlimit, happrove⟩ := resultApprovedRule_of_target hr htarget
  obtain ⟨hnonzero, hdecline⟩ := resultDeclinedRule_of_target hr htarget
  have hdrop : u.dropLate e = u.setRing dropped := State.dropLate_eq hlate (hn ▸ hpre)
  have hanswers {w : State} (h : ResultAmounts r e.base e.tipMode) (h' : OfflineAdmits u r)
      (hw : u.approveLate e r = w.raise .console .lateApproval) : answers w := by
    refine exec_of_served rfl he hs ((happrove h h').trans ?_)
    rw [State.approveTarget, hw]
    rfl
  refine ⟨fun h => exec_of_served rfl he hs (hbad h), fun h => exec_of_served rfl he hs (hnonzero h),
    fun h h' => exec_of_served rfl he hs (hlimit h h'), fun h h' => ⟨fun c hc hk => ?applied,
      fun horphan => ?orphan⟩, fun h h' => exec_of_served rfl he hs ((hdecline ⟨h, h'⟩).trans ?_)⟩
  case applied =>
    have heffect := State.approveLate_of_check (r := r) hc hk
    have hd := State.lateApproved_check (r := r) hc
    by_cases hconflict : (c.approve r.amount.toNat r.tip.toNat).lateConflict = true
    · rw [if_pos hconflict] at heffect
      refine ⟨(u.lateApproved e r).countApproval r true, ?_⟩
      intro d conflict
      have hyes : conflict := of_decide_eq_true hconflict
      obtain ⟨hring, hattn, hrecorded, hframe⟩ :=
        State.lateApproved_rest (u := u) (e := e) (r := r) (y := u.lateApproved e r) rfl
      exact ⟨hring.trans (by rw [hdrop]; rfl),
        (State.countApproval_check _ _ _ _).trans (hd.trans (by rw [if_pos hyes])),
        (u.onlyEntry_lateApproved e r).trans (State.onlyEntry_countApproval _ _ _ _),
        hattn, hrecorded, hframe, fun _ => hanswers h h' heffect, fun hno => absurd hyes hno⟩
    · rw [if_neg hconflict] at heffect
      refine ⟨((u.lateApproved e r).modCheck e.index Check.afterAmounts).countApproval r true, ?_⟩
      intro d conflict
      have hno : ¬conflict := fun hyes => hconflict (decide_eq_true hyes)
      obtain ⟨hring, hattn, hrecorded, hframe⟩ := State.lateApproved_rest (u := u) (e := e) (r := r)
        (y := (u.lateApproved e r).modCheck e.index Check.afterAmounts)
        (by apply State.ext_fields <;> simp)
      have hcheck : ((u.lateApproved e r).modCheck e.index Check.afterAmounts).check e.index =
          some d.reevaluated := by
        rw [State.check_modCheck, if_pos rfl, hd, Option.map_some, Check.reevaluated_eq]
      exact ⟨hring.trans (by rw [hdrop]; rfl),
        (State.countApproval_check _ _ _ _).trans (hcheck.trans (by rw [if_neg hno])),
        (u.onlyEntry_lateApproved e r).trans ((State.onlyEntry_modCheck _ _ _).trans
          (State.onlyEntry_countApproval _ _ _ _)),
        hattn, hrecorded, hframe, fun hyes => absurd hyes hno, fun _ => hanswers h h' heffect⟩
  case orphan =>
    refine ⟨((u.dropLate e).appendRecord none e.key
      (settlementOf r e.serial true true)).countApproval r true, ?_, ?_, ?_, ?_,
      hanswers h h' (State.approveLate_of_orphan horphan)⟩
    all_goals rw [hdrop]
    · simp
    · simp [attended, State.appendRecord_attn]
      rfl
    · exact approvalRecorded_of (v := u.setRing dropped) ⟨rfl, rfl, rfl⟩ (by simp)
        (by simp [State.countApproval_totals]) (by simp [State.countApproval_offline])
    · apply State.ext_fields <;> simp [State.appendRecord_none_table]
  rw [State.declineTarget, hdrop]
  rfl

end Sys2Proof.Machine
end

section
/-!
SUPPORT. CHECK_CLOSE and RESOLVE (R20, R21, R139 to R141).
-/

namespace Sys2Proof.Machine

/-! ### A hold that ends quietly -/

section
variable {u : State} {i : Fin 64} {c : Check}

theorem State.dismissWaiters_of_check (hc : u.check i = some c) :
    u.dismissWaiters i =
      (c.waiters.foldl State.endWait u).modCheck i fun c => { c with waiters := [] } := by
  simp only [State.dismissWaiters, hc]

/-- The Console Port's hold ends with none of the end-of-hold actions. -/
theorem State.endQuietly_effect (hc : u.check i = some c) (hp : c.holder = some .console) :
    (u.endQuietly i).check i = some { c with hold := none, waiters := [] } ∧
      OnlyEntry u (u.endQuietly i) i ∧ QuietEnd u (u.endQuietly i) i c ∧
      QuietEndFlags u (u.endQuietly i) i c false := by
  obtain ⟨hcheck, honly, hholds, hstreams, hattn, -⟩ := State.holdDropped hc hp false
  simp only [Bool.false_eq_true, if_false] at hcheck honly hholds hstreams hattn
  have hquiet := State.dismissWaiters_of_check hcheck
  rw [State.endQuietly, hquiet]
  set v := (u.dropHold i).abortWrite .console i (.refused .notHolder) with hv
  obtain ⟨hcount, hwaits⟩ := State.foldl_endWait_holds c.waiters v
  obtain ⟨henables, hflags⟩ := State.foldl_endWait_attn c.waiters v
  have htable := State.foldl_endWait_table c.waiters v
  have hstay : (c.waiters.foldl State.endWait v).streams = v.streams :=
    foldl_keeps State.endWait State.streams (fun u p => by simp) v c.waiters
  refine ⟨?check, ?only, ⟨?count, fun p => ?waits, ?streams⟩, ?enables, fun p => ?flags⟩
  case check =>
    rw [State.check_modCheck, if_pos rfl, State.check, htable, ← State.check, hcheck]
    rfl
  case only =>
    exact honly.trans ((State.onlyEntry_of_table htable).trans (State.onlyEntry_modCheck _ i _))
  case count => simp [hcount, hholds, PerPort.get]
  case waits => simp [hwaits, hholds]
  case streams => simp [hstay, hstreams, PerPort.get]
  case enables => simp [henables, hattn]
  case flags =>
    simp only [State.modCheck_frame, hflags, hattn, PerPort.get_set]
    by_cases hport : p = .console
    · subst hport
      rfl
    · simp [hport, withFlag]

/-- A record of the check may have been appended before its hold ends. -/
theorem quietEnd_of_appended {v w : State} {d : Check} {appended : Bool} (hholds : v.holds = u.holds)
    (hstreams : v.streams = u.streams) (henables : v.attn.enables = u.attn.enables)
    (hflags : ∀ p, v.attn.flags.get p = withFlag (u.attn.flags.get p)
      (appended && decide (u.floor.link = .up ∧ p = .link)) .uplinkReady p)
    (hwaiters : d.waiters = c.waiters) (h : QuietEnd v w i d) (h' : QuietEndFlags v w i d false) :
    QuietEnd u w i c ∧ QuietEndFlags u w i c appended := by
  obtain ⟨henables', hflags'⟩ := h'
  rw [QuietEnd, hholds, hstreams, hwaiters] at h
  refine ⟨h, henables'.trans henables, fun p => ?_⟩
  rw [hflags' p, hflags p, hstreams, hwaiters]
  simp [withFlag]

/-- The flags after a record is appended. -/
theorem State.appendRecord_flags_get (s : State) (index : Option (Fin 64)) (key : Key)
    (body : RecordBody) (p : Port) :
    (s.appendRecord index key body).attn.flags.get p = withFlag (s.attn.flags.get p)
      (decide (s.floor.link = .up ∧ p = .link)) .uplinkReady p := by
  rw [State.appendRecord_attn]
  by_cases hp : p = .link
  · subst hp
    simp [PerPort.get, PerPort.set]
  · simp [PerPort.get_set, hp]

end

/-! ### CHECK_CLOSE -/

section
variable {u : State} {i : Fin 64} {c : Check} {index : Byte} {key : Half}

theorem closeTests_iff (u : State) (i : Fin 64) (c : Check) (o : ReplyOutcome) :
    FailsFirst [(c.holder = some .console, .notHolder), (c.scope = .owned, .notOwner),
      (c.state = .settled ∨ (c.state = .opened ∧ c.due = 0), .state),
      ((u.queuedDelta i).isSome = true ∨ u.commitments + 1 ≤ 48, .uplinkFull)] o ↔
      firstFailure (u.closeTests i c) = some o :=
  failsFirst_cons decide_eq_true_iff.symm fun _ => failsFirst_cons decide_eq_true_iff.symm fun _ =>
    failsFirst_cons decide_eq_true_iff.symm fun _ => failsFirst_cons (by
      rw [Bool.or_eq_true, State.uplinkRoom_iff]) fun _ => failsFirst_nil o

/-- What closing leaves, the record placed in `v`. -/
theorem State.closed_effect {v : State} {d : Check} {appended : Bool} (hd : v.check i = some d)
    (hdown : d.holder = some .console) (hw : d.waiters = c.waiters) (honly : OnlyEntry u v i)
    (hholds : v.holds = u.holds)
    (hstreams : v.streams = u.streams) (henables : v.attn.enables = u.attn.enables)
    (hflags : ∀ p, v.attn.flags.get p = withFlag (u.attn.flags.get p)
      (appended && decide (u.floor.link = .up ∧ p = .link)) .uplinkReady p) (f : Check → Check)
    (hf : (f d).hold = d.hold ∧ (f d).waiters = d.waiters) :
    let w := (v.modCheck i f).endQuietly i
    w.check i = some { f d with hold := none, waiters := [] } ∧ OnlyEntry u w i ∧
      QuietEnd u w i c ∧ QuietEndFlags u w i c appended := by
  obtain ⟨hhold, hwait⟩ := hf
  have hmod : (v.modCheck i f).check i = some (f d) := by
    rw [State.check_modCheck, if_pos rfl, hd]
    rfl
  have hholder : (f d).holder = some .console := by
    rw [Check.holder, hhold]
    exact hdown
  obtain ⟨hcheck, honly', hend, hends⟩ := State.endQuietly_effect hmod hholder
  exact ⟨hcheck, honly.trans ((State.onlyEntry_modCheck v i f).trans honly'),
    quietEnd_of_appended (by simpa using hholds) (by simpa using hstreams) (by simpa using henables)
      (fun p => by simpa using hflags p) (hwait.trans hw) hend hends⟩

end

/-- Settles O18, by the QUEUED DELTA record. -/
theorem checkCloseMovesToClosing : Obligations.CheckCloseMovesToClosing := by
  unfold Obligations.CheckCloseMovesToClosing
  intro x index key s u i c he hs hn closable
  obtain ⟨-, -, hc, -⟩ := id hn
  have hrefused {o : ReplyOutcome} (h : firstFailure (u.closeTests i c) = some o) :
      exec (.checkClose x index key) s = .next (u.replied .checkClose x o []) :=
    exec_of_served rfl he hs ((State.onNamed_of_names hn).trans (State.tested_of_firstFailure _ h))
  refine ⟨fun o h => ?refused, fun hhold hscope hclosable => ⟨fun r hr => ?converted,
    fun hnone hroom => ?appended, fun hnone hfull => ?full⟩⟩
  case refused =>
    exact hrefused ((closeTests_iff u i c o).1 ((failsFirst_snoc _ _ _ _).2 (.inl h)))
  case full =>
    refine hrefused ((closeTests_iff u i c _).1 (.inr ⟨hhold, .inr ⟨hscope, .inr ⟨hclosable,
      .inl ⟨?_, rfl⟩⟩⟩⟩))
    rintro (h | h)
    · rw [State.queuedDelta, hnone] at h
      cases h
    · omega
  case converted =>
    have hplace : u.placeClose i c = (r.seq, u.convertDelta i c) := by
      simp only [State.placeClose, State.queuedDelta, hr]
    obtain ⟨hcheck, honly, hquiet, hflags⟩ := State.closed_effect (u := u) (v := u.convertDelta i c)
      (c := c) (appended := false) (d := c) hc hhold rfl (State.onlyEntry_of_table rfl) rfl rfl rfl
      (fun p => by simp [withFlag]; rfl) (fun c => { c with uplinked := c.revision, state := .closing })
      ⟨rfl, rfl⟩
    refine ⟨_, exec_of_served rfl he hs ((State.onNamed_of_names hn).trans
      ((State.tested_of_all _ _ _ ?_).trans ?_)), hcheck, honly, hquiet, hflags, ?_, ?_⟩
    · simp only [State.closeTests, List.forall_mem_cons, State.queuedDelta, hr]
      exact ⟨decide_eq_true hhold, decide_eq_true hscope, decide_eq_true hclosable, rfl,
        fun _ h => nomatch h⟩
    · simp only [hplace]
      rfl
    · simp [State.endQuietly, State.convertDelta]
    · apply State.ext_fields <;> simp [State.endQuietly, State.convertDelta]
  case appended =>
    have hplace : u.placeClose i c =
        (u.uplink.nextSeq, u.appendRecord (some i) c.key (.close c.revision)) := by
      simp only [State.placeClose, State.queuedDelta, hnone]
    have happended : (u.appendRecord (some i) c.key (.close c.revision)).check i =
        some { c with pendingUplink := c.pendingUplink + 1 } := by
      rw [State.appendRecord_check, if_pos rfl, hc]
      rfl
    obtain ⟨hcheck, honly, hquiet, hflags⟩ := State.closed_effect (u := u) (c := c) (appended := true)
      happended hhold rfl (State.onlyEntry_appendRecord _ _ _ _) (by simp) (by simp)
      (by simp [State.appendRecord_attn])
      (fun p => by rw [State.appendRecord_flags_get, Bool.true_and])
      (fun c => { c with uplinked := c.revision, state := .closing }) ⟨rfl, rfl⟩
    refine ⟨_, exec_of_served rfl he hs ((State.onNamed_of_names hn).trans
      ((State.tested_of_all _ _ _ ?_).trans ?_)), hcheck, honly, hquiet, hflags, ?_, ?_⟩
    · simp only [State.closeTests, List.forall_mem_cons, State.queuedDelta, hnone,
        u.uplinkRoom_iff.2 hroom]
      exact ⟨decide_eq_true hhold, decide_eq_true hscope, decide_eq_true hclosable, rfl,
        fun _ h => nomatch h⟩
    · simp only [hplace]
      rfl
    · simp [State.endQuietly, State.appendRecord_uplink]
    · apply State.ext_fields <;> simp [State.endQuietly]

end Sys2Proof.Machine
end

section
/-!
SUPPORT. RESOLVE (R139 to R141).
-/

namespace Sys2Proof.Machine

section
variable {u : State} {i : Fin 64} {c : Check}

theorem CheckState.conflict_entry_iff (st : CheckState) :
    (∃ k, st = .conflict k) ↔ st.entry = .conflict := by
  cases st <;> simp [CheckState.entry]

theorem resolveTests_iff (u : State) (c : Check) (kind : ConflictKind) (o : ReplyOutcome) :
    FailsFirst [(c.holder = some .console, .notHolder), (∃ k, c.state = .conflict k, .state),
        (c.state = .conflict kind, .badField), (c.reserved = 0, .state),
        (u.commitments + 1 ≤ 48, .uplinkFull)] o ↔
      firstFailure (u.resolveTests c kind) = some o :=
  failsFirst_cons decide_eq_true_iff.symm fun _ => failsFirst_cons (by
    rw [CheckState.conflict_entry_iff, decide_eq_true_iff]) fun _ =>
      failsFirst_cons decide_eq_true_iff.symm fun _ => failsFirst_cons decide_eq_true_iff.symm
        fun _ => failsFirst_cons u.uplinkRoom_iff.symm fun _ => failsFirst_nil o

theorem resolveTests_pass {kind : ConflictKind} (hhold : c.holder = some .console)
    (hreserved : c.reserved = 0) (hroom : u.commitments + 1 ≤ 48)
    (hstate : c.state = .conflict kind) : ∀ t ∈ u.resolveTests c kind, t.1 = true := by
  simp only [State.resolveTests, List.forall_mem_cons]
  exact ⟨decide_eq_true hhold, decide_eq_true (c.state.conflict_entry_iff.1 ⟨_, hstate⟩),
    decide_eq_true hstate, decide_eq_true hreserved, u.uplinkRoom_iff.2 hroom, fun _ h => nomatch h⟩

/-- A check kept by RESOLVE KEEP. -/
def Check.kept (c : Check) : Check :=
  { c with
    state := stateOf 0 c.due c.approved, overpaid := decide (c.due < c.approved)
    plan := if c.planOverpaid then none else c.plan
    revision := if c.planOverpaid then (c.revision + 1) % 65536 else c.revision }

theorem Check.dropOverpaidPlan_evaluate (h : c.reserved = 0) :
    c.dropOverpaidPlan.evaluate = c.kept := by
  unfold Check.dropOverpaidPlan Check.kept
  split
  · simp only [Check.bump, Check.evaluate, h]
    rfl
  · simp only [Check.evaluate, h]
    rfl

theorem Check.planOverpaid_eq (c : Check) : c.planOverpaid =
    c.plan.any fun p => p.shares.any fun sh => decide (sh.target < sh.approved) := by
  cases hp : c.plan <;> simp [Check.planOverpaid, hp]

/-- The read streams on a check whose plan is dropped are aborted. -/
def State.keptReads (s : State) (c : Check) (i : Fin 64) : State :=
  if c.planOverpaid then s.abortReads i (.refused .stale) else s

/-- `keptReads` changes no block but attn, streams. -/
@[simp] theorem State.keptReads_frame (s : State) (c : Check) (i : Fin 64) :
      (s.keptReads c i).pending = s.pending ∧
      (s.keptReads c i).ports = s.ports ∧
      (s.keptReads c i).table = s.table ∧
      (s.keptReads c i).staging = s.staging ∧
      (s.keptReads c i).pool = s.pool ∧
      (s.keptReads c i).holds = s.holds ∧
      (s.keptReads c i).ring = s.ring ∧
      (s.keptReads c i).offline = s.offline ∧
      (s.keptReads c i).totals = s.totals ∧
      (s.keptReads c i).floor = s.floor ∧
      (s.keptReads c i).uplink = s.uplink ∧
      (s.keptReads c i).modes = s.modes := by
  unfold State.keptReads
  split <;> simp

theorem State.onlyEntry_keptReads (s : State) : OnlyEntry s (s.keptReads c i) i :=
  State.onlyEntry_of_table (by simp)

/-- The channels and the flags when the reads are aborted. -/
theorem State.keptReads_effect (s : State) :
    (∀ p, (s.keptReads c i).streams.get p = if c.planOverpaid
      then (s.streams.get p).abortedOn .itemsRead i (.refused .stale) else s.streams.get p) ∧
    (∀ p, (s.keptReads c i).attn.flags.get p = withFlag (s.attn.flags.get p)
      (c.planOverpaid && ((s.streams.get p).streamOn .itemsRead i).isSome) .streamEnd p) ∧
    (s.keptReads c i).attn.enables = s.attn.enables := by
  unfold State.keptReads
  cases hplan : c.planOverpaid with
  | false => simp [withFlag]
  | true =>
    obtain ⟨hstreams, hflags, henables⟩ := s.readsAborted_abortReads i (.refused .stale)
    simp only [if_true, Bool.true_and]
    exact ⟨hstreams, hflags, henables⟩

/-- The state in which RESOLVE KEEP is answered. -/
def State.keepResolved (u : State) (i : Fin 64) (c : Check) : State :=
  (((u.modCheck i fun c => c.dropOverpaidPlan.evaluate).keptReads c i).appendRecord (some i) c.key
    (.resolve .keep c.surplus)).restartLease i

theorem State.keepResolved_check (hc : u.check i = some c) (hhold : c.holder = some .console)
    (hreserved : c.reserved = 0) :
    (u.keepResolved i c).check i = some { c.kept with
      hold := u.freshHold .console, pendingUplink := c.pendingUplink + 1 } := by
  have hplaced : (((u.modCheck i fun c => c.dropOverpaidPlan.evaluate).keptReads c i).appendRecord
      (some i) c.key (.resolve .keep c.surplus)).check i =
        some { c.kept with pendingUplink := c.pendingUplink + 1 } := by
    have hstay : ((u.modCheck i fun c => c.dropOverpaidPlan.evaluate).keptReads c i).check i =
        (u.modCheck i fun c => c.dropOverpaidPlan.evaluate).check i := by simp [State.check]
    rw [State.appendRecord_check, if_pos rfl, hstay, State.check_modCheck, if_pos rfl, hc, Option.map_some, Check.dropOverpaidPlan_evaluate hreserved]
    rfl
  have hmodes : (((u.modCheck i fun c => c.dropOverpaidPlan.evaluate).keptReads c i).appendRecord
      (some i) c.key (.resolve .keep c.surplus)).modes = u.modes := by simp
  rw [State.keepResolved, State.restartLease_check hplaced hhold, State.freshHold, hmodes]

end

/-- Settles O19, resolution by resolution. -/
theorem resolveSettlesConflict : Obligations.ResolveSettlesConflict := by
  unfold Obligations.ResolveSettlesConflict
  intro x index key s u i c he hs hn tests appended
  obtain ⟨-, -, hc, -⟩ := id hn
  refine ⟨fun o h => ?keepRefused, fun o h => ?closeRefused, fun hhold hreserved hroom =>
    ⟨fun hstate => ?kept, fun hstate => ?closed⟩⟩
  case keepRefused =>
    exact exec_of_served rfl he hs (((u.tested_one _ _).1 rfl).trans ((State.onNamed_of_names hn).trans
      (State.tested_of_firstFailure _ ((resolveTests_iff u c _ o).1 h))))
  case closeRefused =>
    exact exec_of_served rfl he hs ((State.onNamed_of_names hn).trans
      (State.tested_of_firstFailure _ ((resolveTests_iff u c _ o).1 h)))
  case kept =>
    have hcheck := State.keepResolved_check hc hhold hreserved
    obtain ⟨hstreams, hflags, henables⟩ :=
      (u.modCheck i fun c => c.dropOverpaidPlan.evaluate).keptReads_effect (c := c) (i := i)
    have honly : OnlyEntry u (u.keepResolved i c) i := (State.onlyEntry_modCheck _ _ _).trans
      ((State.onlyEntry_keptReads _).trans
        ((State.onlyEntry_appendRecord _ _ _ _).trans (State.onlyEntry_restartLease _ _)))
    refine ⟨u.keepResolved i c, exec_of_served rfl he hs (((u.tested_one _ _).1 rfl).trans
      ((State.onNamed_of_names hn).trans ((State.tested_of_all _ _ _
        (resolveTests_pass hhold hreserved hroom hstate)).trans ?_))), ?_, honly, ?_, fun p => ?_,
      fun p => ?_, ?_, ?_⟩
    · change (u.keepResolved i c).accept
        ((u.keepResolved i c).resolveBody i c.surplus u.uplink.nextSeq) = _
      dsimp only [State.accept, State.resolveBody]
      rw [State.entryState_of_check hcheck]
      rfl
    · rw [hcheck, Check.kept, Check.planOverpaid_eq]
    · simp [State.keepResolved, State.appendRecord_uplink, appended, Check.surplus]
    · simp [State.keepResolved, hstreams, Check.planOverpaid_eq]
    · simp [State.keepResolved, State.appendRecord_flags_get, hflags, Check.planOverpaid_eq]
    · simp [State.keepResolved, State.appendRecord_attn, henables]
    · apply State.ext_fields <;> simp [State.keepResolved]
  case closed =>
    have happended : (u.appendRecord (some i) c.key (.resolve .close c.surplus)).check i =
        some { c with pendingUplink := c.pendingUplink + 1 } := by
      rw [State.appendRecord_check, if_pos rfl, hc]
      rfl
    obtain ⟨hcheck, honly, hquiet, hflags⟩ := State.closed_effect (u := u) (c := c) (appended := true)
      happended hhold rfl (State.onlyEntry_appendRecord _ _ _ _) (by simp) (by simp)
      (by simp [State.appendRecord_attn])
      (fun p => by rw [State.appendRecord_flags_get, Bool.true_and])
      (fun c => { c with uplinked := c.revision, state := .closing }.markOverpaid) ⟨rfl, rfl⟩
    refine ⟨_, exec_of_served rfl he hs ((State.onNamed_of_names hn).trans
      ((State.tested_of_all _ _ _ (resolveTests_pass hhold hreserved hroom hstate)).trans ?_)),
      hcheck, honly, hquiet, hflags, ?_, ?_⟩
    · dsimp only [State.accept, State.resolveBody]
      rw [State.entryState_of_check hcheck]
      rfl
    · simp [State.endQuietly, State.appendRecord_uplink, appended, Check.surplus]
    · apply State.ext_fields <;> simp [State.endQuietly]

end Sys2Proof.Machine
end

section
/-!
SUPPORT. LINK_STATE UP, IMAGE_BEGIN and IMAGE_ABORT (R120, R123, R126).
-/

namespace Sys2Proof.Machine

section
variable {u : State}

theorem linkUpRule_eq (value : Byte) :
    (value ≠ 1 → linkUpRule value u = u.refuse .badField) ∧
    (value = 1 → u.floor.link = .up → linkUpRule value u = u.accept [1]) ∧
    (value = 1 → u.floor.link = .down → linkUpRule value u = State.accept { u with
      floor := { u.floor with link := .up }
      attn := { u.attn with flags := u.attn.flags.set .link (withFlag u.attn.flags.link
        (u.uplink.records.any fun r => !r.sent) .uplinkReady .link) } } [1]) := by
  refine ⟨fun h => (u.tested_one _ _).2 (by simpa using h), fun h hup =>
    ((u.tested_one _ _).1 (by simpa using h)).trans ?_, fun h hdown =>
    ((u.tested_one _ _).1 (by simpa using h)).trans ?_⟩
  · rw [if_pos hup, State.linkBody, hup]
    rfl
  · rw [if_neg (by simp [hdown])]
    have hany : (u.uplink.records.any fun r => !r.sent) = u.hasQueued := rfl
    rw [hany]
    cases u.hasQueued <;> rfl

theorem imageFieldsOk_iff (key : Half) (owner covers seats count : Byte) :
    (Key.ofWire key).table ≠ 0 ∧ owner.toNat ≤ 250 ∧ 1 ≤ covers.toNat ∧ covers.toNat ≤ 99 ∧
      1 ≤ seats.toNat ∧ seats.toNat ≤ 15 ∧ count.toNat ≤ 48 ↔
      imageFieldsOk key owner covers seats count = true := by
  simp [imageFieldsOk, keyNamed]

end

/-- Settles O45, request by request. -/
theorem linkUpAndImageAssembly : Obligations.LinkUpAndImageAssembly := by
  unfold Obligations.LinkUpAndImageAssembly
  intro x s u he
  refine ⟨fun value hs => ?linkUp, fun key server owner covers seats count hs => ?begin,
    fun hs => ?abort⟩
  case linkUp =>
    obtain ⟨hbad, hup, hdown⟩ := linkUpRule_eq (u := u) value
    exact ⟨fun h => exec_of_served rfl he hs (hbad h), fun h h' => exec_of_served rfl he hs (hup h h'),
      fun h h' => exec_of_served rfl he hs (hdown h h')⟩
  case begin =>
    intro fields answers st
    have hfields : fields ↔ imageFieldsOk key owner covers seats count = true :=
      imageFieldsOk_iff key owner covers seats count
    rw [hfields]
    refine ⟨fun h => ?_, fun h h' => ?_, fun h h' h2 => ?_, fun h h' h2 h3 => ?_,
      fun h h' h2 h3 => ?_⟩
    all_goals refine exec_of_served rfl he hs ?_
    · exact State.tested_of_firstFailure _ (by simp [firstFailure, h])
    · exact State.tested_of_firstFailure _ (by simp [firstFailure, h, h'])
    · exact State.tested_of_firstFailure _ (by simp [firstFailure, h, h', ← Option.not_isSome, h2])
    · exact State.tested_of_firstFailure _ (by simp [firstFailure, h, h', h2, h3])
    · refine (State.tested_of_all _ _ _ (by simp [h, h', h2, h3])).trans ?_
      have hzero : count.toNat = 0 ↔ count = 0 := BitVec.toNat_inj (y := (0 : Byte))
      have hopened : Channel.opened (imageStream (Key.ofWire key) count.toNat) =
          if count = 0 then .done st else .active st := by
        simp only [Channel.opened, imageStream, hzero]
        rfl
      rw [hopened]
      rfl
  case abort =>
    refine ⟨fun h => exec_of_served rfl he hs ((u.tested_one _ _).2 (by simp [h])),
      fun h => exec_of_served rfl he hs (((u.tested_one _ _).1 h).trans ?_)⟩
    rw [State.discardAssembly_eq]
    rfl

end Sys2Proof.Machine
end

section
/-!
SUPPORT. UPLINK_NEXT and MARK (R151, R157).
-/

namespace Sys2Proof.Machine

theorem sendFirst_append {pre post : List UplinkRecord} {r : UplinkRecord}
    (hpre : ∀ q ∈ pre, q.sent = true) (hr : r.sent = false) :
    sendFirst (pre ++ r :: post) = pre ++ { r with sent := true } :: post := by
  induction pre with
  | nil => simp [sendFirst, hr]
  | cons q rest ih =>
    obtain ⟨hq, hrest⟩ := List.forall_mem_cons.1 hpre
    simp [sendFirst, hq, ih hrest]

theorem find?_unsent {pre post : List UplinkRecord} {r : UplinkRecord}
    (hpre : ∀ q ∈ pre, q.sent = true) (hr : r.sent = false) :
    (pre ++ r :: post).find? (fun r => !r.sent) = some r := by
  rw [List.find?_append, List.find?_eq_none.2 fun q hq => by simp [hpre q hq],
    List.find?_cons_of_pos (by simp [hr])]
  rfl

/-- Settles O52, by the window and the first QUEUED record. -/
theorem uplinkNextAndMark : Obligations.UplinkNextAndMark := by
  unfold Obligations.UplinkNextAndMark
  intro x s u he
  refine ⟨fun hs => ⟨fun hdown => ?down, fun hup hfull => ?full, fun hup hroom hall => ?empty,
    fun pre r post hup hroom hrecords hpre hr => ?next⟩, fun hs => ⟨fun older r hrecords => ?mark,
      fun hnone => ?delivered⟩⟩
  all_goals refine exec_of_served rfl he hs ?_
  case down => exact State.tested_of_firstFailure _ (by simp [State.nextTests, hdown])
  case full =>
    exact State.tested_of_firstFailure _ (by simp [State.nextTests, firstFailure, hup, hfull])
  case empty =>
    have hfind : u.uplink.records.find? (fun r => !r.sent) = none :=
      List.find?_eq_none.2 fun q hq => by simp [hall q hq]
    refine (State.tested_of_all _ _ _ (by simp [State.nextTests, hup, hroom])).trans ?_
    simp only [hfind]
    rfl
  case next =>
    refine (State.tested_of_all _ _ _ (by simp [State.nextTests, hup, hroom])).trans ?_
    simp only [hrecords, find?_unsent hpre hr, sendFirst_append hpre hr]
    rfl
  case mark => simp only [markRule, hrecords, List.getLast?_concat]; rfl
  case delivered => simp only [markRule, hnone, List.getLast?_nil]; rfl

end Sys2Proof.Machine
end

section
/-!
SUPPORT. An entry becomes FREE (R23).
-/

namespace Sys2Proof.Machine

/-! ### Flags and channels -/

theorem withFlag_false (flags : Half) (c : Cause) (p : Port) : withFlag flags false c p = flags := rfl

theorem withFlag_comm (flags : Half) (a b : Bool) (c d : Cause) (p : Port) :
    withFlag (withFlag flags a c p) b d p = withFlag (withFlag flags b d p) a c p := by
  cases a <;> cases b <;> simp [withFlag, BitVec.or_assoc, BitVec.or_comm (c.bit p)]

theorem withFlag_or (flags : Half) (a b : Bool) (c : Cause) (p : Port) :
    withFlag (withFlag flags a c p) b c p = withFlag flags (a || b) c p := by
  cases a <;> cases b <;> simp [withFlag, BitVec.or_assoc]

/-- A write stream's end leaves the read streams of a channel. -/
theorem Channel.streamOn_abortedOn (ch : Channel) (i : Fin 64) (r : AbortReason) :
    (ch.abortedOn .itemsWrite i r).streamOn .itemsRead i = ch.streamOn .itemsRead i := by
  unfold Channel.abortedOn
  cases hw : ch.streamOn .itemsWrite i with
  | none => rfl
  | some st =>
    obtain ⟨hrun, hst⟩ := Option.filter_eq_some_iff.1 hw
    obtain ⟨htarget, -⟩ := of_decide_eq_true hst
    rw [Channel.streamOn, Channel.streamOn, hrun]
    exact (Option.filter_eq_none_iff.2 fun st' hst' => by
      cases hst'
      simp [htarget]).symm

/-! ### The stages of R23 -/

section
variable {u : State} {i : Fin 64} {c : Check}

/-- `loseHolder` changes no block but attn, table, holds, streams. -/
@[simp] theorem State.loseHolder_frame (s : State) (i : Fin 64) (o : Option Port) :
      (s.loseHolder i o).pending = s.pending ∧
      (s.loseHolder i o).ports = s.ports ∧
      (s.loseHolder i o).staging = s.staging ∧
      (s.loseHolder i o).pool = s.pool ∧
      (s.loseHolder i o).ring = s.ring ∧
      (s.loseHolder i o).offline = s.offline ∧
      (s.loseHolder i o).totals = s.totals ∧
      (s.loseHolder i o).floor = s.floor ∧
      (s.loseHolder i o).uplink = s.uplink ∧
      (s.loseHolder i o).modes = s.modes := by
  cases o <;> simp [State.loseHolder]

theorem State.loseHolder_effect (hc : u.check i = some c) :
    let a := u.loseHolder i c.holder
    a.check i = some { c with hold := none } ∧ OnlyEntry u a i ∧
      (∀ p, a.holds.count.get p =
        u.holds.count.get p - (if c.holder = some p then 1 else 0)) ∧
      a.holds.waits = u.holds.waits ∧
      (∀ p, a.streams.get p = if c.holder = some p
        then (u.streams.get p).abortedOn .itemsWrite i .gone else u.streams.get p) ∧
      (∀ p, a.attn.flags.get p = withFlag (withFlag (u.attn.flags.get p)
        (decide (c.holder = some p)) .leaseLost p)
        (decide (c.holder = some p) && ((u.streams.get p).streamOn .itemsWrite i).isSome)
        .streamEnd p) ∧
      a.attn.enables = u.attn.enables := by
  intro a
  cases hholder : c.holder with
  | none =>
    have ha : a = u := by simp only [a, hholder, State.loseHolder]
    rw [ha, ← Check.hold_eq_none hholder]
    refine ⟨hc, State.onlyEntry_of_table rfl, ?_⟩
    simp [withFlag]
  | some q =>
    have ha : a = (((u.putCheck i (some { c with hold := none })).setCount q
        (u.holds.count.get q - 1)).raise q .leaseLost).abortWrite q i .gone := by
      simp only [a, hholder, State.loseHolder, State.dropHold_of_holder hc hholder]
    obtain ⟨hcheck, honly⟩ := State.placed_of_table (u := u) (w := a) (i := i)
      (o := some { c with hold := none }) (by rw [ha]; simp [State.setCount])
    refine ⟨hcheck, honly, fun p => ?_, ?_, fun p => ?_, fun p => ?_, ?_⟩
    all_goals rw [ha]
    · simp only [State.abortWrite_frame, State.raise_frame, State.setCount]
      by_cases hp : p = q
      · simp [hp]
      · simp [hp, Ne.symm hp]
    · simp [State.setCount]
    · rw [State.abortWrite_streams]
      by_cases hp : p = q
      · simp [hp, State.setCount]
      · simp [hp, Ne.symm hp, State.setCount]
    · rw [State.abortWrite_attn]
      by_cases hp : p = q
      · simp [hp, State.setCount, State.raise_attn, withFlag]
      · simp [hp, Ne.symm hp, State.setCount, State.raise_attn, withFlag]
    · simp [State.abortWrite_attn, State.setCount, State.raise_attn]

theorem State.dismissWaiters_effect (hc : u.check i = some c) :
    let b := u.dismissWaiters i
    b.check i = some { c with waiters := [] } ∧ OnlyEntry u b i ∧ b.holds.count = u.holds.count ∧
      (∀ p, b.holds.waits.get p = if p ∈ c.waiters then none else u.holds.waits.get p) ∧
      (∀ p, b.attn.flags.get p = withFlag (u.attn.flags.get p) (c.waiters.contains p) .waitEnded p) ∧
      b.attn.enables = u.attn.enables := by
  intro b
  have hb : b = _ := State.dismissWaiters_of_check hc
  obtain ⟨hcount, hwaits⟩ := State.foldl_endWait_holds c.waiters u
  obtain ⟨henables, hflags⟩ := State.foldl_endWait_attn c.waiters u
  have htable := State.foldl_endWait_table c.waiters u
  rw [hb]
  refine ⟨?_, (State.onlyEntry_of_table htable).trans (State.onlyEntry_modCheck _ i _), ?_,
    fun p => ?_, fun p => ?_, ?_⟩
  · rw [State.check_modCheck, if_pos rfl, State.check, htable, ← State.check, hc]
    rfl
  · simp [hcount]
  · simp [hwaits]
  · simp [hflags]
  · simp [henables]

theorem State.onlyEntry_discardImage (u : State) (i : Fin 64) : OnlyEntry u (u.discardImage i) i := by
  unfold State.discardImage
  split
  · split
    · exact (State.onlyEntry_of_table (s := u) (t := u.freeItems _) rfl).trans
        (State.onlyEntry_modCheck _ i _)
    · exact State.onlyEntry_of_table rfl
  · exact State.onlyEntry_of_table rfl

theorem State.onlyEntry_abortReads (u : State) (i : Fin 64) (r : AbortReason) :
    OnlyEntry u (u.abortReads i r) i := State.onlyEntry_of_table (by simp)

theorem State.onlyEntry_freeItems (u : State) (items : List Item) (i : Fin 64) :
    OnlyEntry u (u.freeItems items) i := State.onlyEntry_of_table rfl

/-- The records of a chain that keeps waiting. -/
def Check.imageRecords (c : Check) : List Nat :=
  match c.image with
  | some g => g.chain.map Item.record
  | none => []

theorem State.discardImage_pool (hc : u.check i = some c) :
    (u.discardImage i).pool.free = u.pool.free ++ c.imageRecords := by
  cases himage : c.image with
  | none => simp only [State.discardImage, hc, himage, Check.imageRecords, List.append_nil]
  | some g =>
    simp only [State.discardImage, hc, himage, Check.imageRecords, State.modCheck_frame]
    rfl

end

/-- Settles O48, along the stages of R23. -/
theorem freedEntryReleasesAll : Obligations.FreedEntryReleasesAll := by
  unfold Obligations.FreedEntryReleasesAll
  intro u i c hc w
  obtain ⟨hlost, honly, hcount, hwaits, hstreams, hflags, henables⟩ := State.loseHolder_effect hc
  obtain ⟨hdismissed, honly', hcount', hwaits', hflags', henables'⟩ :=
    State.dismissWaiters_effect hlost
  set b := (u.loseHolder i c.holder).dismissWaiters i with hb
  have hfreed : (b.freeItems c.items).check i =
      some { c with hold := none, waiters := [] } := hdismissed
  have hw : w = (((b.freeItems c.items).discardImage i).abortReads i .gone).putCheck i none :=
    State.freeEntry_of_check hc
  have hbstreams : b.streams = (u.loseHolder i c.holder).streams := by simp [b]
  obtain ⟨hreads, hends, -⟩ := ((b.freeItems c.items).discardImage i).readsAborted_abortReads i
    .gone
  refine ⟨State.freeEntry_check _ i, ?only, ?pool, fun p => ?count, fun p => ?waits, fun p => ?streams,
    fun p => ?flags, ?enables, ?frame⟩
  case only =>
    rw [hw]
    exact honly.trans (honly'.trans ((State.onlyEntry_freeItems b _ i).trans
      ((State.onlyEntry_discardImage _ i).trans ((State.onlyEntry_abortReads _ i _).trans
        (State.onlyEntry_putCheck _ i none)))))
  all_goals rw [hw]
  case pool =>
    have hpool : ((b.freeItems c.items).discardImage i).pool.free = _ := State.discardImage_pool hfreed
    simp only [State.putCheck_frame, State.abortReads_frame, hpool]
    have hfree : (b.freeItems c.items).pool.free = u.pool.free ++ c.items.map Item.record := by
      simp [b, State.freeItems]
    rw [hfree]
    rfl
  case count => simp [hcount', hcount]
  case waits => simp [hwaits', hwaits]
  case streams => simp [hreads, hbstreams, hstreams]
  case flags =>
    have hchannel : (b.streams.get p).streamOn .itemsRead i =
        (u.streams.get p).streamOn .itemsRead i := by
      rw [hbstreams, hstreams p]
      split
      · exact Channel.streamOn_abortedOn _ _ _
      · rfl
    simp only [State.putCheck_frame, hends, State.discardImage_frame, State.freeItems_frame, hchannel,
      hflags', hflags]
    rw [withFlag_comm _ (c.waiters.contains p), withFlag_or]
  case enables => simp [henables', henables]
  case frame => apply State.ext_fields <;> simp [b]

end Sys2Proof.Machine
end

section
/-!
SUPPORT. Images and retirements applied (R130, R132, R133, R136).
-/

namespace Sys2Proof.Machine

section
variable {u : State} {i : Fin 64} {c : Check}

/-! ### An older pending image -/

theorem olderGone_of_none (h : c.image = none) (server : Nat) : olderGone c server = (none, []) := by
  simp only [olderGone, h]

theorem olderGone_of_some {g : PendingImage} (h : c.image = some g) (server : Nat) :
    olderGone c server =
      if g.server < server then (none, g.chain.map Item.record) else (some g, []) := by
  simp only [olderGone, h]

theorem State.discardOlder_of_check (hc : u.check i = some c) (server : Nat) :
    (u.discardOlder i server).check i = some { c with image := (olderGone c server).1 } ∧
      (u.discardOlder i server).pool.free = u.pool.free ++ (olderGone c server).2 := by
  cases himage : c.image with
  | none =>
    rw [olderGone_of_none himage]
    simp only [State.discardOlder, hc, himage, List.append_nil, and_true]
    rw [← himage]
  | some g =>
    rw [olderGone_of_some himage]
    simp only [State.discardOlder, hc, himage]
    by_cases hg : g.server < server
    · simp only [if_pos hg, State.discardImage_pool hc, Check.imageRecords, himage, and_true]
      exact State.discardImage_check _ i hc
    · simp only [if_neg hg, hc, List.append_nil, and_true]
      rw [← himage]

theorem State.onlyEntry_discardOlder (u : State) (i : Fin 64) (server : Nat) :
    OnlyEntry u (u.discardOlder i server) i := by
  unfold State.discardOlder
  split
  · split
    · split
      · exact State.onlyEntry_discardImage u i
      · exact State.onlyEntry_of_table rfl
    · exact State.onlyEntry_of_table rfl
  · exact State.onlyEntry_of_table rfl

/-! ### An image applied -/

/-- The state in which an image's amounts are tested (R132). -/
def State.imageTaken (u : State) (i : Fin 64) (c : Check) (server owner covers seats : Nat)
    (items : List Item) : State :=
  ((((u.freeItems c.items).discardOlder i server).modCheck i fun c =>
    c.takeImage (u.scopeOf owner) server owner covers seats items u.modes.taxRate).abortReads i
      (.refused .stale)).raise .console .floorChange

theorem State.applyImage_of_check (hc : u.check i = some c) (server owner covers seats : Nat)
    (items : List Item) : u.applyImage i server owner covers seats items =
      (u.imageTaken i c server owner covers seats items).settleImage i := by
  simp only [State.applyImage, hc]
  rfl

theorem State.imageTaken_check (hc : u.check i = some c) (server owner covers seats : Nat)
    (items : List Item) : (u.imageTaken i c server owner covers seats items).check i =
      some ({ c with image := (olderGone c server).1 }.takeImage (u.scopeOf owner) server owner
        covers seats items u.modes.taxRate) := by
  obtain ⟨holder, -⟩ := State.discardOlder_of_check (u := u.freeItems c.items) (i := i) hc server
  have hread : (u.imageTaken i c server owner covers seats items).check i =
      (((u.freeItems c.items).discardOlder i server).modCheck i fun c => c.takeImage (u.scopeOf owner)
        server owner covers seats items u.modes.taxRate).check i := by
    simp [State.imageTaken, State.check]
  rw [hread, State.check_modCheck, if_pos rfl, holder]
  rfl

theorem State.onlyEntry_imageTaken (server owner covers seats : Nat) (items : List Item) :
    OnlyEntry u (u.imageTaken i c server owner covers seats items) i :=
  (u.onlyEntry_freeItems _ i).trans ((State.onlyEntry_discardOlder _ i _).trans
    ((State.onlyEntry_modCheck _ i _).trans ((State.onlyEntry_abortReads _ i _).trans
      (State.onlyEntry_raise _ _ _ i))))

theorem Check.owesTooLittle_iff (c : Check) :
    c.owesTooLittle = true ↔ c.due < c.approved + c.reserved ∨ ¬NoUnderrun c.plan := by
  rw [Check.owesTooLittle, Bool.or_eq_true, decide_eq_true_iff, noUnderrun_iff]
  simp

/-- What R133 makes of a check. -/
theorem State.settleImage_of_check {d : Check} (hd : u.check i = some d) :
    ((d.due < d.approved + d.reserved ∨ ¬NoUnderrun d.plan) →
      u.settleImage i = u.enterConflict i .dueBelowPaid) ∧
    (¬(d.due < d.approved + d.reserved ∨ ¬NoUnderrun d.plan) →
      u.settleImage i = u.putCheck i (some d.reevaluated)) := by
  rw [← d.owesTooLittle_iff]
  refine ⟨fun h => ?_, fun h => ?_⟩
  · simp only [State.settleImage, hd, if_pos h]
  · simp only [State.settleImage, hd, if_neg h, State.modCheck_of_check _ _ _ _ hd,
      Check.reevaluated_eq]

/-! ### A retirement applied -/

/-- The state in which a retirement chooses (R136). -/
def State.retireTaken (u : State) (i : Fin 64) (server : Nat) : State :=
  (u.setServer i server).discardOlder i server

theorem State.retireTaken_of_check (hc : u.check i = some c) (server : Nat) :
    (u.retireTaken i server).check i =
        some { c with server := some server, image := (olderGone c server).1 } ∧
      (u.retireTaken i server).pool.free = u.pool.free ++ (olderGone c server).2 := by
  have hset : (u.setServer i server).check i = some { c with server := some server } := by
    rw [State.setServer, State.check_modCheck, if_pos rfl, hc]
    rfl
  obtain ⟨hcheck, hpool⟩ := State.discardOlder_of_check hset server
  refine ⟨hcheck, hpool.trans ?_⟩
  simp [State.setServer]

theorem State.onlyEntry_retireTaken (server : Nat) : OnlyEntry u (u.retireTaken i server) i :=
  (State.onlyEntry_modCheck _ i _).trans (State.onlyEntry_discardOlder _ i _)

theorem State.applyRetire_of_check {d : Check} {server : Nat}
    (hd : (u.retireTaken i server).check i = some d) :
    u.applyRetire i server = State.raise (if 0 < d.reserved then
      (u.retireTaken i server).enterConflict i .retired
    else if 0 < d.pendingUplink then
      (u.retireTaken i server).putCheck i (some { d with state := .closing })
    else (u.retireTaken i server).freeEntry i) .console .floorChange := by
  rw [← State.modCheck_of_check _ i (fun c => { c with state := .closing }) d hd]
  unfold State.retireTaken at hd ⊢
  simp only [State.applyRetire, hd]

end

/-- Settles O47, images by the test of R133 and retirements by what the check has reserved. -/
theorem floorChangesApplied : Obligations.FloorChangesApplied := by
  unfold Obligations.FloorChangesApplied
  refine ⟨?image, ?retire⟩
  case image =>
    intro u i c server owner covers seats items hc w sub due revision d short
    have hscope : u.scopeOf owner = if u.modes.terminalId = some owner then .owned else .foreign := by
      simp only [State.scopeOf, eq_comm]
    have hd : (u.imageTaken i c server owner covers seats items).check i = some d := by
      rw [State.imageTaken_check hc, hscope]
      rfl
    have hw : w = _ := State.applyImage_of_check hc server owner covers seats items
    obtain ⟨hshort, henough⟩ := State.settleImage_of_check hd
    obtain ⟨-, hpool⟩ := State.discardOlder_of_check (u := u.freeItems c.items) (i := i) hc server
    refine ⟨_, hd, State.onlyEntry_imageTaken _ _ _ _ _, ?pool, fun p => ?streams, fun p => ?flags,
      ?enables, ?frame, fun h => hw.trans (hshort h), fun h => ?settled⟩
    case pool =>
      simp only [State.imageTaken, State.raise_frame, State.abortReads_frame, State.modCheck_frame,
        hpool]
      rfl
    case streams => simp [State.imageTaken, State.abortReads_streams_get, State.freeItems]
    case flags =>
      rw [State.imageTaken, State.raise_flags_get]
      by_cases hp : p = .console
      · subst hp
        rw [if_pos rfl, State.abortReads_flags_get]
        simp [State.freeItems]
      · rw [if_neg hp, State.abortReads_flags_get]
        simp [State.freeItems, hp, withFlag_false]
    case enables => simp [State.imageTaken, State.raise_attn, State.freeItems]
    case frame => apply State.ext_fields <;> simp [State.imageTaken]
    case settled =>
      rw [hw, henough h]
      exact ⟨(State.check_putCheck _ i i _).trans (if_pos rfl), State.onlyEntry_putCheck _ _ _,
        by apply State.ext_fields <;> simp⟩
  case retire =>
    intro u i c server hc w d changed
    obtain ⟨hd, hpool⟩ := State.retireTaken_of_check hc server
    have hw : w = _ := State.applyRetire_of_check hd
    refine ⟨_, hd, State.onlyEntry_retireTaken server, hpool, ?frame, fun h => ?conflict,
      fun h h' => ?closing, fun h h' => ?free⟩
    case frame => apply State.ext_fields <;> simp [State.retireTaken, State.setServer]
    case conflict =>
      rw [hw, if_pos h]
      rfl
    case closing =>
      refine ⟨(u.retireTaken i server).putCheck i (some { d with state := .closing }), hw.trans ?_, ?_⟩
      · rw [if_neg (Nat.not_lt.2 h.le), if_pos h']
        rfl
      · exact ⟨(State.check_putCheck _ i i _).trans (if_pos rfl), State.onlyEntry_putCheck _ _ _,
          by apply State.ext_fields <;> simp⟩
    case free =>
      rw [hw, if_neg (Nat.not_lt.2 h.le), if_neg (Nat.not_lt.2 h'.le)]
      rfl

end Sys2Proof.Machine
end

section
/-!
SUPPORT. The rules by which images and retirements are tried: IMAGE_END, RETIRE and the pending image
(R125, R127 to R132, R134, R135).
-/

namespace Sys2Proof.Machine

/-! ### The entry with a key -/

section
variable {u : State} {i : Fin 64} {c : Check} {k : Key}

theorem State.findKey_of_none (h : ∀ i, ∀ c ∈ u.check i, c.key ≠ k) : u.findKey k = none := by
  refine find?_allIdx_of_none fun i => ?_
  cases hc : u.check i with
  | none => simp
  | some c => simpa using h i c hc

theorem State.findKey_of_first (hc : u.check i = some c) (hk : c.key = k)
    (hfirst : ∀ j, j < i → ∀ d ∈ u.check j, d.key ≠ k) : u.findKey k = some i := by
  refine find?_allIdx_of_first (by simpa [hc] using hk) fun j hj => ?_
  cases hd : u.check j with
  | none => simp
  | some d => simpa using hfirst j hj d hd

/-! ### The tests -/

theorem noNewer_iff (server : Nat) :
    NoNewer c server ↔ (c.serverReached server || c.imageReached server) = true := by
  cases hs : c.server <;> cases hg : c.image <;>
    simp [NoNewer, Check.serverReached, Check.imageReached, hs, hg]

theorem mustWait_iff (c : Check) : MustWait c ↔ c.keepsWaiting = true := by
  rw [MustWait, CheckState.conflict_entry_iff, Check.keepsWaiting, decide_eq_true_iff]

theorem transferWaits_iff (hscope : c.scope = .owned) : TransferWaits u i c ↔
    c.owesDelta = true ∨ (u.uplink.records.any fun r => r.callsFor i) = true := by
  simp [TransferWaits, Check.owesDelta, hscope, UplinkRecord.callsFor_iff,
    and_comm]

/-- Rules 3 to 7 of R127. -/
theorem State.imageVerdict_cases (u : State) (i : Fin 64) (c : Check) (owner : Nat) :
    (c.state = .closing → u.imageVerdict i c owner = .closing) ∧
    (c.state ≠ .closing → MustWait c → u.imageVerdict i c owner = .defer) ∧
    (c.state ≠ .closing → ¬MustWait c →
      (c.scope = .owned → u.modes.terminalId = some owner → u.imageVerdict i c owner = .echo) ∧
      (c.scope = .owned → u.modes.terminalId ≠ some owner → TransferWaits u i c →
        u.imageVerdict i c owner = .defer) ∧
      (c.scope = .foreign ∨ (u.modes.terminalId ≠ some owner ∧ ¬TransferWaits u i c) →
        u.imageVerdict i c owner = .apply)) := by
  rw [mustWait_iff]
  unfold State.imageVerdict
  refine ⟨fun h => if_pos h, fun h hw => (if_neg h).trans (if_pos hw), fun h hw =>
    ⟨fun hs ho => ?_, fun hs ho ht => ?_, fun hfree => ?_⟩⟩
  all_goals rw [if_neg h, if_neg hw]
  · exact if_pos ⟨hs, ho.symm⟩
  · rw [if_neg fun hboth => ho hboth.2.symm]
    exact if_pos ⟨hs, (transferWaits_iff hs).1 ht⟩
  · obtain hforeign | ⟨ho, ht⟩ := hfree
    · rw [if_neg (by simp [hforeign]), if_neg (by simp [hforeign])]
    · rw [if_neg fun hboth => ho hboth.2.symm, if_neg fun hboth =>
        ht ((transferWaits_iff hboth.1).2 hboth.2)]

/-! ### Where an image waits or goes -/

theorem State.deferred_deferImage (hc : u.check i = some c) (g : PendingImage) :
    Deferred u (u.deferImage i g) i c g := by
  have hcheck := State.discardImage_check u i hc
  refine ⟨?_, (State.onlyEntry_discardImage u i).trans (State.onlyEntry_modCheck _ i _), ?_, ?_⟩
  · rw [State.deferImage, State.check_modCheck, if_pos rfl, hcheck]
    rfl
  · simp only [State.deferImage, State.modCheck_frame, State.discardImage_pool hc]
    rfl
  · apply State.ext_fields <;> simp [State.deferImage]

theorem State.entryState_code {d : Check} (hd : u.check i = some d) (n : Nat)
    (h : d.state.entry.code = n) : be1 (u.entryState i).code = be1 n := by
  rw [State.entryState_of_check hd, h]

end

section
variable {u : State} {key server : Half} {i : Fin 64} {c : Check}

/-- A named table and a link that is UP leave the key to be found. -/
theorem retireTests_pass (h : (Key.ofWire key).table ≠ 0) (hup : u.floor.link = .up) :
    ∀ t ∈ [(keyNamed key, ReplyOutcome.badField),
      (decide (u.floor.link = .up), ReplyOutcome.linkDown)], t.1 = true :=
  List.forall_mem_cons.2 ⟨decide_eq_true h,
    List.forall_mem_cons.2 ⟨decide_eq_true hup, fun _ h => nomatch h⟩⟩

theorem retireRule_of_unknown (h : (Key.ofWire key).table ≠ 0) (hup : u.floor.link = .up)
    (hk : u.findKey (Key.ofWire key) = none) : retireRule key server u = u.refuse .noMatch := by
  refine (State.tested_of_all _ _ _ (retireTests_pass h hup)).trans ?_
  simp only [hk]

theorem retireRule_of_found (h : (Key.ofWire key).table ≠ 0) (hup : u.floor.link = .up)
    (hk : u.findKey (Key.ofWire key) = some i) (hc : u.check i = some c) :
    retireRule key server u = u.retireAt i c server.toNat := by
  refine (State.tested_of_all _ _ _ (retireTests_pass h hup)).trans ?_
  simp only [hk, hc]

theorem State.retireAt_cases (u : State) (i : Fin 64) (c : Check) (server : Nat) :
    (NoNewer c server → u.retireAt i c server = ⟨.stale, retireBody i 0, u⟩) ∧
    (¬NoNewer c server →
      (c.state = .closing → u.retireAt i c server =
        (u.retireTaken i server).accept (retireBody i 4)) ∧
      (c.state ≠ .closing → MustWait c → u.retireAt i c server =
        ⟨.deferred, retireBody i 0, u.deferImage i ⟨server, .retire⟩⟩) ∧
      (c.state ≠ .closing → ¬MustWait c → u.retireAt i c server =
        (u.applyRetire i server).accept
          (retireBody i ((u.applyRetire i server).entryState i).code))) := by
  rw [noNewer_iff, mustWait_iff]
  unfold State.retireAt
  refine ⟨fun h => if_pos h, fun h => ⟨fun hs => ?_, fun hs hw => ?_, fun hs hw => ?_⟩⟩
  all_goals rw [if_neg h]
  · exact if_pos hs
  · rw [if_neg hs, if_pos hw]
  · rw [if_neg hs, if_neg hw]

end

/-- Settles O50, test by test. -/
theorem retireByTests : Obligations.RetireByTests := by
  unfold Obligations.RetireByTests
  intro x key server s u he hs k answers
  refine ⟨fun h => ?unnamed, fun h hdown => ?down, fun h hup hnone => ?noMatch,
    fun i c h hup hc hk hfirst => ?found⟩
  case unnamed =>
    refine exec_of_served rfl he hs (State.tested_of_firstFailure _ ?_)
    have hno : keyNamed key = false := decide_eq_false (not_not.2 h)
    rw [hno]
    rfl
  case down =>
    refine exec_of_served rfl he hs (State.tested_of_firstFailure _ ?_)
    have hyes : keyNamed key = true := decide_eq_true h
    simp [hyes, hdown]
  case noMatch =>
    exact exec_of_served rfl he hs (retireRule_of_unknown h hup (State.findKey_of_none hnone))
  case found =>
    have hrule := retireRule_of_found (server := server) h hup
      (State.findKey_of_first hc hk hfirst) hc
    obtain ⟨hstale, hrest⟩ := u.retireAt_cases i c server.toNat
    have hanswers {o : ReplyOutcome} {body : List Byte} {w : State}
        (hat : u.retireAt i c server.toNat = ⟨o, body, w⟩) : answers o body w :=
      exec_of_served rfl he hs (hrule.trans hat)
    refine ⟨fun hn => hanswers (hstale hn), fun hn => ?_⟩
    obtain ⟨hclosing, hwait, happly⟩ := hrest hn
    obtain ⟨hcheck, hpool⟩ := State.retireTaken_of_check hc server.toNat
    exact ⟨fun h => ⟨_, hanswers (hclosing h), hcheck, State.onlyEntry_retireTaken _, hpool,
        by apply State.ext_fields <;> simp [State.retireTaken, State.setServer]⟩,
      fun h hw => ⟨_, hanswers (hwait h hw), State.deferred_deferImage hc _⟩,
      fun h hw => hanswers (happly h hw)⟩

end Sys2Proof.Machine
end

section
/-!
SUPPORT. A pending image or retirement that is tried again (R134).
-/

namespace Sys2Proof.Machine

section
variable {u : State} {i : Fin 64} {c : Check} {g : PendingImage}

theorem State.tryPending_of_none (hc : u.check i = some c) (hg : c.image = none) :
    u.tryPending i = u := by
  simp only [State.tryPending, hc, hg]

theorem Check.serverReached_iff (server : Nat) :
    (∃ r, c.server = some r ∧ server ≤ r) ↔ c.serverReached server = true := by
  cases hs : c.server <;> simp [Check.serverReached, hs]

theorem State.tryPending_of_reached (hc : u.check i = some c) (hg : c.image = some g)
    (h : ∃ r, c.server = some r ∧ g.server ≤ r) : u.tryPending i = u.discardImage i := by
  simp only [State.tryPending, hc, hg, if_pos ((Check.serverReached_iff _).1 h)]

/-- An image that is tried again (R127, R134). -/
theorem State.tryPending_of_image (hc : u.check i = some c) (hg : c.image = some g)
    (h : ¬∃ r, c.server = some r ∧ g.server ≤ r) {owner covers seats : Nat} {items : List Item}
    (hb : g.body = .image owner covers seats items) :
    (u.imageVerdict i c owner = .closing → u.tryPending i = u.discardImage i) ∧
    (u.imageVerdict i c owner = .defer → u.tryPending i = u) ∧
    (u.imageVerdict i c owner = .echo →
      u.tryPending i = (u.discardImage i).setServer i g.server) ∧
    (u.imageVerdict i c owner = .apply → u.tryPending i =
      (u.takePending i).applyImage i g.server owner covers seats items) := by
  rw [Check.serverReached_iff] at h
  refine ⟨fun hv => ?_, fun hv => ?_, fun hv => ?_, fun hv => ?_⟩
  all_goals simp only [State.tryPending, hc, hg, hb, hv, if_neg h]

/-- A retirement that is tried again (R134, R135). -/
theorem State.tryPending_of_retire (hc : u.check i = some c) (hg : c.image = some g)
    (h : ¬∃ r, c.server = some r ∧ g.server ≤ r) (hb : g.body = .retire) :
    (c.state = .closing → u.tryPending i = (u.discardImage i).setServer i g.server) ∧
    (c.state ≠ .closing → MustWait c → u.tryPending i = u) ∧
    (c.state ≠ .closing → ¬MustWait c →
      u.tryPending i = (u.takePending i).applyRetire i g.server) := by
  rw [Check.serverReached_iff] at h
  rw [mustWait_iff]
  refine ⟨fun hs => ?_, fun hs hw => ?_, fun hs hw => ?_⟩
  · simp only [State.tryPending, hc, hg, hb, if_neg h, if_pos hs]
  · simp only [State.tryPending, hc, hg, hb, if_neg h, if_neg hs, if_pos hw]
  · simp only [State.tryPending, hc, hg, hb, if_neg h, if_neg hs, if_neg hw]

/-- What the discard of a pending image leaves. -/
theorem State.discardImage_effect (hc : u.check i = some c) (hg : c.image = some g) :
    (u.discardImage i).check i = some { c with image := none } ∧
      OnlyEntry u (u.discardImage i) i ∧
      (u.discardImage i).pool.free = u.pool.free ++ g.chain.map Item.record ∧
      u.discardImage i =
        { u with table := (u.discardImage i).table, pool := (u.discardImage i).pool } := by
  refine ⟨State.discardImage_check u i hc, State.onlyEntry_discardImage u i, ?_, ?_⟩
  · rw [State.discardImage_pool hc]
    simp only [Check.imageRecords, hg]
  · apply State.ext_fields <;> simp

/-- The same, the server revision taken. -/
theorem State.discardImage_setServer_effect (hc : u.check i = some c) (hg : c.image = some g)
    (server : Nat) :
    let w := (u.discardImage i).setServer i server
    w.check i = some { c with server := some server, image := none } ∧ OnlyEntry u w i ∧
      w.pool.free = u.pool.free ++ g.chain.map Item.record ∧
      w = { u with table := w.table, pool := w.pool } := by
  obtain ⟨hcheck, honly, hpool, -⟩ := State.discardImage_effect hc hg
  refine ⟨?_, honly.trans (State.onlyEntry_modCheck _ i _), ?_, ?_⟩
  · rw [State.setServer, State.check_modCheck, if_pos rfl, hcheck]
    rfl
  · simpa [State.setServer] using hpool
  · apply State.ext_fields <;> simp [State.setServer]

theorem State.takePending_effect (hc : u.check i = some c) :
    (u.takePending i).check i = some { c with image := none } ∧
      OnlyEntry u (u.takePending i) i ∧
      u.takePending i = { u with table := (u.takePending i).table } := by
  refine ⟨?_, State.onlyEntry_modCheck _ i _, ?_⟩
  · rw [State.takePending, State.check_modCheck, if_pos rfl, hc]
    rfl
  · apply State.ext_fields <;> simp [State.takePending]

end

/-- Settles O51, by what the image or retirement meets. -/
theorem pendingImageRetried : Obligations.PendingImageRetried := by
  unfold Obligations.PendingImageRetried
  intro u i c hc w
  refine ⟨fun hg => State.tryPending_of_none hc hg, fun g hg => ?_⟩
  intro reached gone taken
  have hdiscard := State.discardImage_effect hc hg
  have hset := State.discardImage_setServer_effect hc hg g.server
  refine ⟨fun h => ?reached, fun h owner covers seats items hb => ?image, fun h hb => ?retire⟩
  case reached =>
    have hw : w = u.discardImage i := State.tryPending_of_reached hc hg h
    simpa only [gone, hw] using hdiscard
  case image =>
    obtain ⟨hclosing, hdefer, hecho, happly⟩ := State.tryPending_of_image hc hg h hb
    obtain ⟨vclosing, vwait, vfree⟩ := u.imageVerdict_cases i c owner
    refine ⟨fun hs => ?_, fun hs hw => hdefer (vwait hs hw), fun hs hw => ?_⟩
    · have hw : w = u.discardImage i := hclosing (vclosing hs)
      simpa only [gone, hw] using hdiscard
    · obtain ⟨vecho, vtransfer, vapply⟩ := vfree hs hw
      refine ⟨fun hscope ho => ?_, fun hscope ho ht => hdefer (vtransfer hscope ho ht), fun hfree =>
        ⟨_, State.takePending_effect hc, happly (vapply hfree)⟩⟩
      have hw : w = (u.discardImage i).setServer i g.server := hecho (vecho hscope ho)
      simpa only [gone, hw] using hset
  case retire =>
    obtain ⟨hclosing, hwait, happly⟩ := State.tryPending_of_retire hc hg h hb
    refine ⟨fun hs => ?_, hwait, fun hs hw => ⟨_, State.takePending_effect hc, happly hs hw⟩⟩
    have hw : w = (u.discardImage i).setServer i g.server := hclosing hs
    simpa only [gone, hw] using hset

end Sys2Proof.Machine
end

section
/-!
SUPPORT. IMAGE_END by the apply rules (R125, R127 to R132).
-/

namespace Sys2Proof.Machine

section
variable {u : State} {i : Fin 64} {c : Check} {a : Assembly}

theorem imageEndRule_of_assembly (ha : u.floor.assembly = some a)
    (hidle : u.streams.link.isActive = false) :
    imageEndRule u = ⟨(u.endImage a).outcome, (u.endImage a).body,
      (u.endImage a).state.setChannel .link .idle⟩ := by
  simp only [imageEndRule, ha]
  exact (u.tested_one _ _).1 (by simp [hidle])

theorem imageEndRule_refused (h : u.floor.assembly = none ∨ u.streams.link.isActive = true) :
    imageEndRule u = u.refuse .state := by
  cases ha : u.floor.assembly with
  | none => simp only [imageEndRule, ha]
  | some a =>
    obtain h | h := h
    · rw [ha] at h
      cases h
    · simp only [imageEndRule, ha]
      exact (u.tested_one _ _).2 (by simp [h])

theorem State.endImage_of_new (h : ∀ i, ∀ c ∈ u.check i, c.key ≠ a.key) :
    u.endImage a = u.placeImage a := by
  simp only [State.endImage, State.findKey_of_none h]

theorem State.endImage_of_found (hc : u.check i = some c) (hk : c.key = a.key)
    (hfirst : ∀ j, j < i → ∀ d ∈ u.check j, d.key ≠ a.key) :
    u.endImage a = u.endImageAt a i c := by
  simp only [State.endImage, State.findKey_of_first hc hk hfirst, hc]

/-- Rules 2 to 7 of R127, verdict by verdict. -/
theorem State.endImageAt_cases (u : State) (a : Assembly) (i : Fin 64) (c : Check) :
    (NoNewer c a.server →
      u.endImageAt a i c = ⟨.stale, imageRefusalBody (some i), u.discardAssembly⟩) ∧
    (¬NoNewer c a.server →
      (u.imageVerdict i c a.owner = .closing →
        u.endImageAt a i c = ⟨.state, imageRefusalBody (some i), u.discardAssembly⟩) ∧
      (u.imageVerdict i c a.owner = .defer → u.endImageAt a i c =
        ⟨.deferred, imageRefusalBody (some i),
          u.takeAssembly.deferImage i ⟨a.server, .image a.owner a.covers a.seats a.items⟩⟩) ∧
      (u.imageVerdict i c a.owner = .echo →
        let t := (u.discardOlder i a.server).discardAssembly.setServer i a.server
        u.endImageAt a i c = t.accept (t.imageBody i)) ∧
      (u.imageVerdict i c a.owner = .apply →
        let t := u.takeAssembly.applyImage i a.server a.owner a.covers a.seats a.items
        u.endImageAt a i c = t.accept (t.imageBody i))) := by
  rw [noNewer_iff]
  unfold State.endImageAt
  refine ⟨fun h => if_pos h, fun h => ⟨fun hv => ?_, fun hv => ?_, fun hv => ?_, fun hv => ?_⟩⟩
  all_goals
    rw [if_neg h]
    simp only [hv]

/-- An assembly that leaves an older pending image behind (R130). -/
theorem State.echo_effect (hc : u.check i = some c) (server : Nat) :
    let w := (u.discardOlder i server).discardAssembly.setServer i server
    w.check i = some { c with server := some server, image := (olderGone c server).1 } ∧
      OnlyEntry u w i ∧
      w.pool.free = u.pool.free ++ (olderGone c server).2 ++ u.assemblyRecords ∧
      w = { u.assemblyMoved with table := w.table, pool := w.pool } := by
  obtain ⟨hcheck, hpool⟩ := State.discardOlder_of_check hc server
  have hfloor : (u.discardOlder i server).floor = u.floor := by simp
  have hrecords : (u.discardOlder i server).assemblyRecords = u.assemblyRecords := by
    simp only [State.assemblyRecords, hfloor]
  intro w
  have hw : w = ((u.discardOlder i server).withoutAssembly).setServer i server := by
    simp only [w, State.discardAssembly_eq]
  rw [hw]
  refine ⟨?_, (State.onlyEntry_discardOlder u i server).trans ((State.onlyEntry_of_table rfl).trans
    (State.onlyEntry_modCheck _ i _)), ?_, ?_⟩
  · rw [State.setServer, State.check_modCheck, if_pos rfl]
    exact congrArg (Option.map _) hcheck
  · simp [State.setServer, hpool, hrecords]
  · apply State.ext_fields <;> simp [State.setServer]

/-- The check that a new-key image places (R128). -/
theorem Assembly.newCheck_evaluate (a : Assembly) (scope : Scope) (rate : Nat) :
    (a.newCheck scope rate).evaluate =
      { state := .opened, key := a.key, scope := scope, owner := a.owner, revision := 1, uplinked := 1
        server := some a.server, covers := a.covers, seats := a.seats, items := a.items
        nextSerial := (a.items.map Item.serial).foldl max 0 + 1, subtotal := liveSum a.items
        tax := liveSum a.items * rate / 10000
        due := liveSum a.items + liveSum a.items * rate / 10000, approved := 0, reserved := 0
        tips := 0, overpaid := false, plan := none, hold := none, waiters := []
        image := none, pendingUplink := 0 } := by
  have hstate (due : Nat) : evaluatedState 0 due 0 = .opened := by
    rw [evaluatedState, if_neg (Nat.lt_irrefl 0), if_neg fun h => absurd h.1 (Nat.not_lt.2 h.2)]
  have hover (due : Nat) : decide (due < 0) = false := decide_eq_false (Nat.not_lt_zero due)
  have hreserved : (a.newCheck scope rate).reserved = 0 := rfl
  have happroved : (a.newCheck scope rate).approved = 0 := rfl
  rw [Check.evaluate, hreserved, happroved, hstate, hover]
  rfl

end

/-- Settles O49, by the entry that carries the key and the verdict on the image. -/
theorem imageEndAppliesRules : Obligations.ImageEndAppliesRules := by
  unfold Obligations.ImageEndAppliesRules
  intro x s u he hs answers applied
  refine ⟨fun h => exec_of_served rfl he hs (imageEndRule_refused h), fun a ha hidle => ?_⟩
  have hanswers {o : ReplyOutcome} {body : List Byte} {w : State} (h : u.endImage a = ⟨o, body, w⟩) :
      answers o body w := by
    refine exec_of_served rfl he hs ((imageEndRule_of_assembly ha hidle).trans ?_)
    rw [h]
    rfl
  refine ⟨fun hnew => ⟨fun hfull => ?full, fun i v hplace => ?placed⟩, fun i c hc hk hfirst => ?found⟩
  case full =>
    refine hanswers ((State.endImage_of_new hnew).trans ?_)
    simp only [State.placeImage, hfull, State.discardAssembly_eq]
    rfl
  case placed =>
    have hscope : u.scopeOf a.owner =
        if u.modes.terminalId = some a.owner then .owned else .foreign := by
      simp only [State.scopeOf, eq_comm]
    have hcheck : ((v.takeAssembly.putCheck i (some ((a.newCheck (u.scopeOf a.owner)
        u.modes.taxRate).evaluate))).raise .console .floorChange).check i =
        some ((a.newCheck (u.scopeOf a.owner) u.modes.taxRate).evaluate) :=
      (State.check_putCheck _ i i _).trans (if_pos rfl)
    refine ⟨(v.takeAssembly.putCheck i (some ((a.newCheck (u.scopeOf a.owner)
      u.modes.taxRate).evaluate))).raise .console .floorChange,
      hanswers ((State.endImage_of_new hnew).trans ?_), ?_,
      State.onlyEntry_putCheck v.takeAssembly i _, rfl, rfl⟩
    · simp only [State.placeImage, hplace]
      rw [State.accept, State.imageBody, State.entryState_of_check hcheck, hcheck,
        Assembly.newCheck_evaluate]
      rfl
    · rw [hcheck, Assembly.newCheck_evaluate, hscope]
  case found =>
    obtain ⟨hstale, hrest⟩ := u.endImageAt_cases a i c
    have hend := State.endImage_of_found hc hk hfirst
    obtain ⟨vclosing, vwait, vfree⟩ := u.imageVerdict_cases i c a.owner
    have hdeferred : Deferred u.assemblyMoved (u.takeAssembly.deferImage i
        ⟨a.server, .image a.owner a.covers a.seats a.items⟩) i c
        ⟨a.server, .image a.owner a.covers a.seats a.items⟩ :=
      State.deferred_deferImage (u := u.takeAssembly) hc _
    rw [State.discardAssembly_eq] at hstale hrest
    refine ⟨fun hn => hanswers (hend.trans (hstale hn)), fun hn => ?_⟩
    obtain ⟨hclosing, hdefer, hecho, happly⟩ := hrest hn
    refine ⟨fun h => hanswers (hend.trans (hclosing (vclosing h))),
      fun h hw => ⟨_, hanswers (hend.trans (hdefer (vwait h hw))), hdeferred⟩, fun h hw => ?_⟩
    obtain ⟨vecho, vtransfer, vapply⟩ := vfree h hw
    exact ⟨fun hscope ho => ⟨_, hanswers (hend.trans (hecho (vecho hscope ho))),
        State.echo_effect hc a.server⟩,
      fun hscope ho ht => ⟨_, hanswers (hend.trans (hdefer (vtransfer hscope ho ht))), hdeferred⟩,
      fun hfree => hanswers (hend.trans (happly (vapply hfree)))⟩

end Sys2Proof.Machine
end

section
/-!
SUPPORT. The loss of the link (R120, R121, R155).
-/

namespace Sys2Proof.Machine

/-! ### Superseded DELTA records -/

/-- A DELTA record that a later record of its entry supersedes (R155). -/
def UplinkRecord.superseded (r : UplinkRecord) (rest : List UplinkRecord) : Bool :=
  r.body.code == 1 && r.index.isSome &&
    rest.any (fun q => (q.body.code == 1 || q.body.code == 3) && q.index == r.index)

/-- The superseded records of a queue, or those that stay. -/
def parted (drop : Bool) : List UplinkRecord → List UplinkRecord
  | [] => []
  | r :: rest => if r.superseded rest = drop then r :: parted drop rest else parted drop rest

/-- The statement's reading of a queue by its tails. -/
theorem tails_filterMap_eq_parted {drop : Bool} {f : List UplinkRecord → Option UplinkRecord}
    (hnil : f [] = none)
    (hcons : ∀ r rest, f (r :: rest) = if r.superseded rest = drop then some r else none)
    (l : List UplinkRecord) : l.tails.filterMap f = parted drop l := by
  induction l with
  | nil => simp [parted, hnil]
  | cons r rest ih =>
    rw [List.tails, List.filterMap_cons, hcons, ih, parted]
    by_cases h : r.superseded rest = drop
    · simp [h]
    · simp [h]

/-- A record that calls for an entry, by its code. -/
theorem UplinkRecord.callsFor_eq (q : UplinkRecord) (i : Fin 64) :
    q.callsFor i = ((q.body.code == 1 || q.body.code == 3) && q.index == some i) := by
  rw [Bool.eq_iff_iff, UplinkRecord.callsFor_iff]
  simp [and_comm]

/-- What is superseded is a DELTA record with a later record of its entry. -/
theorem UplinkRecord.superseded_iff (r : UplinkRecord) (rest : List UplinkRecord) :
    r.superseded rest = true ↔ (∃ n, r.body = .delta n) ∧
      ∃ i, r.index = some i ∧ (rest.any fun q => q.callsFor i) = true := by
  have hcode : r.body.code = 1 ↔ ∃ n, r.body = .delta n := by
    cases r.body <;> simp [RecordBody.code]
  cases hi : r.index with
  | none => simp [UplinkRecord.superseded, hi]
  | some i =>
    simp only [UplinkRecord.superseded, hi, Bool.and_eq_true, beq_iff_eq, hcode,
      UplinkRecord.callsFor_eq, Option.isSome_some, and_true, Option.some.injEq, exists_eq_left']

/-- One record of a queue that is superseded. -/
theorem supersede_of_superseded {r : UplinkRecord} {rest : List UplinkRecord}
    (h : r.superseded rest = true) (mark : Option Nat) : ∃ i, r.index = some i ∧
      supersede mark (r :: rest) =
        let out := supersede (if mark = some r.seq then rest.head?.map UplinkRecord.seq else mark) rest
        (out.1, out.2.1, i :: out.2.2) := by
  obtain ⟨⟨n, hn⟩, i, hi, hany⟩ := (r.superseded_iff rest).1 h
  refine ⟨i, hi, ?_⟩
  simp only [supersede, hn, hi, if_pos hany]

/-- One record of a queue that stays. -/
theorem supersede_of_kept {r : UplinkRecord} {rest : List UplinkRecord}
    (h : r.superseded rest = false) (mark : Option Nat) :
    supersede mark (r :: rest) =
      (r :: (supersede mark rest).1, (supersede mark rest).2.1, (supersede mark rest).2.2) := by
  cases hbody : r.body with
  | delta n =>
    cases hi : r.index with
    | none => simp only [supersede, hbody, hi]
    | some i =>
      have hany : ¬(rest.any fun q => q.callsFor i) = true := fun hany =>
        Bool.false_ne_true (h.symm.trans ((r.superseded_iff rest).2 ⟨⟨n, hbody⟩, i, hi, hany⟩))
      simp only [supersede, hbody, hi, if_neg hany]
  | settlement _ | close _ | resolve _ _ => simp only [supersede, hbody]

theorem supersede_kept (mark : Option Nat) (l : List UplinkRecord) :
    (supersede mark l).1 = parted false l := by
  induction l generalizing mark with
  | nil => rfl
  | cons r rest ih =>
    cases h : r.superseded rest with
    | true =>
      obtain ⟨i, -, hout⟩ := supersede_of_superseded h mark
      rw [hout, parted, h]
      exact ih _
    | false =>
      rw [supersede_of_kept h, parted, h]
      exact congrArg (r :: ·) (ih mark)

theorem supersede_gone_count (mark : Option Nat) (l : List UplinkRecord) (i : Fin 64) :
    (supersede mark l).2.2.count i =
      ((parted true l).filter fun r => r.index == some i).length := by
  induction l generalizing mark with
  | nil => rfl
  | cons r rest ih =>
    cases h : r.superseded rest with
    | true =>
      obtain ⟨j, hj, hout⟩ := supersede_of_superseded h mark
      rw [hout, parted, h, if_pos rfl]
      simp only [List.count_cons, ih, List.filter_cons, hj]
      by_cases hij : j = i <;> simp [hij]
    | false =>
      rw [supersede_of_kept h, parted, h]
      exact ih mark

/-! ### The mark -/

/-- The mark is not moved by records that do not carry it. -/
theorem supersede_mark_append {mark : Option Nat} {pre : List UplinkRecord}
    (h : ∀ d ∈ pre, mark ≠ some d.seq) (l : List UplinkRecord) :
    (supersede mark (pre ++ l)).2.1 = (supersede mark l).2.1 := by
  induction pre with
  | nil => rfl
  | cons d rest ih =>
    obtain ⟨hd, hrest⟩ := List.forall_mem_cons.1 h
    cases hs : d.superseded (rest ++ l) with
    | true =>
      obtain ⟨i, -, hout⟩ := supersede_of_superseded hs mark
      rw [List.cons_append, hout, if_neg hd]
      exact ih hrest
    | false =>
      rw [List.cons_append, supersede_of_kept hs]
      exact ih hrest

theorem supersede_mark_of_absent {mark : Option Nat} {l : List UplinkRecord}
    (h : ∀ d ∈ l, mark ≠ some d.seq) : (supersede mark l).2.1 = mark := by
  have happend := supersede_mark_append h []
  rwa [List.append_nil] at happend

/-- The mark stays with a record that stays. -/
theorem supersede_mark_of_kept {r : UplinkRecord} {post : List UplinkRecord}
    (hpost : ∀ d ∈ post, d.seq ≠ r.seq) (h : r.superseded post = false) :
    (supersede (some r.seq) (r :: post)).2.1 = some r.seq := by
  rw [supersede_of_kept h]
  exact supersede_mark_of_absent fun d hd he => hpost d hd (Option.some.inj he).symm

/-- The mark passes over superseded records to the next that stays. -/
theorem supersede_mark_passes {q : UplinkRecord} {more : List UplinkRecord}
    (hmore : ∀ d ∈ more, d.seq ≠ q.seq) (hq : q.superseded more = false) (mid : List UplinkRecord)
    (r : UplinkRecord) (hr : r.superseded (mid ++ q :: more) = true)
    (hmid : ∀ older d newer, mid = older ++ d :: newer →
      d.superseded (newer ++ q :: more) = true) :
    (supersede (some r.seq) (r :: (mid ++ q :: more))).2.1 = some q.seq := by
  obtain ⟨i, -, hout⟩ := supersede_of_superseded hr (some r.seq)
  rw [hout, if_pos rfl]
  induction mid generalizing r i with
  | nil => exact supersede_mark_of_kept hmore hq
  | cons d rest ih =>
    have hd : d.superseded (rest ++ q :: more) = true := hmid [] d rest rfl
    obtain ⟨j, -, hnext⟩ := supersede_of_superseded hd (some d.seq)
    have hlater := ih d hd (fun older e newer he => hmid (d :: older) e newer (by rw [he]; rfl)) j hnext
    change (supersede (some d.seq) (d :: (rest ++ q :: more))).2.1 = _
    rw [hnext, if_pos rfl]
    exact hlater

end Sys2Proof.Machine
end

section
/-!
SUPPORT. LINK_STATE DOWN (R120, R121).
-/

namespace Sys2Proof.Machine

/-- A record that returns to QUEUED. -/
def UplinkRecord.unsent (r : UplinkRecord) : UplinkRecord := { r with sent := false }

theorem UplinkRecord.superseded_unsent (r : UplinkRecord) (rest : List UplinkRecord) :
    r.unsent.superseded (rest.map UplinkRecord.unsent) = r.superseded rest := by
  simp [UplinkRecord.superseded, UplinkRecord.unsent, Function.comp_def]

/-- Of a queue with one record for each number, no other has the number of one. -/
theorem seq_ne_of_nodup {l pre post : List UplinkRecord} {r d : UplinkRecord}
    (hnodup : (l.map UplinkRecord.seq).Nodup) (hl : l = pre ++ r :: post)
    (hd : d ∈ pre ∨ d ∈ post) : d.seq ≠ r.seq := by
  subst hl
  rw [List.map_append, List.map_cons] at hnodup
  obtain ⟨-, hright, hdisjoint⟩ := List.nodup_append.1 hnodup
  obtain hd | hd := hd
  · exact hdisjoint _ (List.mem_map_of_mem hd) _ List.mem_cons_self
  · exact fun he => (List.nodup_cons.1 hright).1 (he ▸ List.mem_map_of_mem hd)

section
variable {u : State}

/-- The queue, the mark and the counts after the loss of the link. -/
theorem State.loseLink_uplink (u : State) :
    u.loseLink.uplink = { u.uplink with
      records := parted false (u.uplink.records.map UplinkRecord.unsent)
      mark := (supersede u.uplink.mark (u.uplink.records.map UplinkRecord.unsent)).2.1 } := by
  rw [← supersede_kept u.uplink.mark]
  unfold State.loseLink State.unsend
  exact foldl_keeps State.uncount State.uplink (fun u i => by simp) _ _

theorem State.loseLink_check (u : State) (i : Fin 64) :
    u.loseLink.check i = (u.check i).map fun c => { c with pendingUplink := c.pendingUplink -
      ((parted true (u.uplink.records.map UplinkRecord.unsent)).filter
        fun r => r.index == some i).length } := by
  rw [← supersede_gone_count u.uplink.mark]
  unfold State.loseLink State.unsend
  exact State.foldl_uncount_check _ _ i

/-- A count that is lowered leaves the scan of the table. -/
theorem State.uncount_scan (u : State) (i : Fin 64) :
    (u.uncount i).table.cursor = u.table.cursor ∧
      (u.uncount i).table.pinFloor = u.table.pinFloor :=
  (State.onlyEntry_modCheck u i _).2

/-- What the loss of the link leaves of the queue is what the statements call returned. -/
theorem State.recordsReturned_loseLink (u : State) : RecordsReturned u u.loseLink := by
  have huplink := u.loseLink_uplink
  unfold RecordsReturned
  intro gone unsent keep
  have hparted (drop : Bool) : keep drop =
      parted drop (u.uplink.records.map UplinkRecord.unsent) :=
    tails_filterMap_eq_parted rfl (fun _ _ => rfl) _
  refine ⟨?uplink, fun hnone => ?unmarked, fun pre r post hnodup hrecords hmark => ?marked,
    fun i => ?check, ?cursor, ?pinFloor⟩
  case uplink =>
    rw [hparted, huplink]
  case unmarked =>
    rw [huplink, hnone]
    exact supersede_mark_of_absent fun _ _ h => nomatch h
  case marked =>
    have hmarked : u.loseLink.uplink.mark = (supersede (some r.seq)
        (r.unsent :: post.map UplinkRecord.unsent)).2.1 := by
      rw [huplink]
      dsimp only
      rw [hmark, hrecords, List.map_append, List.map_cons]
      refine supersede_mark_append (fun d hd he => ?_) _
      obtain ⟨e, hmem, rfl⟩ := List.mem_map.1 hd
      exact seq_ne_of_nodup hnodup hrecords (.inl hmem) (Option.some.inj he).symm
    have hpost : ∀ d ∈ post.map UplinkRecord.unsent, d.seq ≠ r.unsent.seq := fun d hd => by
      obtain ⟨e, hmem, rfl⟩ := List.mem_map.1 hd
      exact seq_ne_of_nodup (r := r) (d := e) hnodup hrecords (.inr hmem)
    refine ⟨fun hstays => ?stays, fun mid q more hpost' hgone hmid hq => ?passes⟩
    case stays =>
      rw [hmarked]
      exact supersede_mark_of_kept hpost ((r.superseded_unsent post).trans hstays)
    case passes =>
      have hmore : ∀ d ∈ more.map UplinkRecord.unsent, d.seq ≠ q.unsent.seq := fun d hd => by
        obtain ⟨e, hmem, rfl⟩ := List.mem_map.1 hd
        refine seq_ne_of_nodup (r := q) (d := e) (pre := pre ++ r :: mid) hnodup ?_ (.inr hmem)
        rw [hrecords, hpost', List.append_assoc]
        rfl
      have hmap (newer : List UplinkRecord) : (newer.map UplinkRecord.unsent ++
          q.unsent :: more.map UplinkRecord.unsent) =
            (newer ++ q :: more).map UplinkRecord.unsent := by
        rw [List.map_append, List.map_cons]
      rw [hmarked, hpost', ← hmap]
      refine supersede_mark_passes hmore ((q.superseded_unsent more).trans hq) _ r.unsent ?_
        fun older d newer he => ?_
      · rw [hmap, ← hpost']
        exact (r.superseded_unsent post).trans hgone
      · obtain ⟨older', tail, hmid', -, htail⟩ := List.map_eq_append_iff.1 he
        obtain ⟨d', newer', rfl, rfl, rfl⟩ := List.map_eq_cons_iff.1 htail
        rw [hmap]
        exact (d'.superseded_unsent _).trans (hmid older' d' newer' hmid')
  case check => rw [State.loseLink_check, hparted]
  all_goals unfold State.loseLink State.unsend
  case cursor =>
    exact foldl_keeps State.uncount (fun u => u.table.cursor) (fun u i => (u.uncount_scan i).1) _ _
  case pinFloor =>
    exact foldl_keeps State.uncount (fun u => u.table.pinFloor) (fun u i => (u.uncount_scan i).2) _ _

theorem recordsReturned_congr {v w : State} (h : RecordsReturned u v)
    (htable : w.table = v.table) (huplink : w.uplink = v.uplink) : RecordsReturned u w := by
  unfold RecordsReturned State.check at h ⊢
  rw [htable, huplink]
  exact h

/-- `abortImage` changes no block but attn, streams. -/
@[simp] theorem State.abortImage_frame (s : State) :
      s.abortImage.pending = s.pending ∧
      s.abortImage.ports = s.ports ∧
      s.abortImage.table = s.table ∧
      s.abortImage.staging = s.staging ∧
      s.abortImage.pool = s.pool ∧
      s.abortImage.holds = s.holds ∧
      s.abortImage.ring = s.ring ∧
      s.abortImage.offline = s.offline ∧
      s.abortImage.totals = s.totals ∧
      s.abortImage.floor = s.floor ∧
      s.abortImage.uplink = s.uplink ∧
      s.abortImage.modes = s.modes := by
  unfold State.abortImage
  split
  · split <;> simp [State.failStream]
  · simp

/-- The IMAGE stream after the loss of the link. -/
theorem State.abortImage_effect (u : State) :
    u.abortImage.attn = { u.attn with
        flags := u.attn.flags.set .link (withFlag u.attn.flags.link
          u.streams.link.carriesImage .streamEnd .link) } ∧
      (∀ st, u.streams.link.running = some st → u.abortImage.streams = u.streams.set .link
        (if st.target = .image then .aborted st (.refused .linkDown) else u.streams.link)) ∧
      (u.streams.link.running = none → u.abortImage.streams = u.streams) := by
  cases hrun : u.streams.link.running with
  | none =>
    have hcarries : u.streams.link.carriesImage = false := by simp only [Channel.carriesImage, hrun]
    have habort : u.abortImage = u := by simp only [State.abortImage, hrun]
    rw [habort, hcarries]
    exact ⟨rfl, fun _ h => (nomatch h), fun _ => rfl⟩
  | some st =>
    have hcarries : u.streams.link.carriesImage = decide (st.target = .image) := by
      simp only [Channel.carriesImage, hrun]
    by_cases ht : st.target = .image
    · have habort : u.abortImage = u.failStream .link st .linkDown := by
        simp only [State.abortImage, hrun, if_pos ht]
      rw [habort, hcarries, decide_eq_true ht]
      refine ⟨rfl, fun st' h => ?_, fun h => (nomatch h)⟩
      obtain rfl := Option.some.inj h
      rw [if_pos ht]
      rfl
    · have habort : u.abortImage = u := by simp only [State.abortImage, hrun, if_neg ht]
      rw [habort, hcarries, decide_eq_false ht]
      refine ⟨rfl, fun st' h => ?_, fun h => (nomatch h)⟩
      obtain rfl := Option.some.inj h
      rw [if_neg ht]
      rfl

end

/-- Settles O46, by the link, the queue and the IMAGE stream. -/
theorem linkDownReturnsSent : Obligations.LinkDownReturnsSent := by
  unfold Obligations.LinkDownReturnsSent
  intro x s u he hs
  refine ⟨fun hdown => exec_of_served rfl he hs ?down, fun hup => ?up⟩
  case down =>
    rw [linkDownRule, if_pos hdown, State.linkBody, hdown]
    rfl
  case up =>
    have hrule : linkDownRule u =
        u.loseLink.abortImage.withoutAssembly.accept u.loseLink.abortImage.withoutAssembly.linkBody := by
      rw [linkDownRule, if_neg (by simp [hup])]
      simp only [State.discardAssembly_eq]
    have hfloor : u.loseLink.abortImage.floor = { u.floor with link := .down } := by
      simp [State.loseLink]
    have hrecords : u.loseLink.abortImage.assemblyRecords = u.assemblyRecords := by
      simp only [State.assemblyRecords, hfloor]
    obtain ⟨hattn, hrunning, hidle⟩ := u.loseLink.abortImage_effect
    have hstreams : u.loseLink.streams = u.streams := by simp
    rw [hstreams] at hrunning hidle hattn
    refine ⟨u.loseLink.abortImage.withoutAssembly, exec_of_served rfl he hs (hrule.trans ?answer), ?floor,
      ?pool, ?returned, ?streams, ?attn, ?frame⟩
    case answer =>
      have hlink : u.loseLink.abortImage.withoutAssembly.floor.link = .down :=
        congrArg FloorSync.link hfloor
      rw [State.linkBody, hlink]
      rfl
    case floor =>
      change { u.loseLink.abortImage.floor with assembly := none } = _
      rw [hfloor]
    case pool => simp [hrecords]
    case returned =>
      exact recordsReturned_congr u.recordsReturned_loseLink (by simp) (by simp)
    case streams =>
      cases hrun : u.streams.link.running with
      | none => exact hidle hrun
      | some st => exact hrunning st hrun
    case attn =>
      refine hattn.trans ?_
      simp
    case frame => apply State.ext_fields <;> simp

end Sys2Proof.Machine
end

section
/-!
SUPPORT. UPLINK_ACK (R111, R153, R154).
-/

namespace Sys2Proof.Machine

/-! ### The records removed -/

theorem ackSplit_of_first {pre post : List UplinkRecord} {r : UplinkRecord} {n : Nat}
    (hpre : ∀ q ∈ pre, q.sent = true ∧ q.seq ≠ n) (hsent : r.sent = true) (hr : r.seq = n) :
    ackSplit n (pre ++ r :: post) = some (pre ++ [r], post) := by
  induction pre with
  | nil => exact if_pos ⟨hsent, hr⟩
  | cons q rest ih =>
    obtain ⟨⟨hq, hne⟩, hrest⟩ := List.forall_mem_cons.1 hpre
    rw [List.cons_append, ackSplit, if_neg fun h => hne h.2, ih hrest]
    exact if_pos hq

theorem ackSplit_of_none {l : List UplinkRecord} {n : Nat}
    (h : ∀ r ∈ l, r.sent = true → r.seq ≠ n) : ackSplit n l = none := by
  induction l with
  | nil => rfl
  | cons r rest ih =>
    obtain ⟨hr, hrest⟩ := List.forall_mem_cons.1 h
    rw [ackSplit, if_neg fun hboth => hr hboth.1 hboth.2, ih hrest]

/-- The state in which the records of an acknowledgement are settled. -/
def State.acknowledged (u : State) (gone kept : List UplinkRecord) : State :=
  gone.foldl State.settleRecord (u.setUplink { u.uplink with records := kept })

theorem State.settleRecord_scan (s : State) (r : UplinkRecord) :
    (s.settleRecord r).table.cursor = s.table.cursor ∧
      (s.settleRecord r).table.pinFloor = s.table.pinFloor := by
  unfold State.settleRecord
  cases r.index with
  | none => cases r.offlineAmount <;> exact ⟨rfl, rfl⟩
  | some i => cases r.offlineAmount <;> exact s.uncount_scan i

theorem State.recordsSettled_acknowledged (u : State) (gone kept : List UplinkRecord) :
    RecordsSettled u (u.acknowledged gone kept) gone kept := by
  obtain ⟨hpending, hports, hattn, -, hstaging, hpool, hholds, hring, -, htotals, hfloor, huplink,
    hstreams, hmodes⟩ := SameBut.foldl _ State.settleRecord_same
      (u.setUplink { u.uplink with records := kept }) gone
  have hoffline := State.foldl_settleRecord_offline gone
    (u.setUplink { u.uplink with records := kept })
  refine ⟨fun i => ?check, ?cursor, ?pinFloor, huplink (by simp), hoffline, ?frame⟩
  case check =>
    have hcount : (gone.map UplinkRecord.index).count (some i) =
        (gone.filter fun q => q.index == some i).length := by
      rw [List.count_eq_countP, List.countP_map, List.countP_eq_length_filter]
      rfl
    rw [State.acknowledged, State.foldl_settleRecord_check, hcount]
    rfl
  case cursor =>
    exact foldl_keeps State.settleRecord (fun s => s.table.cursor)
      (fun s r => (s.settleRecord_scan r).1) _ _
  case pinFloor =>
    exact foldl_keeps State.settleRecord (fun s => s.table.pinFloor)
      (fun s r => (s.settleRecord_scan r).2) _ _
  case frame =>
    exact State.ext_fields (hpending (by simp)) (hports (by simp)) (hattn (by simp)) rfl
      (hstaging (by simp)) (hpool (by simp)) (hholds (by simp)) (hring (by simp)) rfl
      (htotals (by simp)) (hfloor (by simp)) rfl (hstreams (by simp)) (hmodes (by simp))

/-! ### What touches one entry -/

section
variable {u : State} {i : Fin 64}

theorem State.onlyEntry_refl (u : State) (i : Fin 64) : OnlyEntry u u i := State.onlyEntry_of_table rfl

theorem State.onlyEntry_freeEntry (u : State) (i : Fin 64) : OnlyEntry u (u.freeEntry i) i := by
  cases hc : u.check i with
  | none =>
    rw [State.freeEntry_of_free hc]
    exact u.onlyEntry_refl i
  | some c =>
    obtain ⟨-, honly, -⟩ := freedEntryReleasesAll u i c hc
    exact honly

theorem State.onlyEntry_enterConflict (u : State) (i : Fin 64) (k : ConflictKind) :
    OnlyEntry u (u.enterConflict i k) i :=
  (u.onlyEntry_modCheck i _).trans ((State.onlyEntry_cancelPosted _ i).trans
    (State.onlyEntry_raise _ _ _ i))

theorem State.onlyEntry_settleImage (u : State) (i : Fin 64) : OnlyEntry u (u.settleImage i) i := by
  unfold State.settleImage
  split
  · split
    · exact u.onlyEntry_enterConflict i _
    · exact u.onlyEntry_modCheck i _
  · exact u.onlyEntry_refl i

theorem State.onlyEntry_applyImage (u : State) (i : Fin 64) (server owner covers seats : Nat)
    (items : List Item) : OnlyEntry u (u.applyImage i server owner covers seats items) i := by
  cases hc : u.check i with
  | none =>
    simp only [State.applyImage, hc]
    exact u.onlyEntry_refl i
  | some c =>
    rw [State.applyImage_of_check hc]
    exact (State.onlyEntry_imageTaken _ _ _ _ _).trans (State.onlyEntry_settleImage _ i)

theorem State.onlyEntry_applyRetire (u : State) (i : Fin 64) (server : Nat) :
    OnlyEntry u (u.applyRetire i server) i := by
  unfold State.applyRetire
  dsimp only
  refine (State.onlyEntry_retireTaken server).trans (OnlyEntry.trans ?_ (State.onlyEntry_raise _ _ _ i))
  unfold State.retireTaken
  split
  · split
    · exact State.onlyEntry_enterConflict _ i _
    · split
      · exact State.onlyEntry_modCheck _ i _
      · exact State.onlyEntry_freeEntry _ i
  · exact State.onlyEntry_refl _ i

theorem State.onlyEntry_setServer (u : State) (i : Fin 64) (server : Nat) :
    OnlyEntry u (u.setServer i server) i := u.onlyEntry_modCheck i _

theorem State.onlyEntry_takePending (u : State) (i : Fin 64) : OnlyEntry u (u.takePending i) i :=
  u.onlyEntry_modCheck i _

theorem State.onlyEntry_tryPending (u : State) (i : Fin 64) : OnlyEntry u (u.tryPending i) i := by
  unfold State.tryPending
  split
  · exact u.onlyEntry_refl i
  · split
    · exact u.onlyEntry_refl i
    · split
      · exact u.onlyEntry_discardImage i
      · split
        · split
          · exact u.onlyEntry_discardImage i
          · exact u.onlyEntry_refl i
          · exact (u.onlyEntry_discardImage i).trans (State.onlyEntry_setServer _ i _)
          · exact (u.onlyEntry_takePending i).trans (State.onlyEntry_applyImage _ i _ _ _ _ _)
        · split
          · exact (u.onlyEntry_discardImage i).trans (State.onlyEntry_setServer _ i _)
          · split
            · exact u.onlyEntry_refl i
            · exact (u.onlyEntry_takePending i).trans (State.onlyEntry_applyRetire _ i _)

/-! ### Along the entries -/

/-- A CLOSING entry with no record left. -/
def State.doneAt (s : State) (i : Fin 64) : Bool :=
  (s.check i).any fun c => decide (c.state = .closing ∧ c.pendingUplink = 0)

theorem State.freeIfDone_eq (s : State) (i : Fin 64) :
    s.freeIfDone i = if s.doneAt i then s.freeEntry i else s := by
  cases hc : s.check i with
  | none => simp [State.freeIfDone, State.doneAt, hc]
  | some c => simp [State.freeIfDone, State.doneAt, hc]

theorem State.foldl_freeIfDone (l : List (Fin 64)) (hnodup : l.Nodup) (s t : State)
    (h : ∀ i ∈ l, s.check i = t.check i) :
    l.foldl State.freeIfDone s = (l.filter t.doneAt).foldl State.freeEntry s := by
  induction l generalizing s with
  | nil => rfl
  | cons i rest ih =>
    obtain ⟨hi, hrest⟩ := List.nodup_cons.1 hnodup
    obtain ⟨hci, hcrest⟩ := List.forall_mem_cons.1 h
    have hdone : s.doneAt i = t.doneAt i := by rw [State.doneAt, hci, ← State.doneAt]
    rw [List.foldl_cons, State.freeIfDone_eq, hdone]
    cases hd : t.doneAt i with
    | true =>
      rw [List.filter_cons_of_pos hd, List.foldl_cons, if_pos rfl]
      refine ih hrest _ fun j hj => ?_
      obtain ⟨hothers, -⟩ := s.onlyEntry_freeEntry i
      exact (hothers j fun he => hi (he ▸ hj)).trans (hcrest j hj)
    | false =>
      rw [List.filter_cons_of_neg (by simp [hd]), if_neg Bool.false_ne_true]
      exact ih hrest s hcrest

theorem State.foldl_freeEntry_check (l : List (Fin 64)) (s : State) (i : Fin 64) :
    (l.foldl State.freeEntry s).check i = if i ∈ l then none else s.check i := by
  induction l generalizing s with
  | nil => simp
  | cons j rest ih =>
    obtain ⟨hothers, -⟩ := s.onlyEntry_freeEntry j
    rw [List.foldl_cons, ih]
    by_cases hrest : i ∈ rest
    · simp [hrest]
    · by_cases hij : i = j
      · subst hij
        simp [hrest, State.freeEntry_check]
      · simp [hrest, hij, hothers i hij]

/-- An entry that keeps nothing waiting is not changed by what is tried again. -/
theorem State.foldl_tryPending_check (l : List (Fin 64)) (s : State)
    (h : ∀ c ∈ s.check i, c.image = none) : (l.foldl State.tryPending s).check i = s.check i := by
  induction l generalizing s with
  | nil => rfl
  | cons j rest ih =>
    have hstep : (s.tryPending j).check i = s.check i := by
      by_cases hij : i = j
      · subst hij
        cases hc : s.check i with
        | none => simp [State.tryPending, hc]
        | some c => rw [State.tryPending_of_none hc (h c hc), hc]
      · exact (s.onlyEntry_tryPending j).1 i hij
    rw [List.foldl_cons, ih _ (hstep ▸ h), hstep]

end

/-! ### DELIVERED and UPLINK_READY -/

theorem State.deliver_eq (s : State) (gone : List UplinkRecord) :
    let delivered := gone.any fun q => decide (s.uplink.mark = some q.seq)
    s.deliver gone = { s with
      uplink := { s.uplink with mark := if delivered then none else s.uplink.mark }
      attn := { s.attn with flags := { s.attn.flags with
        console := withFlag s.attn.flags.console delivered .delivered .console } } } := by
  intro delivered
  cases hmark : s.uplink.mark with
  | none =>
    have hno : delivered = false := by simp [delivered, hmark]
    simp only [State.deliver, hmark, hno]
    rw [withFlag_false, ← hmark]
    rfl
  | some n =>
    have hsame : (gone.any fun r => decide (r.seq = n)) = delivered := by
      simp [delivered, hmark, eq_comm]
    simp only [State.deliver, hmark, hsame]
    cases delivered with
    | false =>
      rw [withFlag_false, ← hmark]
      rfl
    | true => rfl

theorem State.readyAgain_eq (s : State) :
    s.readyAgain = { s with attn := { s.attn with flags := { s.attn.flags with
      link := withFlag s.attn.flags.link (s.uplink.records.any (fun q => !q.sent) &&
        decide (s.sentCount < s.uplink.window)) .uplinkReady .link } } } := by
  have hqueued : (s.uplink.records.any fun q => !q.sent) = s.hasQueued := rfl
  rw [hqueued, State.readyAgain]
  cases s.hasQueued with
  | false => rfl
  | true =>
    by_cases hw : s.sentCount < s.uplink.window
    · rw [if_pos ⟨rfl, hw⟩, decide_eq_true hw]
      rfl
    · rw [if_neg fun h => hw h.2, decide_eq_false hw]
      rfl

/-- What steps 4 and 5 of R154 leave. -/
theorem State.deliver_readyAgain (z : State) (gone : List UplinkRecord) :
    let delivered := gone.any fun q => decide (z.uplink.mark = some q.seq)
    (z.deliver gone).readyAgain = { z with
      uplink := { z.uplink with mark := if delivered then none else z.uplink.mark }
      attn := { z.attn with flags :=
        ⟨withFlag z.attn.flags.console delivered .delivered .console, z.attn.flags.tender,
          withFlag z.attn.flags.link (z.uplink.records.any (fun q => !q.sent) &&
            decide (z.sentCount < z.uplink.window)) .uplinkReady .link⟩ } } := by
  intro delivered
  rw [State.readyAgain_eq, State.deliver_eq]
  rfl

/-- The order of R154, with the entries that each step concerns. -/
theorem State.afterAck_eq (t : State) (gone : List UplinkRecord) :
    t.afterAck gone = (((((allIdx.filter fun i => gone.any fun q => q.index == some i).foldl
      State.tryPending ((allIdx.filter t.doneAt).foldl State.freeEntry t)).scheduleDeltas).deliver
        gone).readyAgain) := by
  have hretry (s : State) : (allIdx.filter fun i => gone.any fun q => q.index == some i).foldl
      State.tryPending s = allIdx.foldl (State.retryNamed gone) s := List.foldl_filter
  rw [State.afterAck, State.foldl_freeIfDone allIdx allIdx_nodup t t fun _ _ => rfl, hretry]

/-- Settles O53, along the order of R154. -/
theorem uplinkAckRemovesRecords : Obligations.UplinkAckRemovesRecords := by
  unfold Obligations.UplinkAckRemovesRecords
  intro x seq s u he hs
  refine ⟨fun h => ?zero, fun h hnone => ?unknown, fun pre r post h hrecords hpre hsent hr => ?acked⟩
  case zero => exact exec_of_served rfl he hs ((u.tested_one _ _).2 (by simp [h]))
  case unknown =>
    refine exec_of_served rfl he hs (((u.tested_one _ _).1 (by simpa using h)).trans ?_)
    simp only [ackSplit_of_none hnone]
    rfl
  case acked =>
    intro gone named
    have hsplit : ackSplit seq.toNat u.uplink.records = some (gone, post) := by
      rw [hrecords]
      exact ackSplit_of_first hpre hsent hr
    have hsettled := u.recordsSettled_acknowledged gone post
    refine ⟨u.acknowledged gone post, hsettled, ?_⟩
    intro done freed retried z delivered waits
    obtain ⟨-, -, -, huplink, -⟩ := id hsettled
    have hretried : retried.uplink = (u.acknowledged gone post).uplink :=
      (foldl_keeps State.tryPending State.uplink (fun s i => by simp) _ _).trans
        (foldl_keeps State.freeEntry State.uplink (fun s i => by simp) _ _)
    obtain ⟨placed, hplaced⟩ : ∃ placed, DeltasPlaced retried z placed :=
      ⟨_, retried.deltasPlaced_scheduleDeltas⟩
    obtain ⟨new, hnew, hqueue⟩ := hplaced.uplink
    have hmark : z.uplink.mark = u.uplink.mark := by
      rw [hqueue, hretried, huplink]
    have hwindow : z.uplink.window = u.uplink.window := by
      rw [hqueue, hretried, huplink]
    have hwaits : waits = (z.uplink.records.any (fun q => !q.sent) &&
        decide (z.sentCount < z.uplink.window)) := by
      rw [hwindow]
    have hfreed (i : Fin 64) : freed.check i =
        if done i then none else (u.acknowledged gone post).check i := by
      rw [State.foldl_freeEntry_check]
      have hmem : i ∈ allIdx.filter done ↔ done i = true :=
        List.mem_filter.trans (and_iff_right (mem_allIdx i))
      simp only [hmem]
    refine ⟨exec_of_served rfl he hs (((u.tested_one _ _).1 (by simpa using h)).trans ?_), hfreed, new,
      ?records, ?content, fun i hi => ?free, fun i c hi himage => ?check⟩
    · have hafter : (u.acknowledged gone post).afterAck gone = (z.deliver gone).readyAgain :=
        (u.acknowledged gone post).afterAck_eq gone
      simp only [hsplit]
      change State.accept ((u.acknowledged gone post).afterAck gone) (be1 gone.length) = _
      rw [hafter, State.deliver_readyAgain, hmark, hwaits]
      rfl
    case records =>
      rw [hqueue, hretried, huplink]
    case content =>
      intro q hq
      obtain ⟨hq, i, c, -, -, -, hbody⟩ := hnew.content q hq
      exact ⟨hq, by rw [hbody]; rfl⟩
    case free =>
      rw [hplaced.check, State.foldl_tryPending_check _ _ (by simp [hi]), hi]
      rfl
    case check =>
      rw [hplaced.check, State.foldl_tryPending_check _ _ (by simpa [hi] using himage), hi]
      have hnamed : new.any (fun q => q.index == some i) = true ↔ i ∈ placed := by
        have hindex : some i ∈ new.map UplinkRecord.index ↔ some i ∈ placed.map some := by
          rw [hnew.index]
        rw [List.mem_map_of_injective (Option.some_injective _)] at hindex
        rw [← hindex, List.any_eq_true, List.mem_map]
        exact exists_congr fun q => and_congr_right fun _ => beq_iff_eq
      simp only [hnamed]
      rfl

end Sys2Proof.Machine
end

section
/-!
SUPPORT. STREAM_OPEN (R161, R162, R164).
-/

namespace Sys2Proof.Machine

/-! ### Test by test -/

theorem State.tested_pass (u : State) {b : Bool} (h : b = true) (o : ReplyOutcome)
    (rest : List (Bool × ReplyOutcome)) (a : Ans) : u.tested ((b, o) :: rest) a = u.tested rest a := by
  subst h
  rfl

theorem State.tested_fail (u : State) {b : Bool} (h : ¬b = true) (o : ReplyOutcome)
    (rest : List (Bool × ReplyOutcome)) (a : Ans) : u.tested ((b, o) :: rest) a = u.refuse o := by
  rw [Bool.not_eq_true] at h
  subst h
  rfl

/-! ### The fields of a STREAM_OPEN -/

theorem Byte.toNat_le_one_iff (b : Byte) : b.toNat ≤ 1 ↔ b = 0 ∨ b = 1 := by
  rw [← BitVec.toNat_inj, ← BitVec.toNat_inj]
  change _ ↔ b.toNat = 0 ∨ b.toNat = 1
  omega

theorem direction?_eq_some_iff (b : Byte) (d : Direction) :
    direction? b = some d ↔ (b = 0 ∧ d = .forward) ∨ (b = 1 ∧ d = .backward) := by
  unfold direction?
  split
  · next h => subst h; simp [eq_comm]
  · next h0 =>
    split
    · next h => subst h; simp [eq_comm]
    · next h1 => simpa using ⟨fun h => absurd h h0, fun h => absurd h h1⟩

theorem direction?_isSome_iff (b : Byte) : (∃ d, direction? b = some d) ↔ b.toNat ≤ 1 := by
  simp only [direction?_eq_some_iff, Byte.toNat_le_one_iff]
  constructor
  · rintro ⟨d, ⟨h, -⟩ | ⟨h, -⟩⟩
    · exact .inl h
    · exact .inr h
  · rintro (h | h)
    · exact ⟨_, .inl ⟨h, rfl⟩⟩
    · exact ⟨_, .inr ⟨h, rfl⟩⟩

theorem openFieldsOk_iff (index : Byte) (key : Half) (count : Byte) :
    index.toNat < 64 ∧ (Key.ofWire key).table ≠ 0 ∧ 1 ≤ count.toNat ∧ count.toNat ≤ 48 ↔
      openFieldsOk index key count = true := by
  simp only [openFieldsOk, Bool.and_eq_true, decide_eq_true_iff, keyNamed, and_assoc]
  refine and_congr ?_ Iff.rfl
  unfold idx?
  split <;> simp_all

theorem startOk_iff {dir start : Byte} {d : Direction} (hd : direction? dir = some d) :
    (start.toNat ≤ 47 ∨ (start = 255 ∧ dir = 1)) ↔ startOk d start = true := by
  rw [startOk, decide_eq_true_iff]
  refine or_congr Iff.rfl (and_congr Iff.rfl ?_)
  obtain ⟨rfl, rfl⟩ | ⟨rfl, rfl⟩ := (direction?_eq_some_iff dir d).1 hd
  · decide
  · decide

section
variable {u : State} {p : Port} {index : Byte} {key : Half} {dir start count : Byte} {i : Fin 64}
  {c : Check}

/-! ### ITEMS_READ -/

theorem openReadRule_of_direction (target : Byte) {d : Direction} (hd : direction? dir = some d) :
    openReadRule p target index key dir start count u = u.tested
      [(decide (target = 1) && openFieldsOk index key count && startOk d start, .badField),
       (!(u.streams.get p).isActive, .streamBusy)]
      (u.onNamed index key (fun i c =>
        ((u.closeChannel p).setChannel p
          (Channel.opened (readStream i c d start count.toNat))).accept
          (be1 (readStream i c d start count.toNat).remaining ++ be2 c.revision ++
            be1 c.items.length))) := by
  simp only [openReadRule, hd]

theorem openReadRule_refused {target : Byte} {o : ReplyOutcome} (h : FailsFirst
    [(target = 1 ∧ (index.toNat < 64 ∧ (Key.ofWire key).table ≠ 0 ∧ 1 ≤ count.toNat ∧
        count.toNat ≤ 48) ∧ dir.toNat ≤ 1 ∧ (start.toNat ≤ 47 ∨ (start = 255 ∧ dir = 1)), .badField),
      ((u.streams.get p).isActive = false, .streamBusy),
      (∃ i c, u.Names index key i c, .noMatch)] o) :
    openReadRule p target index key dir start count u = u.refuse o := by
  cases hd : direction? dir with
  | none =>
    have hdir : ¬dir.toNat ≤ 1 := fun hle => by
      obtain ⟨d, hsome⟩ := (direction?_isSome_iff dir).2 hle
      rw [hd] at hsome
      cases hsome
    obtain ⟨-, rfl⟩ | ⟨⟨-, -, hle, -⟩, -⟩ := h
    · simp only [openReadRule, hd]
    · exact absurd hle hdir
  | some d =>
    have hle : dir.toNat ≤ 1 := (direction?_isSome_iff dir).1 ⟨d, hd⟩
    have hfields : target = 1 ∧ (index.toNat < 64 ∧ (Key.ofWire key).table ≠ 0 ∧ 1 ≤ count.toNat ∧
        count.toNat ≤ 48) ∧ dir.toNat ≤ 1 ∧ (start.toNat ≤ 47 ∨ (start = 255 ∧ dir = 1)) ↔
        (decide (target = 1) && openFieldsOk index key count && startOk d start) = true := by
      rw [openFieldsOk_iff, startOk_iff hd, Bool.and_eq_true, Bool.and_eq_true, decide_eq_true_iff,
        and_assoc]
      simp [hle]
    rw [openReadRule_of_direction target hd]
    obtain ⟨hno, rfl⟩ | ⟨hyes, ⟨hbusy, rfl⟩ | ⟨hidle, ⟨hnone, rfl⟩ | ⟨-, h⟩⟩⟩ := h
    · exact u.tested_fail (mt hfields.2 hno) _ _ _
    · exact (u.tested_pass (hfields.1 hyes) _ _ _).trans (u.tested_fail (by simpa using hbusy) _ _ _)
    · obtain ⟨-, ⟨hindex, htable, -⟩, -⟩ := id hyes
      exact (u.tested_pass (hfields.1 hyes) _ _ _).trans ((u.tested_pass (by simp [hidle]) _ _ _).trans
        (State.onNamed_of_not_names hindex htable hnone))
    · exact h.elim

/-- How many positions R162 finds from a start position. -/
theorem itemsAvailable_eq {d : Direction} (hd : direction? dir = some d)
    (hstart : start.toNat ≤ 47 ∨ (start = 255 ∧ dir = 1)) (len : Nat) :
    itemsAvailable d (startPos start) len = if start = 255 then len
      else if dir = 0 then len - start.toNat
      else if start.toNat < len then start.toNat + 1 else 0 := by
  by_cases hend : start = 255
  · have hdir : dir = 1 := by
      obtain h | ⟨-, h⟩ := hstart
      · rw [hend] at h
        exact absurd h (by decide)
      · exact h
    obtain ⟨h0, -⟩ | ⟨-, rfl⟩ := (direction?_eq_some_iff dir d).1 hd
    · rw [hdir] at h0
      exact absurd h0 (by decide)
    · rw [startPos, if_pos hend, if_pos hend]
      rfl
  · rw [startPos, if_neg hend, if_neg hend]
    obtain ⟨h0, rfl⟩ | ⟨h1, rfl⟩ := (direction?_eq_some_iff dir d).1 hd
    · rw [if_pos h0]
      rfl
    · rw [if_neg (by rw [h1]; decide)]
      rfl

theorem readStream_eq {d : Direction} (hd : direction? dir = some d)
    (hstart : start.toNat ≤ 47 ∨ (start = 255 ∧ dir = 1)) (n : Nat) :
    readStream i c d start n = { target := .itemsRead, index := some i, key := c.key
                                 captured := some c.revision
                                 dir := if dir = 0 then .forward else .backward
                                 cursor := if start = 255 then c.items.length - 1 else start.toNat
                                 remaining := min n (if start = 255 then c.items.length
                                   else if dir = 0 then c.items.length - start.toNat
                                   else if start.toNat < c.items.length then start.toNat + 1
                                   else 0) } := by
  have hdir : d = if dir = 0 then .forward else .backward := by
    obtain ⟨h0, rfl⟩ | ⟨h1, rfl⟩ := (direction?_eq_some_iff dir d).1 hd
    · rw [if_pos h0]
    · rw [if_neg (by rw [h1]; decide)]
  have hcursor : (startPos start).getD (c.items.length - 1) =
      if start = 255 then c.items.length - 1 else start.toNat := by
    unfold startPos
    split <;> rfl
  rw [readStream, itemsAvailable_eq hd hstart, hcursor, ← hdir]

/-! ### ITEMS_WRITE -/

theorem openWriteTests_iff (c : Check) (o : ReplyOutcome) :
    FailsFirst [(c.holder = some .console, .notHolder), (c.scope = .owned, .notOwner),
      (c.state.Live, .state)] o ↔ firstFailure (openWriteTests c) = some o :=
  failsFirst_cons decide_eq_true_iff.symm fun _ => failsFirst_cons decide_eq_true_iff.symm fun _ =>
    failsFirst_cons c.state.live_iff fun _ => failsFirst_nil o

/-- A check has at most one entry that names it. -/
theorem State.Names.unique {j : Fin 64} {d : Check} (h : u.Names index key i c)
    (h' : u.Names index key j d) : j = i ∧ d = c := by
  obtain ⟨hi, -, hc, -⟩ := h
  obtain ⟨hj, -, hd, -⟩ := h'
  obtain rfl : j = i := Fin.ext (hj.symm.trans hi)
  exact ⟨rfl, Option.some.inj (hd.symm.trans hc)⟩

theorem forall_names_iff (h : u.Names index key i c) (P : Check → Prop) :
    (∀ i c, u.Names index key i c → P c) ↔ P c := by
  refine ⟨fun hall => hall i c h, fun hc j d hd => ?_⟩
  obtain ⟨-, rfl⟩ := h.unique hd
  exact hc

theorem openWriteRule_refused {o : ReplyOutcome} (h : FailsFirst
    [(index.toNat < 64 ∧ (Key.ofWire key).table ≠ 0 ∧ 1 ≤ count.toNat ∧ count.toNat ≤ 48, .badField),
      (p = .console, .wrongPort), ((u.streams.get p).isActive = false, .streamBusy),
      (∃ i c, u.Names index key i c, .noMatch),
      (∀ i c, u.Names index key i c → c.holder = some .console, .notHolder),
      (∀ i c, u.Names index key i c → c.scope = .owned, .notOwner),
      (∀ i c, u.Names index key i c → c.state.Live, .state)] o) :
    openWriteRule p index key count u = u.refuse o := by
  have hfields := openFieldsOk_iff index key count
  obtain ⟨hno, rfl⟩ | ⟨hyes, h⟩ := h
  · exact u.tested_fail (mt hfields.2 hno) _ _ _
  refine (u.tested_pass (hfields.1 hyes) _ _ _).trans ?_
  obtain ⟨hport, rfl⟩ | ⟨hport, h⟩ := h
  · exact u.tested_fail (by simpa using hport) _ _ _
  refine (u.tested_pass (by simpa using hport) _ _ _).trans ?_
  obtain ⟨hbusy, rfl⟩ | ⟨hidle, h⟩ := h
  · exact u.tested_fail (by simpa using hbusy) _ _ _
  refine (u.tested_pass (by simpa using hidle) _ _ _).trans ?_
  obtain ⟨hnone, rfl⟩ | ⟨⟨i, c, hn⟩, h⟩ := h
  · obtain ⟨hindex, htable, -⟩ := hyes
    exact State.onNamed_of_not_names hindex htable hnone
  refine (State.onNamed_of_names hn).trans (State.tested_of_firstFailure _ ?_)
  rw [forall_names_iff hn fun c => c.holder = some .console,
    forall_names_iff hn fun c => c.scope = .owned, forall_names_iff hn fun c => c.state.Live] at h
  exact (openWriteTests_iff c o).1 h

end

/-- Settles O33, target by target. -/
theorem streamOpenSetsUpStream : Obligations.StreamOpenSetsUpStream := by
  unfold Obligations.StreamOpenSetsUpStream
  refine ⟨?refused, ?opened⟩
  case refused =>
    intro x index key dir start count s u he hs fields idle
    exact ⟨fun target o h => exec_of_served rfl he hs (openReadRule_refused h),
      fun o h => exec_of_served rfl he hs (openWriteRule_refused h)⟩
  case opened =>
    intro x index key dir start count s u i c he hs hn hlow hhigh
    obtain ⟨hindex, htable, -, -⟩ := id hn
    have hfields : index.toNat < 64 ∧ (Key.ofWire key).table ≠ 0 ∧ 1 ≤ count.toNat ∧
        count.toNat ≤ 48 := ⟨hindex ▸ i.isLt, htable, hlow, hhigh⟩
    have hopen := (openFieldsOk_iff index key count).1 hfields
    refine ⟨fun hdir hstart => ?read, fun hport => exec_of_served rfl he hs (openWriteRule_refused
      (.inr ⟨hfields, .inl ⟨hport, rfl⟩⟩)), fun hport hidle hhold hscope hlive => ?write⟩
    case read =>
      intro len available n st
      refine ⟨fun hbusy => exec_of_served rfl he hs (openReadRule_refused
        (.inr ⟨⟨rfl, hfields, hdir, hstart⟩, .inl ⟨by simp [hbusy], rfl⟩⟩)), fun hidle => ?_⟩
      obtain ⟨d, hd⟩ := (direction?_isSome_iff dir).2 hdir
      have hst : readStream i c d start count.toNat = st := readStream_eq hd hstart count.toNat
      have hpass : (decide ((1 : Byte) = 1) && openFieldsOk index key count && startOk d start) =
          true := by
        simp [hopen, (startOk_iff hd).1 hstart]
      refine ⟨(u.closeChannel x.port).setChannel x.port (Channel.opened st),
        exec_of_served rfl he hs ((openReadRule_of_direction 1 hd).trans
          ((u.tested_pass hpass _ _ _).trans (((u.tested_one _ _).1 (by simp [hidle])).trans
            ((State.onNamed_of_names hn).trans ?_)))), ?_, State.channelLeft_setChannel u x.port _⟩
      · rw [hst]
        rfl
      · exact (PerPort.get_set _ _ _ _).trans (if_pos rfl)
    case write =>
      refine ⟨(u.closeChannel x.port).setChannel x.port (.active (writeStream i c count.toNat)),
        exec_of_served rfl he hs ((u.tested_pass hopen _ _ _).trans
          ((u.tested_pass (decide_eq_true hport) _ _ _).trans
            (((u.tested_one _ _).1 (by simp [hidle])).trans ((State.onNamed_of_names hn).trans
              ((State.tested_of_all _ _ _ ?tests).trans ?answer))))), (PerPort.get_set _ _ _ _).trans (if_pos rfl),
        State.channelLeft_setChannel u x.port _⟩
      case tests =>
        simp only [openWriteTests, List.forall_mem_cons]
        exact ⟨decide_eq_true hhold, decide_eq_true hscope, c.state.live_iff.1 hlive,
          fun _ h => nomatch h⟩
      case answer =>
        rw [be1, BitVec.ofNat_toNat, BitVec.setWidth_eq]
        rfl

end Sys2Proof.Machine
end

section
/-!
SUPPORT. STREAM_NEXT and STREAM_CLOSE (R163, R166, R167).
-/

namespace Sys2Proof.Machine

section
variable {u : State} {p : Port} {st : Stream} {i : Fin 64} {c : Check}

theorem Stream.move_eq (st : Stream) (n : Nat) :
    st.move n = if st.dir = .forward then st.cursor + n else st.cursor - n := by
  cases hd : st.dir <;> simp [Stream.move, hd]

/-- A stream that goes on, or is DONE with STREAM_END. -/
theorem State.continueStream_eq (u : State) (p : Port) (st : Stream) :
    u.continueStream p st = { u with
      streams := u.streams.set p (if st.remaining = 0 then .done st else .active st)
      attn := { u.attn with
        flags := u.attn.flags.set p (withFlag (u.attn.flags.get p) (decide (st.remaining = 0)) .streamEnd p) } } := by
  by_cases h : st.remaining = 0
  · rw [State.continueStream, if_pos h, if_pos h, decide_eq_true h]
    rfl
  · have hflags : u.attn.flags.set p (u.attn.flags.get p) = u.attn.flags :=
      PerPort.ext_get fun q => by
        rw [PerPort.get_set]
        split
        · next hq => rw [hq]
        · rfl
    rw [State.continueStream, if_neg h, if_neg h, decide_eq_false h, withFlag_false, hflags]
    rfl

/-- The lease of the port's own hold starts again. -/
theorem State.restartIfHolder_effect (hc : u.check i = some c) :
    (u.restartIfHolder p i).check i =
        some { c with hold := if c.holder = some p then u.freshHold p else c.hold } ∧
      OnlyEntry u (u.restartIfHolder p i) i := by
  have hholder : u.holderOf i = c.holder := State.holderOf_of_check hc
  by_cases hp : c.holder = some p
  · rw [State.restartIfHolder, hholder, if_pos hp, if_pos hp]
    exact ⟨State.restartLease_check hc hp, State.onlyEntry_restartLease u i⟩
  · rw [State.restartIfHolder, hholder, if_neg hp, if_neg hp]
    exact ⟨hc, u.onlyEntry_refl i⟩

theorem streamNextRule_of_idle (h : u.streams.get p = .idle) :
    streamNextRule p u = u.refuse .streamIdle := by
  simp only [streamNextRule, h]

theorem streamNextRule_of_done (h : u.streams.get p = .done st) :
    streamNextRule p u = ⟨.empty, [0, 0], u⟩ := by
  simp only [streamNextRule, h]
  rfl

theorem streamNextRule_of_aborted {r : AbortReason} (h : u.streams.get p = .aborted st r) :
    streamNextRule p u = ⟨.state, be1 r.code, u⟩ := by
  simp only [streamNextRule, h]

theorem streamNextRule_of_other (h : u.streams.get p = .active st) (ht : st.target ≠ .itemsRead) :
    streamNextRule p u = u.refuse .state := by
  simp only [streamNextRule, h, if_neg ht]

theorem streamCloseRule_of_idle (h : u.streams.get p = .idle) :
    streamCloseRule p u = u.refuse .streamIdle := by
  simp only [streamCloseRule, h, Channel.stream]

theorem streamNextRule_of_read (hactive : u.streams.get p = .active st)
    (ht : st.target = .itemsRead) : streamNextRule p u = u.readNext p st := by
  simp only [streamNextRule, hactive, if_pos ht]

theorem State.readNext_of_check (hi : st.index = some i) (hc : u.check i = some c) :
    u.readNext p st = ((u.continueStream p st.advanced).restartIfHolder p i).accept
      (be1 (st.records c.items).length ++ be1 st.advanced.remaining ++ be2 (st.captured.getD 0) ++
        (st.records c.items).flatMap Item.wire) := by
  have hitems : u.streamItems st = c.items := by
    simp only [State.streamItems, hi, Option.bind_some, hc]
  simp only [State.readNext, hitems, hi]

/-- STREAM_CLOSE of a channel that carries a stream. -/
theorem streamCloseRule_of_stream (h : (u.streams.get p).stream = some st) :
    streamCloseRule p u = (u.closeChannel p).accept
      (be1 (u.streams.get p).code ++ be1 st.target.code ++ be1 st.remaining ++
        be1 (u.streams.get p).reasonCode ++ beIndex st.index ++ beKey (some st.key)) := by
  simp only [streamCloseRule, h]

end

/-- Settles O34, channel state by channel state. -/
theorem streamNextAndCloseByChannel : Obligations.StreamNextAndCloseByChannel := by
  unfold Obligations.StreamNextAndCloseByChannel
  intro x s u he p
  refine ⟨fun hs => ⟨fun h => ?idle, fun st h => ?done, fun st r h => ?aborted,
    fun st h ht => ?other, fun st i c h ht hi hc => ?read⟩,
    fun hs => ⟨fun h => ?closeIdle, fun st r h => ?close⟩⟩
  case read =>
    intro place k left out st'
    have hplace (n : Nat) : st.move n = place n := st.move_eq n
    have hst : st.advanced = st' := by
      simp only [Stream.advanced, hplace]
      rfl
    have hout : st.records c.items = out := by
      simp only [Stream.records, hplace]
      rfl
    have hrule := (streamNextRule_of_read h ht).trans (State.readNext_of_check hi hc)
    rw [hst, hout] at hrule
    have hgoes := u.continueStream_eq p st'
    have hcheck : (u.continueStream p st').check i = some c := by
      rw [hgoes]
      exact hc
    obtain ⟨hhold, honly⟩ := State.restartIfHolder_effect (p := p) hcheck
    refine ⟨_, exec_of_served rfl he hs hrule, ?streams, ?attn, ?hold, ?only, ?frame⟩
    case streams => simp [hgoes]; rfl
    case attn => simp [hgoes]; rfl
    case hold =>
      rw [hhold, hgoes]
    case only =>
      exact (State.onlyEntry_of_table (by rw [hgoes])).trans honly
    case frame => apply State.ext_fields <;> simp [hgoes]
  case close =>
    have hstream : (u.streams.get p).stream = some st ∧ (u.streams.get p).reasonCode = r := by
      obtain ⟨h, rfl⟩ | ⟨h, rfl⟩ | ⟨a, h, rfl⟩ := h <;> rw [h] <;> exact ⟨rfl, rfl⟩
    obtain ⟨hst, hr⟩ := hstream
    refine ⟨_, exec_of_served rfl he hs ((streamCloseRule_of_stream hst).trans ?_), ?_,
      u.channelLeft_closeChannel p⟩
    · rw [hr]
      rfl
    · simp
  case closeIdle => exact exec_of_served rfl he hs (streamCloseRule_of_idle h)
  case idle => exact exec_of_served rfl he hs (streamNextRule_of_idle h)
  case done => exact exec_of_served rfl he hs (streamNextRule_of_done h)
  case aborted => exact exec_of_served rfl he hs (streamNextRule_of_aborted h)
  case other => exact exec_of_served rfl he hs (streamNextRule_of_other h ht)

end Sys2Proof.Machine
end

section
/-!
SUPPORT. STREAM_PUT (R49, R52, R124, R165).
-/

namespace Sys2Proof.Machine

/-! ### The tests of R49 -/

/-- Where no test fails first, all pass. -/
theorem forall_of_not_failsFirst {ps : List (Prop × ReplyOutcome)} (h : ∀ o, ¬FailsFirst ps o) :
    ∀ t ∈ ps, t.1 := by
  induction ps with
  | nil => exact fun _ h => nomatch h
  | cons t rest ih =>
    obtain ⟨passes, refusal⟩ := t
    have hpass : passes := by
      by_contra hno
      exact h refusal (.inl ⟨hno, rfl⟩)
    exact List.forall_mem_cons.2 ⟨hpass, ih fun o ho => h o (.inr ⟨hpass, ho⟩)⟩

theorem canJoin_iff (u : State) (a : Assembly) (item : ItemWire) :
    CanJoin u a item ↔ firstFailure (imageItemTests item a u.pool.free) = none := by
  constructor
  · rintro ⟨hrange, hpos, hserial, hamount, hpool⟩
    refine firstFailure_eq_none_of (joinTests_iff u a item) ?_
    simp only [joinTests, List.forall_mem_cons]
    exact ⟨⟨hrange, hpos, hserial⟩, hamount, hpool, fun _ h => nomatch h⟩
  · intro hnone
    have hall := forall_of_not_failsFirst fun o ho => by
      have hsome := (joinTests_iff u a item o).1 ho
      rw [hnone] at hsome
      cases hsome
    simp only [joinTests, List.forall_mem_cons] at hall
    obtain ⟨⟨hrange, hpos, hserial⟩, hamount, hpool, -⟩ := hall
    exact ⟨hrange, hpos, hserial, hamount, hpool⟩

/-! ### States said by their parts -/

theorem State.table_ext {u v : State} (hcheck : ∀ i, u.check i = v.check i)
    (hcursor : u.table.cursor = v.table.cursor) (hpin : u.table.pinFloor = v.table.pinFloor) :
    u.table = v.table := by
  have hchecks : u.table.checks = v.table.checks := Vector.ext fun n hn => hcheck ⟨n, hn⟩
  cases hu : u.table
  cases hv : v.table
  simp_all

/-- An addition to a check is one state. -/
theorem ItemAdded.unique {u v w : State} {i : Fin 64} {c : Check} {item : ItemWire}
    (hv : ItemAdded u v i c item) (hw : ItemAdded u w i c item) : v = w := by
  obtain ⟨hcheck, ⟨hothers, hcursor, hpin⟩, hpool, ⟨hstreams, hflags, henables⟩, hframe⟩ := hv
  obtain ⟨hcheck', ⟨hothers', hcursor', hpin'⟩, hpool', ⟨hstreams', hflags', henables'⟩, hframe'⟩ := hw
  have htable : v.table = w.table := by
    refine State.table_ext (fun j => ?_) (hcursor.trans hcursor'.symm) (hpin.trans hpin'.symm)
    by_cases hj : j = i
    · rw [hj, hcheck, hcheck']
    · rw [hothers j hj, hothers' j hj]
  have hp : v.pool = w.pool := congrArg ItemPool.mk (hpool.trans hpool'.symm)
  have hs : v.streams = w.streams :=
    PerPort.ext_get fun p => (hstreams p).trans (hstreams' p).symm
  have ha : v.attn = w.attn := congrArg₂ AttnUnit.mk
    (PerPort.ext_get fun p => (hflags p).trans (hflags' p).symm) (henables.trans henables'.symm)
  rw [hframe, hframe', htable, hp, hs, ha]

/-! ### One item -/

/-- One item of a STREAM_PUT on an ACTIVE stream that is no read stream. -/
def State.putOne (s : State) (p : Port) (st : Stream) (item : ItemWire) : State × Option Nat :=
  if st.target = .image then s.putImageItem p st item else s.putWriteItem p st item

section
variable {u v w : State} {p : Port} {st : Stream} {item : ItemWire} {i : Fin 64} {c : Check}
  {a : Assembly} {n : Nat}

theorem State.putWriteItem_of_added (hi : st.index = some i) (hc : u.check i = some c)
    (h : CanAdd u c item) : u.putWriteItem p st item = ((u.addItem i c item).continueStream p
      { st with captured := ((u.addItem i c item).check i).map Check.revision
                remaining := st.remaining - 1 }, some c.nextSerial) := by
  simp only [State.putWriteItem, hi, hc, (canAdd_iff u c item).1 h]

theorem State.putWriteItem_of_refused {o : ReplyOutcome} (hi : st.index = some i)
    (hc : u.check i = some c) (h : firstFailure (u.itemTests c item) = some o) :
    u.putWriteItem p st item = (u.failStream p st o, none) := by
  simp only [State.putWriteItem, hi, hc, h]

/-- The state in which an item has joined the assembly. -/
def State.joined (u : State) (a : Assembly) (item : ItemWire) : State :=
  u.dropFree.setFloor { u.floor with assembly := some { a with
    items := a.items ++ [item.item (u.pool.free.headD 0) item.serial.toNat item.status .floor] } }

theorem State.putImageItem_of_added (ha : u.floor.assembly = some a) (h : CanJoin u a item) :
    u.putImageItem p st item = ((u.joined a item).continueStream p
      { st with remaining := st.remaining - 1 }, some item.serial.toNat) := by
  simp only [State.putImageItem, ha, (canJoin_iff u a item).1 h]
  rfl

theorem State.putImageItem_of_refused {o : ReplyOutcome} (ha : u.floor.assembly = some a)
    (h : firstFailure (imageItemTests item a u.pool.free) = some o) :
    u.putImageItem p st item = ((u.failStream p st o).discardAssembly, none) := by
  simp only [State.putImageItem, ha, h]

theorem WriteAdds.putOne (h : WriteAdds u v p item n) : ∃ st, u.streams.get p = .active st ∧
    st.target ≠ .itemsRead ∧ u.putOne p st item = (v, some n) := by
  obtain ⟨st, i, c, d, v', hactive, ht, hi, hc, hcan, rfl, hadded, hd, hgoes⟩ := h
  refine ⟨st, hactive, by simp [ht], ?_⟩
  obtain rfl := hadded.unique (State.itemAdded_addItem hcan)
  rw [State.putOne, if_neg (by simp [ht]), State.putWriteItem_of_added hi hc hcan, hd,
    State.continueStream_eq, hgoes]
  rfl

theorem ImageAdds.putOne (h : ImageAdds u v p item n) : ∃ st, u.streams.get p = .active st ∧
    st.target ≠ .itemsRead ∧ u.putOne p st item = (v, some n) := by
  obtain ⟨st, a, hactive, ht, ha, hcan, rfl, hgoes⟩ := h
  refine ⟨st, hactive, by simp [ht], ?_⟩
  rw [State.putOne, if_pos ht, State.putImageItem_of_added ha hcan, State.continueStream_eq, hgoes]
  rfl

/-- A stream that an item may be put on. -/
def State.ReadyAt (u : State) (p : Port) : Prop := ∃ st, u.streams.get p = .active st ∧
  ((st.target = .image ∧ u.floor.assembly.isSome = true) ∨
    (st.target = .itemsWrite ∧ ∃ i, st.index = some i ∧ (u.check i).isSome = true))

/-- An item is added to a write stream or to the image stream. -/
abbrev Adds (u v : State) (p : Port) (item : ItemWire) (n : Nat) : Prop :=
  WriteAdds u v p item n ∨ ImageAdds u v p item n

theorem Adds.putOne (h : Adds u v p item n) : ∃ st, u.streams.get p = .active st ∧
    st.target ≠ .itemsRead ∧ u.putOne p st item = (v, some n) := by
  obtain h | h := h
  · exact h.putOne
  · exact h.putOne

theorem StreamGoesOn.streams_get (h : StreamGoesOn u v p st) :
    v.streams.get p = if st.remaining = 0 then .done st else .active st := by
  rw [h]
  exact (PerPort.get_set _ _ _ _).trans (if_pos rfl)

theorem StreamGoesOn.stream (h : StreamGoesOn u v p st) :
    (v.streams.get p).stream = some st := by
  rw [h.streams_get]
  split <;> rfl

theorem StreamGoesOn.active (h : StreamGoesOn u v p st) (ha : (v.streams.get p).isActive = true) :
    v.streams.get p = .active st := by
  rw [h.streams_get] at ha ⊢
  split at ha
  · cases ha
  · next hr => rw [if_neg hr]

theorem Adds.stream (h : Adds u v p item n) : ∃ st, (v.streams.get p).stream = some st := by
  obtain ⟨st, i, c, d, v', -, -, -, -, -, -, -, -, hgoes⟩ | ⟨st, a, -, -, -, -, -, hgoes⟩ := h
  · exact ⟨_, hgoes.stream⟩
  · exact ⟨_, StreamGoesOn.stream hgoes⟩

/-- A stream that goes on ACTIVE takes the next item. -/
theorem Adds.readyAt (h : Adds u v p item n) (hactive : (v.streams.get p).isActive = true) :
    v.ReadyAt p := by
  obtain ⟨st, i, c, d, v', -, ht, hi, -, -, -, -, hd, hgoes⟩ | ⟨st, a, -, ht, -, -, -, hgoes⟩ := h
  · refine ⟨_, hgoes.active hactive, .inr ⟨ht, i, hi, ?_⟩⟩
    have hcheck : v.check i = some d := by
      rw [hgoes]
      exact hd
    rw [hcheck]
    rfl
  · refine ⟨_, StreamGoesOn.active hgoes hactive, .inl ⟨ht, ?_⟩⟩
    rw [hgoes]
    rfl

theorem State.failStream_stream (u : State) (p : Port) (st : Stream) (o : ReplyOutcome) :
    ((u.failStream p st o).streams.get p).stream = some st := by
  have hget : (u.failStream p st o).streams.get p = .aborted st (.refused o) :=
    (PerPort.get_set _ _ _ _).trans (if_pos rfl)
  rw [hget]
  rfl

/-- An item that fails a test ends its stream with the refusal. -/
theorem State.putOne_refused (hready : u.ReadyAt p) (hno : ∀ v n, ¬Adds u v p item n) :
    ∃ st w, u.streams.get p = .active st ∧ st.target ≠ .itemsRead ∧
      u.putOne p st item = (w, none) ∧ PutRefused u w p item ∧
      (w.streams.get p).stream = some st := by
  obtain ⟨st, hactive, ⟨ht, hassembly⟩ | ⟨ht, i, hi, hcheck⟩⟩ := hready
  · obtain ⟨a, ha⟩ := Option.isSome_iff_exists.1 hassembly
    have hcannot : ¬CanJoin u a item := fun hcan =>
      hno _ _ (.inr ⟨st, a, hactive, ht, ha, hcan, rfl, rfl⟩)
    obtain ⟨o, ho⟩ := Option.ne_none_iff_exists'.1 (mt (canJoin_iff u a item).2 hcannot)
    refine ⟨st, (u.failStream p st o).withoutAssembly, hactive, by simp [ht], ?_,
      ⟨st, o, hactive, ?_, rfl, rfl, ?_, ?_, rfl⟩, ?_⟩
    · rw [State.putOne, if_pos ht, State.putImageItem_of_refused ha ho, State.discardAssembly_eq]
    · rw [PutFails, if_pos ht]
      exact ⟨a, ha, (joinTests_iff u a item o).2 ho⟩
    · rw [if_pos ht]
      rfl
    · rw [if_pos ht]
      rfl
    · exact u.failStream_stream p st o
  · obtain ⟨c, hc⟩ := Option.isSome_iff_exists.1 hcheck
    have hcannot : ¬CanAdd u c item := fun hcan => by
      obtain ⟨d, hd⟩ : ∃ d, (u.addItem i c item).check i = some d := ⟨_, (State.itemAdded_addItem hcan).1⟩
      exact hno _ _ (.inl ⟨st, i, c, d, _, hactive, ht, hi, hc, hcan, rfl,
        State.itemAdded_addItem hcan, hd, rfl⟩)
    obtain ⟨o, ho⟩ := Option.ne_none_iff_exists'.1 (mt (canAdd_iff u c item).2 hcannot)
    have hnot : ¬st.target = .image := by simp [ht]
    refine ⟨st, u.failStream p st o, hactive, by simp [ht], ?_,
      ⟨st, o, hactive, ?_, rfl, rfl, ?_, ?_, rfl⟩, ?_⟩
    · rw [State.putOne, if_neg hnot, State.putWriteItem_of_refused hi hc ho]
    · rw [PutFails, if_neg hnot]
      exact ⟨i, c, hi, hc, (addTests_iff u c item o).2 ho⟩
    · rw [if_neg hnot]
      rfl
    · rw [if_neg hnot, List.append_nil]
      rfl
    · exact u.failStream_stream p st o

/-! ### The items in turn -/

theorem State.putItems_of_added {rest : List ItemWire} (h : Adds u v p item n) :
    State.putItems p (item :: rest) u =
      ((State.putItems p rest v).1, n :: (State.putItems p rest v).2) := by
  obtain ⟨st, hactive, -, hone⟩ := h.putOne
  unfold State.putOne at hone
  simp only [State.putItems, hactive, hone]

theorem State.putItems_of_refused {rest : List ItemWire} (hactive : u.streams.get p = .active st)
    (hone : u.putOne p st item = (w, none)) : State.putItems p (item :: rest) u = (w, []) := by
  unfold State.putOne at hone
  simp only [State.putItems, hactive, hone]

theorem State.putItems_of_inactive (l : List ItemWire) (h : (u.streams.get p).isActive = false) :
    State.putItems p l u = (u, []) := by
  cases l with
  | nil => rfl
  | cons item rest =>
    cases hch : u.streams.get p with
    | active st =>
      rw [hch] at h
      cases h
    | idle | done _ | aborted _ _ => simp only [State.putItems, hch]

/-! ### The reply -/

theorem putReply_of_stream (h : (w.streams.get p).stream = some st) (serials : List Nat) :
    putReply w p serials = putBody st serials := by
  cases hch : w.streams.get p with
  | idle =>
    rw [hch] at h
    cases h
  | active st' | done st' | aborted st' r =>
    rw [hch] at h
    cases h
    simp only [putReply, hch]
    rfl

theorem streamPutRule_of_active {count : Byte} {items : List ItemWire} {serials : List Nat}
    (hcount : count = 1 ∨ count = 2) (hactive : u.streams.get p = .active st)
    (ht : st.target ≠ .itemsRead) (hlen : items.length = count.toNat)
    (hput : State.putItems p items u = (w, serials)) {st' : Stream}
    (hw : (w.streams.get p).stream = some st') :
    streamPutRule p count items u = w.accept (putReply w p serials) := by
  refine ((u.tested_one _ _).1 (decide_eq_true hcount)).trans ?_
  simp only [hactive, if_neg ht, State.putActive, List.take_of_length_le hlen.le, hput, hw,
    Option.getD_some, putReply_of_stream hw]

theorem streamPutRule_cases {count : Byte} (items : List ItemWire) (hcount : count = 1 ∨ count = 2) :
    (u.streams.get p = .idle → streamPutRule p count items u = u.refuse .streamIdle) ∧
    (∀ st, u.streams.get p = .done st →
      streamPutRule p count items u = u.accept (putReply u p [])) ∧
    (∀ st r, u.streams.get p = .aborted st r →
      streamPutRule p count items u = ⟨.state, be1 r.code, u⟩) ∧
    (∀ st, u.streams.get p = .active st → st.target = .itemsRead →
      streamPutRule p count items u = u.refuse .state) := by
  refine ⟨fun h => ?_, fun st h => ?_, fun st r h => ?_, fun st h ht => ?_⟩
  all_goals refine ((u.tested_one _ _).1 (decide_eq_true hcount)).trans ?_
  · simp only [h]
  · have hstream : (u.streams.get p).stream = some st := by rw [h]; rfl
    simp only [h, putReply_of_stream hstream]
  · simp only [h]
  · simp only [h, if_pos ht]

end

/-- Settles O35, item by item. -/
theorem streamPutTakesItemsInTurn : Obligations.StreamPutTakesItemsInTurn := by
  unfold Obligations.StreamPutTakesItemsInTurn
  intro x count items s u he hs p adds ready answers
  refine ⟨fun h1 h2 => ?badField, fun hcount => ?channels, fun a rest hitems hlen hle hready => ?put⟩
  case badField =>
    exact exec_of_served rfl he hs ((u.tested_one _ _).2 (by simpa using ⟨h1, h2⟩))
  case channels =>
    obtain ⟨hidle, hdone, haborted, hread⟩ := streamPutRule_cases (u := u) (p := p) items hcount
    exact ⟨fun h => exec_of_served rfl he hs (hidle h), fun st h => exec_of_served rfl he hs (hdone st h),
      fun st r h => exec_of_served rfl he hs (haborted st r h),
      fun st h ht => exec_of_served rfl he hs (hread st h ht)⟩
  case put =>
    have hcount : count = 1 ∨ count = 2 := by
      rw [← BitVec.toNat_inj, ← BitVec.toNat_inj]
      change count.toNat = 1 ∨ count.toNat = 2
      omega
    have hanswers {st st' : Stream} {w : State} {serials : List Nat}
        (hactive : u.streams.get p = .active st) (ht : st.target ≠ .itemsRead)
        (hput : State.putItems p items u = (w, serials))
        (hw : (w.streams.get p).stream = some st') : answers w serials :=
      exec_of_served rfl he hs (streamPutRule_of_active hcount hactive ht (by simp [hitems, hlen])
        hput hw)
    subst hitems
    refine ⟨fun hno => ?refused, fun v n hadds => ?added⟩
    case refused =>
      obtain ⟨st, w, hactive, ht, hone, hrefused, hstream⟩ := State.putOne_refused hready hno
      exact ⟨w, hrefused, hanswers hactive ht (State.putItems_of_refused hactive hone) hstream⟩
    case added =>
      obtain ⟨st, hactive, ht, -⟩ := Adds.putOne hadds
      obtain ⟨st', hstream⟩ := Adds.stream hadds
      have hrest := State.putItems_of_added (rest := rest) hadds
      refine ⟨fun hends => hanswers hactive ht ?_ hstream, fun b hb hgoes => ?second⟩
      · have hnone : State.putItems p rest v = (v, []) := by
          obtain rfl | hinactive := hends
          · rfl
          · exact State.putItems_of_inactive rest hinactive
        rw [hrest, hnone]
      case second =>
        subst hb
        refine ⟨fun hno => ?_, fun w m hsecond => ?_⟩
        · obtain ⟨st2, w, hactive2, -, hone, hrefused, hstream2⟩ :=
            State.putOne_refused (Adds.readyAt hadds hgoes) hno
          refine ⟨w, hrefused, hanswers hactive ht ?_ hstream2⟩
          rw [hrest, State.putItems_of_refused hactive2 hone]
        · obtain ⟨st2, hstream2⟩ := Adds.stream hsecond
          refine hanswers hactive ht ?_ hstream2
          rw [hrest, State.putItems_of_added hsecond]
          rfl

end Sys2Proof.Machine
end

section
/-!
SUPPORT. PORT_RESET (R26, R78, R107, R126, R155, R179).
-/

namespace Sys2Proof.Machine

/-! ### What the ends of holds leave cleared -/

/-- What the ends of holds keep of the state that PORT_RESET left: no channel leaves IDLE, no tender is
TAKEN, no record is SENT, and enables and mark stay. -/
structure StaysCleared (s t : State) : Prop where
  enables : t.attn.enables = s.attn.enables
  idle : ∀ p, s.streams.get p = .idle → t.streams.get p = .idle
  mark : t.uplink.mark = s.uplink.mark
  taken : s.ring.tenders.any Tender.isTaken = false → t.ring.tenders.any Tender.isTaken = false
  sent : s.uplink.records.any UplinkRecord.sent = false → t.uplink.records.any UplinkRecord.sent = false

namespace StaysCleared

theorem trans {s t w : State} (h : StaysCleared s t) (k : StaysCleared t w) : StaysCleared s w where
  enables := k.enables.trans h.enables
  idle p hp := k.idle p (h.idle p hp)
  mark := k.mark.trans h.mark
  taken ht := k.taken (h.taken ht)
  sent hs := k.sent (h.sent hs)

theorem of_eq {s t : State}
    (h : t.attn.enables = s.attn.enables ∧ t.ring = s.ring ∧ t.uplink = s.uplink ∧
      t.streams = s.streams) : StaysCleared s t := by
  obtain ⟨henables, hring, huplink, hstreams⟩ := h
  exact ⟨henables, fun p hp => by rwa [hstreams], by rw [huplink], fun ht => by rwa [hring],
    fun hs => by rwa [huplink]⟩

theorem refl (s : State) : StaysCleared s s := .of_eq (by simp)

theorem foldl {α : Type} (f : State → α → State) (h : ∀ s a, StaysCleared s (f s a)) (s : State)
    (l : List α) : StaysCleared s (l.foldl f s) :=
  foldl_preserves f (StaysCleared s) (fun b a hb => hb.trans (h b a)) s l (.refl s)

/-! Operations that leave all of it alone. -/

theorem modCheck (s : State) (i : Fin 64) (f : Check → Check) : StaysCleared s (s.modCheck i f) :=
  .of_eq (by simp)

theorem putCheck (s : State) (i : Fin 64) (c : Option Check) : StaysCleared s (s.putCheck i c) :=
  .of_eq (by simp)

theorem raise (s : State) (p : Port) (c : Cause) : StaysCleared s (s.raise p c) :=
  .of_eq (by simp)

theorem freeItems (s : State) (items : List Item) : StaysCleared s (s.freeItems items) :=
  .of_eq (by simp)

theorem discardImage (s : State) (i : Fin 64) : StaysCleared s (s.discardImage i) :=
  .of_eq (by simp)

theorem discardOlder (s : State) (i : Fin 64) (server : Nat) :
    StaysCleared s (s.discardOlder i server) := .of_eq (by simp)

theorem setServer (s : State) (i : Fin 64) (server : Nat) :
    StaysCleared s (s.setServer i server) := .of_eq (by simp)

theorem takePending (s : State) (i : Fin 64) : StaysCleared s (s.takePending i) :=
  .of_eq (by simp)

theorem dropHold (s : State) (i : Fin 64) : StaysCleared s (s.dropHold i) :=
  .of_eq (by simp)

theorem leaveList (s : State) (p : Port) (i : Fin 64) : StaysCleared s (s.leaveList p i) :=
  .of_eq (by simp)

theorem endWait (s : State) (p : Port) : StaysCleared s (s.endWait p) := .of_eq ⟨rfl, rfl, rfl, rfl⟩

/-! Streams and waiters. -/

theorem abortStream (s : State) (p : Port) (t : StreamTarget) (i : Fin 64) (r : AbortReason) :
    StaysCleared s (s.abortStream p t i r) where
  enables := s.abortStream_enables p t i r
  idle q hq := by
    rw [State.abortStream_streams_get]
    split
    · next h =>
      subst h
      rw [hq]
      rfl
    · exact hq
  mark := by simp
  taken ht := by simpa using ht
  sent hs := by simpa using hs

theorem abortReads (s : State) (i : Fin 64) (r : AbortReason) : StaysCleared s (s.abortReads i r) :=
  (abortStream s .console _ i r).trans ((abortStream _ .tender _ i r).trans (abortStream _ .link _ i r))

theorem dismissWaiters (s : State) (i : Fin 64) : StaysCleared s (s.dismissWaiters i) := by
  unfold State.dismissWaiters
  split
  · exact (StaysCleared.foldl _ endWait s _).trans (modCheck _ i _)
  · exact .refl s

theorem grantWaiters (i : Fin 64) (l : List Port) (s : State) :
    StaysCleared s (State.grantWaiters i l s) := by
  induction l generalizing s with
  | nil => exact modCheck s i _
  | cons p rest ih =>
    unfold State.grantWaiters
    split
    · exact .of_eq (by simp)
    · exact (endWait s p).trans (ih _)

/-! Entries and images. -/

theorem freeEntry (s : State) (i : Fin 64) : StaysCleared s (s.freeEntry i) := by
  unfold State.freeEntry
  split
  · next c _ =>
    have hheld : StaysCleared s (match c.holder with
        | some p => ((s.dropHold i).raise p .leaseLost).abortWrite p i .gone
        | none => s) := by
      split
      · exact (dropHold s i).trans ((raise _ _ _).trans (abortStream _ _ _ i _))
      · exact .refl s
    exact hheld.trans ((dismissWaiters _ i).trans ((freeItems _ _).trans
      ((discardImage _ i).trans ((abortReads _ i _).trans (putCheck _ i _)))))
  · exact .refl s

theorem cancelPosted (s : State) (i : Fin 64) : StaysCleared s (s.cancelPosted i) where
  enables := by simp
  idle p hp := by simpa using hp
  mark := by simp
  taken ht := by
    rw [State.cancelPosted_ring]
    simp only [TenderRing.cancelledOn, List.any_map, List.any_eq_false, Function.comp_apply] at ht ⊢
    intro t hmem
    obtain h | ⟨-, h⟩ := t.cancelledOn_cases i
    · rw [h]
      exact ht t hmem
    · rw [h]
      exact Bool.false_ne_true
  sent hs := by simpa using hs

theorem enterConflict (s : State) (i : Fin 64) (kind : ConflictKind) :
    StaysCleared s (s.enterConflict i kind) :=
  (modCheck s i _).trans ((cancelPosted _ i).trans (raise _ _ _))

theorem settleImage (s : State) (i : Fin 64) : StaysCleared s (s.settleImage i) := by
  unfold State.settleImage
  split
  · split
    · exact enterConflict s i _
    · exact modCheck s i _
  · exact .refl s

theorem applyImage (s : State) (i : Fin 64) (server owner covers seats : Nat) (items : List Item) :
    StaysCleared s (s.applyImage i server owner covers seats items) := by
  unfold State.applyImage
  split
  · exact (freeItems s _).trans ((discardOlder _ i _).trans ((modCheck _ i _).trans
      ((abortReads _ i _).trans ((raise _ _ _).trans (settleImage _ i)))))
  · exact .refl s

theorem applyRetire (s : State) (i : Fin 64) (server : Nat) :
    StaysCleared s (s.applyRetire i server) := by
  unfold State.applyRetire
  refine (setServer s i server).trans ((discardOlder _ i server).trans
    (StaysCleared.trans ?_ (raise _ _ _)))
  split
  · split
    · exact enterConflict _ i _
    · split
      · exact modCheck _ i _
      · exact freeEntry _ i
  · exact .refl _

theorem tryPending (s : State) (i : Fin 64) : StaysCleared s (s.tryPending i) := by
  unfold State.tryPending
  split
  · exact .refl s
  · split
    · exact .refl s
    · split
      · exact discardImage s i
      · split
        · split
          · exact discardImage s i
          · exact .refl s
          · exact (discardImage s i).trans (setServer _ i _)
          · exact (takePending s i).trans (applyImage _ i _ _ _ _ _)
        · split
          · exact (discardImage s i).trans (setServer _ i _)
          · split
            · exact .refl s
            · exact (takePending s i).trans (applyRetire _ i _)

/-! Delta scheduling, and the end of a hold. -/

theorem appendRecord (s : State) (index : Option (Fin 64)) (key : Key) (body : RecordBody) :
    StaysCleared s (s.appendRecord index key body) where
  enables := by rw [State.appendRecord_attn]
  idle p hp := by simpa using hp
  mark := by rw [State.appendRecord_uplink]
  taken ht := by simpa using ht
  sent hs := by
    rw [State.appendRecord_uplink]
    simpa using hs

theorem scheduleAt (s : State) (i : Fin 64) : StaysCleared s (s.scheduleAt i) := by
  unfold State.scheduleAt
  split
  · split
    · exact (appendRecord s _ _ _).trans (modCheck _ i _)
    · exact .refl s
  · exact .refl s

theorem endOfHold (s : State) (i : Fin 64) : StaysCleared s (s.endOfHold i) := by
  unfold State.endOfHold
  dsimp only
  split
  · exact tryPending s i
  · split
    · exact (tryPending s i).trans ((grantWaiters i _ _).trans
        (StaysCleared.foldl State.scheduleAt scheduleAt _ allIdx))
    · exact (tryPending s i).trans (grantWaiters i _ _)

theorem releaseAt (p : Port) (s : State) (i : Fin 64) : StaysCleared s (State.releaseAt p s i) := by
  unfold State.releaseAt
  split
  · exact (dropHold s i).trans (endOfHold _ i)
  · exact .refl s

theorem releaseAll (s : State) (p : Port) : StaysCleared s (s.releaseAll p) := by
  unfold State.releaseAll
  refine StaysCleared.trans ?_ (StaysCleared.foldl _ (releaseAt p) _ allIdx)
  split
  · exact leaveList s p _
  · exact .refl s

end StaysCleared

/-! ### Channel, share, wait and holds -/

section
variable {k : State}

/-- The ring holds no TAKEN descriptor, or a first one. -/
theorem State.takenTender_none_or_first (k : State) : (∀ t ∈ k.ring.tenders, t.isTaken = false) ∨
    ∃ pre t post, k.ring.tenders = pre ++ t :: post ∧ (∀ d ∈ pre, d.isTaken = false) ∧
      t.isTaken = true := by
  cases hfind : k.ring.tenders.find? Tender.isTaken with
  | none => exact .inl fun t ht => by simpa using List.find?_eq_none.1 hfind t ht
  | some t =>
    obtain ⟨htaken, pre, post, hring, hpre⟩ := List.find?_eq_some_iff_append.1 hfind
    exact .inr ⟨pre, t, post, hring, fun d hd => by simpa using hpre d hd, htaken⟩

theorem State.timeOutTaken_of_none (h : ∀ t ∈ k.ring.tenders, t.isTaken = false) (expired : Bool) :
    k.timeOutTaken expired = k := by
  have hnone : k.ring.tenders.findIdx? Tender.isTaken = none := List.findIdx?_eq_none_iff.2 h
  simp only [State.timeOutTaken, State.takenTender, hnone]

/-- Of at most one TAKEN descriptor none is left. -/
theorem State.timeOutTaken_taken (h : (k.ring.tenders.filter Tender.isTaken).length ≤ 1) :
    (k.timeOutTaken false).ring.tenders.any Tender.isTaken = false := by
  obtain hnone | ⟨pre, t, post, hring, hpre, ht⟩ := k.takenTender_none_or_first
  · rw [State.timeOutTaken_of_none hnone]
    simpa using hnone
  · have hout : (k.timeOutTaken false).ring.tenders =
        pre ++ { t with phase := .finished .timedOut } :: post := by
      simp only [State.timeOutTaken, State.takenTender_of_first hring hpre ht]
      simp [hring, State.countTotals]
    have hpost : ∀ d ∈ post, d.isTaken = false := by
      have hlen : (post.filter Tender.isTaken).length = 0 := by
        rw [hring, List.filter_append, List.filter_cons_of_pos ht, List.length_append,
          List.length_cons] at h
        omega
      simpa using hlen
    rw [hout, List.any_append, List.any_cons, List.any_eq_false.2 (by simpa using hpre),
      List.any_eq_false.2 (by simpa using hpost)]
    rfl

theorem parted_subset (drop : Bool) (l : List UplinkRecord) : ∀ r ∈ parted drop l, r ∈ l := by
  induction l with
  | nil => exact fun r hr => hr
  | cons q rest ih =>
    intro r hr
    rw [parted] at hr
    split at hr
    · obtain rfl | hmem := List.mem_cons.1 hr
      · exact List.mem_cons_self
      · exact List.mem_cons_of_mem _ (ih r hmem)
    · exact List.mem_cons_of_mem _ (ih r hr)

theorem State.loseLink_sent (k : State) : k.loseLink.uplink.records.any UplinkRecord.sent = false := by
  rw [State.loseLink_uplink, List.any_eq_false]
  intro r hr
  obtain ⟨q, -, rfl⟩ := List.mem_map.1 (parted_subset false _ r hr)
  exact Bool.false_ne_true

theorem State.shareReset_resetShare (k : State) (p : Port) : ShareReset k (k.resetShare p) p := by
  cases p with
  | console => rfl
  | tender =>
    refine ⟨fun h => State.timeOutTaken_of_none h false, fun pre t post g c hring hpre ht hc => ?_⟩
    exact State.timedOut_timeOutTaken hring hpre ht hc false
  | link =>
    have hreset : k.resetShare .link = k.withoutAssembly.loseLink := by
      rw [State.resetShare, State.discardAssembly_eq]
    rw [ShareReset, hreset]
    refine ⟨?_, ?_, k.withoutAssembly.recordsReturned_loseLink, ?_⟩
    · have hfloor : k.withoutAssembly.loseLink.floor =
          { k.withoutAssembly.floor with link := .down } := by
        unfold State.loseLink State.unsend
        exact foldl_keeps State.uncount State.floor (fun s i => by simp) _ _
      exact hfloor
    · simp
    · apply State.ext_fields <;> simp

/-- The state after the port has left its waiter list. -/
def State.waitLeft (v : State) (p : Port) : State :=
  match v.holds.waits.get p with
  | some i => v.leaveList p i
  | none => v

theorem State.waitLeft_waitLeft (v : State) (p : Port) : WaitLeft v (v.waitLeft p) p := by
  refine ⟨fun h => by simp only [State.waitLeft, h], fun i h => ?_⟩
  have hleft : v.waitLeft p = v.leaveList p i := by simp only [State.waitLeft, h]
  rw [hleft]
  refine ⟨?_, v.onlyEntry_leaveList p i, ?_, ?_⟩
  · rw [State.leaveList, State.setWait, State.setHolds_check, State.check_modCheck, if_pos rfl]
  · simp [State.leaveList, State.setWait]
  · apply State.ext_fields <;> simp

theorem State.holdsEnded_foldl (p : Port) (l : List (Fin 64)) (r : State) :
    HoldsEnded p l r (l.foldl (State.releaseAt p) r) := by
  induction l generalizing r with
  | nil => rfl
  | cons i rest ih =>
    refine ⟨fun h => ?_, fun c hc hp => ?_⟩
    · rw [List.foldl_cons, State.releaseAt, if_neg h]
      exact ih r
    · have hholder : r.holderOf i = some p := (State.holderOf_of_check hc).trans hp
      have hdrop := State.dropHold_of_holder hc hp
      refine ⟨r.dropHold i, ?_, ?_, ?_, ?_, ?_⟩
      · rw [hdrop]
        exact (State.check_putCheck r i i _).trans (if_pos rfl)
      · rw [hdrop]
        exact (r.onlyEntry_putCheck i _).trans (State.onlyEntry_of_table rfl)
      · rw [hdrop]
        rfl
      · apply State.ext_fields <;> simp
      · rw [List.foldl_cons, State.releaseAt, if_pos hholder]
        exact ih _

end

end Sys2Proof.Machine
end

section
/-!
SUPPORT. A port that waits nowhere is granted no hold (R64, R75, R76), and what PORT_RESET leaves (R179).
-/

namespace Sys2Proof.Machine

/-! ### The port is granted nothing -/

section
variable {s : State} {i : Fin 64} {p : Port}

/-- Against another state, a port has no new hold, and waits nowhere. -/
structure Unseated (p : Port) (s t : State) : Prop where
  holder : ∀ j, t.holderOf j = some p → s.holderOf j = some p
  waits : t.holds.waits.get p = none

theorem Unseated.trans {t w : State} (h : Unseated p s t) (k : Unseated p t w) : Unseated p s w where
  holder j hj := h.holder j (k.holder j hj)
  waits := k.waits

theorem Unseated.of_seats {t : State} (h : t.seats = s.seats) (hw : s.holds.waits.get p = none) :
    Unseated p s t where
  holder j hj := by
    have hholder : t.holderOf j = s.holderOf j := congrFun (congrArg Seats.holder h) j
    rwa [← hholder]
  waits := by
    have hwaits : t.holds.waits = s.holds.waits := congrArg Seats.waits h
    rwa [hwaits]

theorem Unseated.endWait (hw : s.holds.waits.get p = none) (q : Port) : Unseated p s (s.endWait q) where
  holder j hj := hj
  waits := by
    have hwaits : (s.endWait q).holds.waits = s.holds.waits.set q none := by
      simp [State.endWait, State.setWait]
    rw [hwaits, PerPort.get_set, hw, ite_self]

theorem State.holderOf_modCheck (s : State) (i j : Fin 64) {f : Check → Check}
    (hf : ∀ c, (f c).holder = c.holder) : (s.modCheck i f).holderOf j = s.holderOf j := by
  rw [State.holderOf, State.check_modCheck]
  split
  · next hj =>
    subst hj
    cases hc : s.check j with
    | none => rw [State.holderOf_of_free hc, Option.map_none, Option.bind_none]
    | some c => exact (hf c).trans (State.holderOf_of_check hc).symm
  · rfl

theorem Unseated.setWaiters (l : List Port) (hw : s.holds.waits.get p = none) :
    Unseated p s (s.modCheck i fun c => { c with waiters := l }) where
  holder j hj := (State.holderOf_modCheck s i j (f := fun c => { c with waiters := l })
    fun _ => rfl).symm.trans hj
  waits := by simpa using hw

/-- The hold passes to another port. -/
theorem Unseated.grantHold {q : Port} (hq : p ≠ q) (hw : s.holds.waits.get p = none) :
    Unseated p s (s.grantHold q i) where
  holder j hj := by
    have hcheck : (s.grantHold q i).check j =
        if j = i then (s.check i).map fun c => { c with hold := some ⟨q, s.fullLease⟩ }
        else s.check j := State.check_modCheck s i j _
    rw [State.holderOf, hcheck] at hj
    split at hj
    · cases hc : s.check i with
      | none => simp [hc] at hj
      | some c => simp [hc, Check.holder, hq.symm] at hj
    · exact hj
  waits := by
    have hwaits : (s.grantHold q i).holds.waits = s.holds.waits := by
      simp [State.grantHold, State.setCount]
    rwa [hwaits]

theorem Unseated.grantWaiters {l : List Port} (hp : p ∉ l) (hw : s.holds.waits.get p = none) :
    Unseated p s (State.grantWaiters i l s) := by
  induction l generalizing s with
  | nil => exact .setWaiters [] hw
  | cons q rest ih =>
    obtain ⟨hq, hrest⟩ := not_or.1 (mt List.mem_cons.2 hp)
    unfold State.grantWaiters
    split
    · have hgranted := Unseated.grantHold (i := i) hq hw
      have hleft := hgranted.trans (Unseated.setWaiters (i := i) rest hgranted.waits)
      have hended := Unseated.endWait hleft.waits q
      exact hleft.trans ⟨hended.holder, hended.waits⟩
    · have hpassed := Unseated.endWait hw q
      exact hpassed.trans (ih hrest hpassed.waits)

/-- The law of holds keeps a port that waits nowhere off every waiter list. -/
theorem Seated.not_mem_waiters {but : Option (Fin 64)} (h : Seated but s.seats)
    (hw : s.holds.waits.get p = none) (j : Fin 64) : p ∉ s.waitersOf j := fun hmem => by
  have hwaits : s.holds.waits.get p = some j := (h.waits p j).1 hmem
  rw [hw] at hwaits
  cases hwaits

/-- A pending image that is tried gives nobody a hold or a wait. -/
theorem Unseated.tryPending (h : Seated (some i) s.seats) (hw : s.holds.waits.get p = none) :
    Unseated p s (s.tryPending i) := by
  obtain hsame | ⟨hfree, hfreed⟩ := s.tryPending_seats i
  · exact .of_seats hsame hw
  · obtain ⟨hothers, -⟩ := s.onlyEntry_tryPending i
    refine ⟨fun j hj => ?_, Option.eq_none_iff_forall_ne_some.2 fun j hj => ?_⟩
    · by_cases hji : j = i
      · subst hji
        rw [State.holderOf_of_free hfree] at hj
        cases hj
      · rwa [State.holderOf, hothers j hji] at hj
    · have hmem : p ∈ (s.tryPending i).waitersOf j := ((hfreed h).waits p j).2 hj
      by_cases hji : j = i
      · subst hji
        rw [State.waitersOf_of_free hfree] at hmem
        cases hmem
      · rw [State.waitersOf, hothers j hji] at hmem
        exact h.not_mem_waiters hw j hmem

theorem Unseated.endOfHold (h : Seated (some i) s.seats) (hw : s.holds.waits.get p = none) :
    Unseated p s (s.endOfHold i) := by
  have htried := Unseated.tryPending h hw
  unfold State.endOfHold
  dsimp only
  split
  · exact htried
  · next c hc =>
    have hp : p ∉ c.waiters := by
      obtain hsame | ⟨hfree, -⟩ := s.tryPending_seats i
      · rw [← State.waitersOf_of_check hc]
        exact Seated.not_mem_waiters (hsame ▸ h) htried.waits i
      · rw [hc] at hfree
        cases hfree
    have hgranted := htried.trans (Unseated.grantWaiters (i := i) hp htried.waits)
    split
    · exact hgranted.trans (.of_seats (State.sameCore_scheduleDeltas _).seats hgranted.waits)
    · exact hgranted

/-- The holds of a port that waits nowhere end, and none is granted to it. -/
theorem Unseated.releaseAt (h : Seated none s.seats) (hw : s.holds.waits.get p = none) :
    Seated none (State.releaseAt p s i).seats ∧ Unseated p s (State.releaseAt p s i) ∧
      (State.releaseAt p s i).holderOf i ≠ some p := by
  unfold State.releaseAt
  split
  · next hi =>
    obtain ⟨hdropped, hnone⟩ := (h.open (some i)).dropHold
    have hwaits : (s.dropHold i).holds.waits.get p = none := by
      have : (s.dropHold i).holds.waits = s.holds.waits :=
        congrArg Seats.waits (s.seats_dropHold i p hi)
      rwa [this]
    have hended := Unseated.endOfHold hdropped hwaits
    have hfewer (j : Fin 64) (hj : (s.dropHold i).holderOf j = some p) : s.holderOf j = some p := by
      by_cases hji : j = i
      · rwa [hji]
      · have hholder : (s.dropHold i).holderOf j = s.holderOf j :=
          (congrFun (congrArg Seats.holder (s.seats_dropHold i p hi)) j).trans (if_neg hji)
        rwa [← hholder]
    refine ⟨hdropped.endOfHold hnone, ⟨fun j hj => hfewer j (hended.holder j hj), hended.waits⟩,
      fun hj => ?_⟩
    have hholder : (s.dropHold i).holderOf i = none := hnone
    rw [hended.holder i hj] at hholder
    cases hholder
  · next hi => exact ⟨h, ⟨fun j hj => hj, hw⟩, hi⟩

theorem Unseated.foldl_releaseAt (l : List (Fin 64)) (h : Seated none s.seats)
    (hw : s.holds.waits.get p = none) :
    Unseated p s (l.foldl (State.releaseAt p) s) ∧
      ∀ j ∈ l, (l.foldl (State.releaseAt p) s).holderOf j ≠ some p := by
  induction l generalizing s with
  | nil => exact ⟨⟨fun j hj => hj, hw⟩, fun j hj => nomatch hj⟩
  | cons i rest ih =>
    obtain ⟨hseated, hreleased, hi⟩ := Unseated.releaseAt (i := i) h hw
    obtain ⟨hrest, hnone⟩ := ih hseated hreleased.waits
    refine ⟨hreleased.trans hrest, fun j hj hholds => ?_⟩
    obtain rfl | hmem := List.mem_cons.1 hj
    · exact hi (hrest.holder j hholds)
    · exact hnone j hmem hholds

theorem Seated.waitLeft (h : Seated none s.seats) (p : Port) :
    Seated none (s.waitLeft p).seats ∧ (s.waitLeft p).holds.waits.get p = none := by
  unfold State.waitLeft
  split
  · next i hi =>
    exact ⟨h.leaveList ((h.waits p i).2 hi), by simp [State.leaveList, State.setWait]⟩
  · next hi => exact ⟨h, hi⟩

theorem State.releaseAll_eq (v : State) (p : Port) :
    v.releaseAll p = (List.finRange 64).foldl (State.releaseAt p) (v.waitLeft p) := rfl

/-- After the release a port holds nothing and waits nowhere. -/
theorem Seated.releaseAll_empty (h : Seated none s.seats) (p : Port) :
    (∀ i, (s.releaseAll p).holderOf i ≠ some p) ∧ (s.releaseAll p).holds.waits.get p = none := by
  obtain ⟨hseated, hwaits⟩ := h.waitLeft p
  obtain ⟨hreleased, hnone⟩ := Unseated.foldl_releaseAt (List.finRange 64) hseated hwaits
  rw [State.releaseAll_eq]
  exact ⟨fun i => hnone i (List.mem_finRange i), hreleased.waits⟩

end

/-! ### What PORT_RESET leaves -/

/-- The state before PORT_RESET clears the port's flags and enables. -/
def State.resetBlocks (u : State) (p : Port) : State := ((u.closeChannel p).resetShare p).releaseAll p

/-- The state after PORT_RESET. -/
def State.portReset (u : State) (p : Port) : State :=
  (u.resetBlocks p).setAttn
    ⟨(u.resetBlocks p).attn.flags.set p 0, (u.resetBlocks p).attn.enables.set p 0⟩

theorem portResetRule_eq (p : Port) (u : State) : portResetRule p u = (u.portReset p).accept [] := by
  simp only [portResetRule, State.portReset, State.resetBlocks]

theorem State.resetShare_enables (k : State) (p : Port) :
    (k.resetShare p).attn.enables = k.attn.enables := by
  cases p with
  | console => rfl
  | tender =>
    unfold State.resetShare State.timeOutTaken
    dsimp only
    split
    · rfl
    · simp [State.countTotals]
  | link => simp [State.resetShare]

section
variable (u : State) (p : Port)

theorem State.resetBlocks_cleared : StaysCleared ((u.closeChannel p).resetShare p) (u.resetBlocks p) :=
  StaysCleared.releaseAll _ p

theorem State.portReset_same : SameBut [.attn] (u.resetBlocks p) (u.portReset p) := by
  simp [SameBut, State.portReset]

theorem State.portReset_streams : (u.portReset p).streams.get p = .idle := by
  obtain ⟨-, -, -, -, -, -, -, -, -, -, -, -, hkept, -⟩ := (u.closeChannel p).resetShare_same p
  rw [State.portReset, State.setAttn_streams]
  refine (u.resetBlocks_cleared p).idle p ?_
  rw [hkept (by simp), State.closeChannel_streams, PerPort.get_set, if_pos rfl]

theorem State.portReset_enables :
    (u.portReset p).attn.enables = u.attn.enables.set p 0 := by
  have henables := (u.resetBlocks_cleared p).enables
  rw [State.resetShare_enables] at henables
  rw [State.portReset, State.setAttn_attn]
  simp [henables]

theorem State.setAttn_holderOf (s : State) (v : AttnUnit) (i : Fin 64) :
    (s.setAttn v).holderOf i = s.holderOf i := rfl

theorem State.portReset_unseated (h : u.HoldsAgree) :
    (∀ i, (u.portReset p).holderOf i ≠ some p) ∧ (u.portReset p).holds.waits.get p = none := by
  have hseats : ((u.closeChannel p).resetShare p).seats = u.seats :=
    (State.seats_resetShare _ p).trans (u.seats_closeChannel p)
  have hseated : Seated none ((u.closeChannel p).resetShare p).seats := by
    rw [hseats]
    exact u.holdsAgree_iff.1 h
  obtain ⟨hnone, hwaits⟩ := hseated.releaseAll_empty p
  obtain ⟨-, -, -, -, -, -, hholds, -⟩ := u.portReset_same p
  refine ⟨fun i => ?_, ?_⟩
  · rw [State.portReset, State.setAttn_holderOf]
    exact hnone i
  · rw [hholds (by simp), State.resetBlocks]
    exact hwaits

/-- After the port's share is reset, the release leaves staging, totals and floor. -/
theorem State.portReset_kept :
    (u.portReset p).staging = ((u.closeChannel p).resetShare p).staging ∧
      (u.portReset p).totals = ((u.closeChannel p).resetShare p).totals ∧
      (u.portReset p).floor = ((u.closeChannel p).resetShare p).floor := by
  obtain ⟨-, -, -, -, hstaging, -, -, -, -, htotals, hfloor, -⟩ :=
    ((u.closeChannel p).resetShare p).releaseAll_same p
  rw [State.portReset, State.resetBlocks, State.setAttn_staging, State.setAttn_totals,
    State.setAttn_floor]
  exact ⟨hstaging (by simp), htotals (by simp), hfloor (by simp)⟩

theorem State.portReset_console : (u.portReset .console).staging =
      ⟨StagingRecord.invalid, StagingRecord.invalid⟩ ∧ (u.portReset .console).uplink.mark = none ∧
      (u.portReset .console).totals = ⟨u.totals.live, none⟩ := by
  obtain ⟨hstaging, htotals, -⟩ := u.portReset_kept .console
  refine ⟨hstaging, ?_, ?_⟩
  · rw [State.portReset, State.setAttn_uplink, (u.resetBlocks_cleared .console).mark]
    rfl
  · rw [htotals]
    simp [State.resetShare]

theorem State.portReset_tender (h : (u.ring.tenders.filter Tender.isTaken).length ≤ 1) :
    (u.portReset .tender).ring.tenders.any Tender.isTaken = false := by
  rw [State.portReset, State.setAttn_ring]
  refine (u.resetBlocks_cleared .tender).taken (State.timeOutTaken_taken ?_)
  simpa using h

theorem State.portReset_link : (u.portReset .link).floor.link = .down ∧
      (u.portReset .link).floor.assembly = none ∧
      (u.portReset .link).uplink.records.any UplinkRecord.sent = false := by
  obtain ⟨-, -, hfloor⟩ := u.portReset_kept .link
  obtain ⟨hdown, -⟩ := (u.closeChannel .link).shareReset_resetShare .link
  rw [hfloor, hdown]
  refine ⟨rfl, rfl, ?_⟩
  rw [State.portReset, State.setAttn_uplink]
  exact (u.resetBlocks_cleared .link).sent (State.loseLink_sent _)

theorem State.timeOutTaken_snapshot (k : State) (expired : Bool) :
    (k.timeOutTaken expired).totals.snapshot = k.totals.snapshot := by
  unfold State.timeOutTaken
  dsimp only
  split
  · rfl
  · cases expired <;> simp [State.countTotals]

variable {p}

theorem State.portReset_other (h : p ≠ .console) : (u.portReset p).staging = u.staging ∧
      (u.portReset p).totals.snapshot = u.totals.snapshot := by
  obtain ⟨hstaging, htotals, -⟩ := u.portReset_kept p
  rw [hstaging, htotals]
  cases p with
  | console => exact absurd rfl h
  | tender =>
    rw [State.resetShare, State.timeOutTaken_snapshot]
    simp
  | link => simp [State.resetShare]

theorem State.portReset_floor (h : p ≠ .link) : (u.portReset p).floor.link = u.floor.link := by
  obtain ⟨-, -, hfloor⟩ := u.portReset_kept p
  have hclosed : (u.closeChannel p).floor.link = u.floor.link := by rw [State.closeChannel_floor]
  rw [hfloor, ← hclosed]
  cases p with
  | console => simp [State.resetShare]
  | tender => simp [State.resetShare]
  | link => exact absurd rfl h

end

/-- Settles O11: the four stages of the rule, and what the ends of holds leave cleared. -/
theorem portResetClearsItsShare : Obligations.PortResetClearsItsShare := by
  unfold Obligations.PortResetClearsItsShare
  intro x s u he hs p
  have hsame := portResetRule_same p u
  rw [portResetRule_eq] at hsame
  obtain ⟨-, hports, -, -, -, -, -, -, hoffline, -, -, -, -, hmodes⟩ := hsame
  refine ⟨u.closeChannel p, (u.closeChannel p).resetShare p,
    ((u.closeChannel p).resetShare p).waitLeft p, u.resetBlocks p, u.portReset p,
    exec_of_served rfl he hs (portResetRule_eq _ u), ?idle, u.channelLeft_closeChannel p,
    State.shareReset_resetShare _ p, State.waitLeft_waitLeft _ p, State.holdsEnded_foldl p _ _, rfl,
    u.portReset_streams p, u.portReset_enables p, ?console, ?tender, ?link, u.portReset_other,
    u.portReset_floor, u.portReset_unseated p, hoffline (by simp), hmodes (by simp),
    hports (by simp)⟩
  case idle => rw [State.closeChannel_streams, PerPort.get_set, if_pos rfl]
  case console =>
    intro hp
    rw [hp]
    exact u.portReset_console
  case tender =>
    intro hp
    rw [hp]
    exact u.portReset_tender
  case link =>
    intro hp
    rw [hp]
    exact u.portReset_link

end Sys2Proof.Machine
end
